-- ==== Sys2Proof/Word.lean ====
section
/-!
DEFINITION. The words of the part: a byte of a frame, and the two-byte and three-byte numbers of R197.
-/
namespace Sys2Proof

/-- One byte of a frame (R184, R197). -/
abbrev Byte := BitVec 8

/-- A two-byte number: drain time, live time, linger, channel pointer (R197). -/
abbrev Half := BitVec 16

/-- A three-byte number: a site second or a second of day (R197). -/
abbrev Triple := BitVec 24

end Sys2Proof
end

