-- ==== Sys2Proof/Config.lean ====
section
/-!
DEFINITION. What is fixed for the part, and the free values: what the manual leaves open.
-/
namespace Sys2Proof

/-- Seconds of a week; site time counts modulo this (R99). -/
def Config.weekSeconds : Nat := 604800

/-- Seconds of a day (R99). -/
def Config.daySeconds : Nat := 86400

/-- Places of a port's inbound queue (R183). -/
def Config.inboundPlaces : Nat := 4

/-- Places of a port's reply queue (R183). -/
def Config.replyPlaces : Nat := 4

/-- Notices a port keeps before the next one turns into OVERFLOW (R190). -/
def Config.noticePlaces : Nat := 15

/-- Records the Fault Stack holds (R162). -/
def Config.stackPlaces : Nat := 8

/-- Members a branch can have (R4). -/
def Config.memberPlaces : Nat := 6

/-- The orders in which the Carrier Table, the Branch Controller and the Rest Channels may take their
reactions to SAFE_HALT. R177: "the reactions may be taken in any order among themselves". The Cause and
Line Unit's reaction changes output lines only, which this model derives from the halt state. -/
inductive HaltOrder where
  | carriersBranchesChannels
  | carriersChannelsBranches
  | branchesCarriersChannels
  | branchesChannelsCarriers
  | channelsCarriersBranches
  | channelsBranchesCarriers
  deriving DecidableEq, Repr, Inhabited

/-- FREE VALUE (log 5): the order taken at the `n`-th halt entry. R177 allows every order. -/
opaque Config.haltOrder : Nat → HaltOrder

/-- FREE VALUE (log 6): whether the halt state byte of the site image is coded by the position in
"halted or not halted" (R175, R197: halted 0) or as a yes/no field (halted 1). -/
opaque Config.haltCodedByPosition : Bool

end Sys2Proof
end

