-- ==== Sys2Proof/Syntax.lean ====
section
/-!
DEFINITION. The commands the part takes: one constructor of `Instr` for each row of spec/opcode_table.json.
-/
namespace Sys2Proof

/-! Indices start at 0 and their ranges are those of 00_scope.md, "Numbering". -/

abbrev CarrierId := Fin 48
abbrev BranchId := Fin 16
abbrev WindowId := Fin 8
abbrev ChannelId := Fin 8
abbrev SlotId := Fin 16
abbrev InputId := Fin 8
abbrev OutputId := Fin 4
abbrev SectorId := Fin 6
abbrev TenantId := Fin 4

/-- The six link ports; the role of each is fixed by its position (R183). -/
inductive Port where
  | tenant (t : TenantId)
  | plant
  | fleet
  deriving DecidableEq, Repr

/-- The part of a select period that a READ_TRANSACTION command stands for (R184, R187). The summary byte reports the
port at the assertion of select, a frame is chosen when the read code has been clocked in and removed at the release,
and other events may lie between. The assertion is the same for a write, whose first byte comes after it. The bytes that
the master sends in a READ_TRANSACTION are 0x00 (log 13). -/
inductive ReadPhase where
  /-- the whole select period, `clocked` bytes of it, with nothing between -/
  | whole (clocked : Nat)
  /-- select asserted, and no byte clocked yet; the period is a read or a write by what follows -/
  | asserted
  /-- the read code clocked in, after an assertion of its own or with it -/
  | opened
  /-- `more` bytes clocked in a select period that goes on -/
  | clocked (more : Nat)
  /-- select released after `clocked` bytes in all; none makes an empty select period -/
  | released (clocked : Nat)
  deriving DecidableEq, Repr

/-- The part of a select period that a WRITE_TRANSACTION command stands for (R184, R186): its bytes are those the master
sends, and other events may lie between the parts (log 13). -/
inductive WritePhase where
  /-- the whole select period, or all of it after its assertion -/
  | whole (bytes : List Byte)
  /-- `bytes` clocked in a select period that goes on -/
  | clocked (bytes : List Byte)
  /-- `bytes` clocked in the select period in progress, and select released -/
  | released (bytes : List Byte)
  deriving DecidableEq, Repr

/-- The commands. A request row is the taking, by a port, of a request frame of that kind; its operands are
the port and the payload of R199 as raw bytes, so that a value outside its coding is an operand too (R197). -/
inductive Instr where
  -- requests of the tenants
  | offer (port : Port) (carrier : Byte)
  | withdraw (port : Port) (carrier : Byte)
  | drained (port : Port) (carrier : Byte)
  | live (port : Port) (carrier : Byte)
  | wake (port : Port) (carrier level : Byte)
  | hold (port : Port) (carrier level : Byte)
  | release (port : Port) (carrier : Byte)
  -- requests of the plant controller
  | forceWake (port : Port) (scope index : Byte)
  | setBudget (port : Port) (budget : Byte)
  | setRamp (port : Port) (rampDown rampUp : Byte)
  | pin (port : Port) (branch : Byte)
  | unpin (port : Port) (branch : Byte)
  | returnBranch (port : Port) (branch : Byte)
  | resolve (port : Port) (kind subject disposition : Byte)
  | halt (port : Port)
  | setHoldMode (port : Port) (mode invert : Byte)
  | clearHold (port : Port)
  | setOutput (port : Port) (output source channel : Byte)
  | startChannel (port : Port) (channel : Byte)
  -- requests of the fleet link
  | provisionBranch (port : Port) (branch : Byte)
  | deprovisionBranch (port : Port) (branch : Byte)
  | provisionCarrier (port : Port) (carrier owner sector branch layer window : Byte)
  | deprovisionCarrier (port : Port) (carrier : Byte)
  | setFloor (port : Port) (tenant sector floor : Byte)
  | setTimers (port : Port) (drainTime liveTime linger : Half)
  | setDrainLimit (port : Port) (tenant limit : Byte)
  | setTime (port : Port) (second : Triple)
  | writeWindow (port : Port) (window enabled : Byte) (openSecond closeSecond : Triple) (dayMask quiet : Byte)
  | commitWindow (port : Port) (window : Byte)
  | writeChannel (port : Port)
      (channel mode pointerMode base count groupSize linkEnable linkTarget completionNotice : Byte)
  | writeList (port : Port) (first number : Byte) (entries : List Byte)
  | mapCause (port : Port) (slot target enable disarm : Byte)
  | clearCause (port : Port) (slot : Byte)
  | setInput (port : Port) (input edgeMode role level tenantMask sectorMask : Byte)
  | restart (port : Port)
  -- reads
  | readSite (port : Port)
  | readCarrier (port : Port) (carrier : Byte)
  | readBranch (port : Port) (branch : Byte)
  | readWindow (port : Port) (window : Byte)
  | readChannel (port : Port) (channel : Byte)
  | readCauses (port : Port)
  | readFaults (port : Port) (depth : Byte)
  -- the ports themselves
  | portReset (port : Port)
  | unknownRequestFrame (port : Port) (frame : List Byte)
  | writeTransaction (port : Port) (phase : WritePhase)
  | readTransaction (port : Port) (phase : ReadPhase)
  -- resets and time
  | deviceReset
  | siteTimeAdvance
  | drainDeadlineExpiry (carrier : CarrierId)
  | liveDeadlineExpiry (carrier : CarrierId)
  | lingerDeadlineExpiry (branch : BranchId)
  | rampDownDeadlineExpiry (branch : BranchId)
  | rampUpDeadlineExpiry (branch : BranchId)
  | donePulseEnd (output : OutputId)
  -- site lines
  | bgdFall (branch : BranchId)
  | bgdRise (branch : BranchId)
  | evEdge (input : InputId) (high : Bool)
  | holdawkEdge (high : Bool)
  -- the Rest Channels
  | channelStep (channel : ChannelId)
  | endOfDeviceReset
  deriving DecidableEq, Repr

end Sys2Proof
end

