-- ==== Sys2Proof/Decode.lean ====
section
/-!
DEFINITION. Request frames: the check byte, the request kinds, the port's checks of a frame, the command that
takes a frame, and the frame a request command stands for. The opcode table gives no row any bits, so
`decodeTableWord` answers none.
-/
namespace Sys2Proof

/-! The check byte (R185). -/

/-- One shift of the running value; 0x07 is combined in when the bit shifted out is 1 (R185). -/
def crcShift (v : Byte) : Byte :=
  if v.getLsbD 7 then (v <<< 1) ^^^ 0x07#8 else v <<< 1

/-- One byte of the frame: exclusive-or, then eight shifts (R185). -/
def crcByte (v b : Byte) : Byte :=
  Nat.repeat crcShift 8 (v ^^^ b)

/-- CRC-8 with polynomial x^8+x^2+x+1 and initial value 0 (R185). -/
def crc8 (bytes : List Byte) : Byte :=
  bytes.foldl crcByte 0#8

/-! Numbers as bytes, most significant byte first (R197). -/

def byteOf (n : Nat) : Byte := BitVec.ofNat 8 n

def twoBytes (n : Nat) : List Byte := [byteOf (n / 256), byteOf n]

def threeBytes (n : Nat) : List Byte := [byteOf (n / 65536), byteOf (n / 256), byteOf n]

def halfOf (a b : Byte) : Half := BitVec.ofNat 16 (a.toNat * 256 + b.toNat)

def tripleOf (a b c : Byte) : Triple := BitVec.ofNat 24 (a.toNat * 65536 + b.toNat * 256 + c.toNat)

/-- The three roles of ports (R183). -/
inductive Role where
  | tenant
  | plant
  | fleet
  deriving DecidableEq, Repr

def Port.role : Port → Role
  | .tenant _ => .tenant
  | .plant => .plant
  | .fleet => .fleet

/-- The request kinds of R199. -/
inductive RequestKind where
  | offer | withdraw | drained | live | wake | hold | release
  | forceWake | setBudget | setRamp | pin | unpin | returnBranch | resolve | halt | setHoldMode | clearHold
  | setOutput | startChannel
  | provisionBranch | deprovisionBranch | provisionCarrier | deprovisionCarrier | setFloor | setTimers
  | setDrainLimit | setTime | writeWindow | commitWindow | writeChannel | writeList | mapCause | clearCause
  | setInput | restart
  | readSite | readCarrier | readBranch | readWindow | readChannel | readCauses | readFaults
  | portReset
  deriving DecidableEq, Repr

/-- One row of R199's table: the kind, its code, its payload length (`none` where the kind allows several), and
whether the tenant, plant and fleet roles permit it (R192). -/
structure KindRow where
  kind : RequestKind
  code : Byte
  length : Option Nat
  tenant : Bool
  plant : Bool
  fleet : Bool
  deriving DecidableEq, Repr

/-- R199's table row of a kind, with the permissions of R192. -/
def RequestKind.row (k : RequestKind) : KindRow :=
  match k with
  | .offer => ⟨k, 0x01#8, some 1, true, false, false⟩
  | .withdraw => ⟨k, 0x02#8, some 1, true, false, false⟩
  | .drained => ⟨k, 0x03#8, some 1, true, false, false⟩
  | .live => ⟨k, 0x04#8, some 1, true, false, false⟩
  | .wake => ⟨k, 0x05#8, some 2, true, false, false⟩
  | .hold => ⟨k, 0x06#8, some 2, true, true, false⟩
  | .release => ⟨k, 0x07#8, some 1, true, true, false⟩
  | .forceWake => ⟨k, 0x10#8, some 2, false, true, false⟩
  | .setBudget => ⟨k, 0x11#8, some 1, false, true, false⟩
  | .setRamp => ⟨k, 0x12#8, some 2, false, true, false⟩
  | .pin => ⟨k, 0x13#8, some 1, false, true, false⟩
  | .unpin => ⟨k, 0x14#8, some 1, false, true, false⟩
  | .returnBranch => ⟨k, 0x15#8, some 1, false, true, false⟩
  | .resolve => ⟨k, 0x16#8, some 3, false, true, false⟩
  | .halt => ⟨k, 0x17#8, some 0, false, true, false⟩
  | .setHoldMode => ⟨k, 0x18#8, some 2, false, true, false⟩
  | .clearHold => ⟨k, 0x19#8, some 0, false, true, false⟩
  | .setOutput => ⟨k, 0x1A#8, some 3, false, true, false⟩
  | .startChannel => ⟨k, 0x1B#8, some 1, false, true, true⟩
  | .provisionBranch => ⟨k, 0x20#8, some 1, false, false, true⟩
  | .deprovisionBranch => ⟨k, 0x21#8, some 1, false, false, true⟩
  | .provisionCarrier => ⟨k, 0x22#8, some 6, false, false, true⟩
  | .deprovisionCarrier => ⟨k, 0x23#8, some 1, false, false, true⟩
  | .setFloor => ⟨k, 0x24#8, some 3, false, false, true⟩
  | .setTimers => ⟨k, 0x25#8, some 6, false, false, true⟩
  | .setDrainLimit => ⟨k, 0x26#8, some 2, false, false, true⟩
  | .setTime => ⟨k, 0x27#8, some 3, false, false, true⟩
  | .writeWindow => ⟨k, 0x28#8, some 10, false, false, true⟩
  | .commitWindow => ⟨k, 0x29#8, some 1, false, false, true⟩
  | .writeChannel => ⟨k, 0x2A#8, some 9, false, false, true⟩
  | .writeList => ⟨k, 0x2B#8, none, false, false, true⟩
  | .mapCause => ⟨k, 0x2C#8, some 4, false, false, true⟩
  | .clearCause => ⟨k, 0x2D#8, some 1, false, false, true⟩
  | .setInput => ⟨k, 0x2E#8, some 6, false, false, true⟩
  | .restart => ⟨k, 0x2F#8, some 0, false, false, true⟩
  | .readSite => ⟨k, 0x30#8, some 0, true, true, true⟩
  | .readCarrier => ⟨k, 0x31#8, some 1, true, true, true⟩
  | .readBranch => ⟨k, 0x32#8, some 1, true, true, true⟩
  | .readWindow => ⟨k, 0x33#8, some 1, true, true, true⟩
  | .readChannel => ⟨k, 0x34#8, some 1, false, true, true⟩
  | .readCauses => ⟨k, 0x35#8, some 0, false, true, true⟩
  | .readFaults => ⟨k, 0x36#8, some 1, false, true, true⟩
  | .portReset => ⟨k, 0x3F#8, some 0, true, true, true⟩

def RequestKind.code (k : RequestKind) : Byte := k.row.code

/-- The kinds in the order of R199's table. -/
def requestKinds : List RequestKind :=
  [.offer, .withdraw, .drained, .live, .wake, .hold, .release,
    .forceWake, .setBudget, .setRamp, .pin, .unpin, .returnBranch, .resolve, .halt, .setHoldMode, .clearHold,
    .setOutput, .startChannel,
    .provisionBranch, .deprovisionBranch, .provisionCarrier, .deprovisionCarrier, .setFloor, .setTimers]
  ++ [.setDrainLimit, .setTime, .writeWindow, .commitWindow, .writeChannel, .writeList, .mapCause, .clearCause,
    .setInput, .restart,
    .readSite, .readCarrier, .readBranch, .readWindow, .readChannel, .readCauses, .readFaults, .portReset]

/-- The kind whose code a kind byte is, if it is one (R188 check 3, R199). -/
def requestKindOf (code : Byte) : Option RequestKind :=
  requestKinds.find? (fun k => k.code == code)

/-- Whether a kind allows a payload of `n` bytes (R199; WRITE_LIST allows lengths 3 to 18). -/
def RequestKind.allowsLength (k : RequestKind) (n : Nat) : Bool :=
  match k.row.length with
  | some m => n == m
  | none => decide (3 ≤ n) && decide (n ≤ 18)

/-- Whether a role permits a kind (R192). -/
def RequestKind.permitted (k : RequestKind) (r : Role) : Bool :=
  match r with
  | .tenant => k.row.tenant
  | .plant => k.row.plant
  | .fleet => k.row.fleet

/-- The frame of a request: kind, length, payload, check byte (R198). -/
def requestFrame (k : RequestKind) (payload : List Byte) : List Byte :=
  let body := k.code :: byteOf payload.length :: payload
  body ++ [crc8 body]

/-- What checks 1 to 3 of R188 say of a frame. -/
inductive FrameCheck where
  /-- check 1 or check 3 failed: UNKNOWN -/
  | unknown
  /-- check 2 failed: CHECK -/
  | badCheckByte
  /-- a request of this kind with this payload -/
  | passed (kind : RequestKind) (payload : List Byte)
  deriving DecidableEq, Repr

/-- Checks 1 to 3 of R188, in that order. -/
def frameCheck (frame : List Byte) : FrameCheck :=
  let length := (frame.getD 1 0#8).toNat
  if frame.length < 3 ∨ 24 < length ∨ frame.length ≠ length + 3 then .unknown
  else if crc8 frame.dropLast ≠ frame.getLastD 0#8 then .badCheckByte
  else
    match requestKindOf (frame.headD 0#8) with
    | none => .unknown
    | some k => if k.allowsLength length then .passed k ((frame.drop 2).take length) else .unknown

/-- The request command a kind and its payload spell on a port; the frame itself for a length that does not fit. -/
def commandOfRequest (p : Port) (frame : List Byte) (k : RequestKind) (payload : List Byte) : Instr :=
  match k, payload with
  | .offer, [c] => .offer p c
  | .withdraw, [c] => .withdraw p c
  | .drained, [c] => .drained p c
  | .live, [c] => .live p c
  | .wake, [c, l] => .wake p c l
  | .hold, [c, l] => .hold p c l
  | .release, [c] => .release p c
  | .forceWake, [sc, i] => .forceWake p sc i
  | .setBudget, [b] => .setBudget p b
  | .setRamp, [d, u] => .setRamp p d u
  | .pin, [b] => .pin p b
  | .unpin, [b] => .unpin p b
  | .returnBranch, [b] => .returnBranch p b
  | .resolve, [k', su, d] => .resolve p k' su d
  | .halt, [] => .halt p
  | .setHoldMode, [m, i] => .setHoldMode p m i
  | .clearHold, [] => .clearHold p
  | .setOutput, [o, so, c] => .setOutput p o so c
  | .startChannel, [c] => .startChannel p c
  | .provisionBranch, [b] => .provisionBranch p b
  | .deprovisionBranch, [b] => .deprovisionBranch p b
  | .provisionCarrier, [c, o, se, b, l, w] => .provisionCarrier p c o se b l w
  | .deprovisionCarrier, [c] => .deprovisionCarrier p c
  | .setFloor, [t, se, f] => .setFloor p t se f
  | .setTimers, [a, b, c, d, e, f] => .setTimers p (halfOf a b) (halfOf c d) (halfOf e f)
  | .setDrainLimit, [t, l] => .setDrainLimit p t l
  | .setTime, [a, b, c] => .setTime p (tripleOf a b c)
  | .writeWindow, [w, en, a, b, c, d, e, f, m, q] =>
      .writeWindow p w en (tripleOf a b c) (tripleOf d e f) m q
  | .commitWindow, [w] => .commitWindow p w
  | .writeChannel, [c, m, pm, b, n, g, le, lt, cn] => .writeChannel p c m pm b n g le lt cn
  | .writeList, first :: n :: entries => .writeList p first n entries
  | .mapCause, [k', t, e, d] => .mapCause p k' t e d
  | .clearCause, [k'] => .clearCause p k'
  | .setInput, [i, e, r, l, t, se] => .setInput p i e r l t se
  | .restart, [] => .restart p
  | .readSite, [] => .readSite p
  | .readCarrier, [c] => .readCarrier p c
  | .readBranch, [b] => .readBranch p b
  | .readWindow, [w] => .readWindow p w
  | .readChannel, [c] => .readChannel p c
  | .readCauses, [] => .readCauses p
  | .readFaults, [d] => .readFaults p d
  | .portReset, [] => .portReset p
  | _, _ => .unknownRequestFrame p frame

/-- The row of the table that takes a frame on a port (R188): the request row of its kind, or
UNKNOWN_REQUEST_FRAME where check 1, 2 or 3 fails. -/
def commandOfFrame (p : Port) (frame : List Byte) : Instr :=
  match frameCheck frame with
  | .passed k payload => commandOfRequest p frame k payload
  | .unknown => .unknownRequestFrame p frame
  | .badCheckByte => .unknownRequestFrame p frame

/-- The port, kind and payload of a request command (R199's payload column); none for the other rows. -/
def requestOf (i : Instr) : Option (Port × RequestKind × List Byte) :=
  match i with
  | .offer p c => some (p, .offer, [c])
  | .withdraw p c => some (p, .withdraw, [c])
  | .drained p c => some (p, .drained, [c])
  | .live p c => some (p, .live, [c])
  | .wake p c l => some (p, .wake, [c, l])
  | .hold p c l => some (p, .hold, [c, l])
  | .release p c => some (p, .release, [c])
  | .forceWake p sc ix => some (p, .forceWake, [sc, ix])
  | .setBudget p b => some (p, .setBudget, [b])
  | .setRamp p d u => some (p, .setRamp, [d, u])
  | .pin p b => some (p, .pin, [b])
  | .unpin p b => some (p, .unpin, [b])
  | .returnBranch p b => some (p, .returnBranch, [b])
  | .resolve p k su d => some (p, .resolve, [k, su, d])
  | .halt p => some (p, .halt, [])
  | .setHoldMode p m iv => some (p, .setHoldMode, [m, iv])
  | .clearHold p => some (p, .clearHold, [])
  | .setOutput p o so c => some (p, .setOutput, [o, so, c])
  | .startChannel p c => some (p, .startChannel, [c])
  | .provisionBranch p b => some (p, .provisionBranch, [b])
  | .deprovisionBranch p b => some (p, .deprovisionBranch, [b])
  | .provisionCarrier p c o se b l w => some (p, .provisionCarrier, [c, o, se, b, l, w])
  | .deprovisionCarrier p c => some (p, .deprovisionCarrier, [c])
  | .setFloor p t se f => some (p, .setFloor, [t, se, f])
  | .setTimers p d l n => some (p, .setTimers, twoBytes d.toNat ++ twoBytes l.toNat ++ twoBytes n.toNat)
  | .setDrainLimit p t l => some (p, .setDrainLimit, [t, l])
  | .setTime p t => some (p, .setTime, threeBytes t.toNat)
  | .writeWindow p w en o c m q =>
      some (p, .writeWindow, [w, en] ++ threeBytes o.toNat ++ threeBytes c.toNat ++ [m, q])
  | .commitWindow p w => some (p, .commitWindow, [w])
  | .writeChannel p c m pm b n g le lt cn => some (p, .writeChannel, [c, m, pm, b, n, g, le, lt, cn])
  | .writeList p first n entries => some (p, .writeList, first :: n :: entries)
  | .mapCause p k t e d => some (p, .mapCause, [k, t, e, d])
  | .clearCause p k => some (p, .clearCause, [k])
  | .setInput p ix e r l t se => some (p, .setInput, [ix, e, r, l, t, se])
  | .restart p => some (p, .restart, [])
  | .readSite p => some (p, .readSite, [])
  | .readCarrier p c => some (p, .readCarrier, [c])
  | .readBranch p b => some (p, .readBranch, [b])
  | .readWindow p w => some (p, .readWindow, [w])
  | .readChannel p c => some (p, .readChannel, [c])
  | .readCauses p => some (p, .readCauses, [])
  | .readFaults p d => some (p, .readFaults, [d])
  | .portReset p => some (p, .portReset, [])
  | .unknownRequestFrame _ _ => none
  | .writeTransaction _ _ => none
  | .readTransaction _ _ => none
  | .deviceReset => none
  | .siteTimeAdvance => none
  | .drainDeadlineExpiry _ => none
  | .liveDeadlineExpiry _ => none
  | .lingerDeadlineExpiry _ => none
  | .rampDownDeadlineExpiry _ => none
  | .rampUpDeadlineExpiry _ => none
  | .donePulseEnd _ => none
  | .bgdFall _ => none
  | .bgdRise _ => none
  | .evEdge _ _ => none
  | .holdawkEdge _ => none
  | .channelStep _ => none
  | .endOfDeviceReset => none

/-- The port and the frame a command takes (R188); none for the rows that take no frame. -/
def takenFrame (i : Instr) : Option (Port × List Byte) :=
  match i with
  | .unknownRequestFrame p frame => some (p, frame)
  | i =>
    match requestOf i with
    | some (p, k, payload) => some (p, requestFrame k payload)
    | none => none

/-- The command a word spells by the opcode table's bits. The table gives no row bits, so no word spells one. -/
def decodeTableWord (_nbits _w : Nat) : Option Instr := none

end Sys2Proof
end

