-- ==== Sys2Proof/Machine/State.lean ====
section
/-!
DEFINITION. The state of the part, as plain data, and the state right after device reset.
One structure for each block of 00_scope.md, "Block overview".
-/
namespace Sys2Proof.Machine
open Sys2Proof

/-! ## Carrier Table (Chapter 1, Chapter 2) -/

/-- The six carrier states, in the order of Table 1-1 (R1). -/
inductive CarrierState where
  | vacant | on | draining | resting | waking | barred
  deriving DecidableEq, Repr

/-- COVERAGE carriers count toward coverage floors (Table 1-1). -/
inductive Layer where
  | coverage | capacity
  deriving DecidableEq, Repr

/-- The five fields that provisioning gives and that do not change while the carrier stays provisioned (R1):
all absent in VACANT, and present in every other state (the window may be absent there too). -/
structure Provision where
  owner : TenantId
  sector : SectorId
  branch : BranchId
  layer : Layer
  window : Option WindowId
  deriving DecidableEq, Repr

/-- A carrier record (Table 1-1, R1). The claim set is one bit per claimant: bits 0 to 3 the tenants, bit 4
PLANT (R33, R197). -/
structure Carrier where
  state : CarrierState
  provision : Option Provision
  offered : Bool
  claims : BitVec 5
  pendingWake : Nat
  wakeLevel : Option Nat
  unmuteSent : Bool
  drainDeadline : Option Nat
  liveDeadline : Option Nat
  drainChannel : Option ChannelId
  deriving DecidableEq, Repr

/-- The VACANT record (R1). -/
def Carrier.vacant : Carrier :=
  { state := .vacant, provision := none, offered := false, claims := 0#5, pendingWake := 0, wakeLevel := none,
    unmuteSent := false, drainDeadline := none, liveDeadline := none, drainChannel := none }

/-- The Carrier Table: records (R1), coverage floors (R43), drain limits (R10), drain time and live time (R12). -/
structure CarrierTable where
  carriers : Vector Carrier 48
  floors : Vector (Vector Nat 6) 4
  drainLimits : Vector Nat 4
  drainTime : Nat
  liveTime : Nat
  deriving DecidableEq, Repr

/-! ## Branch Controller (Chapter 3) -/

/-- The nine branch states, in the order of Table 3-1 (R50). -/
inductive BranchState where
  | unused | powered | settling | lowering | dark | queued | raising | faulted | out
  deriving DecidableEq, Repr

inductive LineMode where
  | follow | pinned
  deriving DecidableEq, Repr

inductive Grant where
  | none | normal | emergency
  deriving DecidableEq, Repr

/-- A branch record (Table 3-1, R50). -/
structure Branch where
  state : BranchState
  lineMode : LineMode
  members : List CarrierId
  raiseLevel : Nat
  lingerDeadline : Option Nat
  lingerExpired : Bool
  rampDeadline : Option Nat
  wakeSeen : Bool
  grant : Grant
  deriving DecidableEq, Repr

/-- The UNUSED record of R52. -/
def Branch.unused : Branch :=
  { state := .unused, lineMode := .follow, members := [], raiseLevel := 0, lingerDeadline := none,
    lingerExpired := false, rampDeadline := none, wakeSeen := false, grant := .none }

/-- The Branch Controller: records (R50), durations (R72), and the levels of the BGD input lines (R51). The BEN
lines are a function of the records (R51). -/
structure BranchController where
  branches : Vector Branch 16
  linger : Nat
  rampDown : Nat
  rampUp : Nat
  bgd : Vector Bool 16
  deriving DecidableEq, Repr

/-! ## Inrush Arbiter (Chapter 4) -/

/-- One entry of the raise queue (R91). -/
structure QueueEntry where
  branch : BranchId
  level : Nat
  stamp : Nat
  deriving DecidableEq, Repr

/-- The Inrush Arbiter (R90). The normal holders are kept in ascending order. -/
structure Arbiter where
  budget : Nat
  normalHolders : List BranchId
  emergencyHolder : Option BranchId
  queue : List QueueEntry
  entryCounter : Nat
  deriving DecidableEq, Repr

/-! ## Window Timer (Chapter 5) -/

inductive WindowState where
  | isOpen | closed
  deriving DecidableEq, Repr

/-- A window set (R101); bit `d` of the day mask is day `d`, Monday 0 (R197). -/
structure WindowSet where
  enabled : Bool
  openSecond : Nat
  closeSecond : Nat
  dayMask : BitVec 7
  quiet : Nat
  deriving DecidableEq, Repr

/-- The set of R101's device reset. -/
def WindowSet.disabled : WindowSet :=
  { enabled := false, openSecond := 0, closeSecond := 0, dayMask := 0#7, quiet := 0 }

/-- A window record (R101). -/
structure Window where
  active : WindowSet
  shadow : WindowSet
  state : WindowState
  swapPending : Bool
  deriving DecidableEq, Repr

def Window.initial : Window :=
  { active := WindowSet.disabled, shadow := WindowSet.disabled, state := .closed, swapPending := false }

/-- The Window Timer: site time and its time-valid mark (R99), the window records (R101). -/
structure WindowTimer where
  siteTime : Nat
  timeValid : Bool
  windows : Vector Window 8
  deriving DecidableEq, Repr

/-! ## Rest Channels (Chapter 6) -/

inductive ChannelMode where
  | one | all | group
  deriving DecidableEq, Repr

inductive PointerMode where
  | advance | hold | rewind
  deriving DecidableEq, Repr

inductive ChannelState where
  | idle | stepping | blocked | awaiting
  deriving DecidableEq, Repr

/-- The reasons with which an entry is declined at once, in the order of R127's table. -/
inductive DeclineReason where
  | noEntry | vacant | notOn | notOffered | claimed | windowShut | held | floor | halted
  deriving DecidableEq, Repr

/-- Where a start comes from (R123). -/
inductive StartSource where
  | cause (slot : SlotId)
  | link (channel : ChannelId)
  | plantRequest
  | fleetRequest
  deriving DecidableEq, Repr

/-- A channel record: the programmed fields of Table 6-1 and the kept fields of Table 6-2 (R119). Pending start
and pending source are one field, since the source is present exactly while a start is pending. `waiting` is
the tenant the Carrier Table records for a BLOCKED channel (R11, R119). -/
structure Channel where
  mode : ChannelMode
  pointerMode : PointerMode
  base : Nat
  count : Nat
  groupSize : Nat
  linkEnable : Bool
  linkTarget : ChannelId
  completionNotice : Bool
  state : ChannelState
  pointer : Nat
  quota : Nat
  outstanding : Nat
  rested : Nat
  declined : Nat
  lastReason : Option DeclineReason
  pendingStart : Option StartSource
  currentSource : Option StartSource
  waiting : Option TenantId
  deriving DecidableEq, Repr

/-- The channel record of R120. -/
def Channel.initial : Channel :=
  { mode := .one, pointerMode := .advance, base := 0, count := 0, groupSize := 1, linkEnable := false,
    linkTarget := 0, completionNotice := false, state := .idle, pointer := 0, quota := 0, outstanding := 0,
    rested := 0, declined := 0, lastReason := none, pendingStart := none, currentSource := none, waiting := none }

/-- The Rest Channels: channel records (R119) and the Rest List, `none` for NONE (R116). -/
structure RestChannels where
  channels : Vector Channel 8
  list : Vector (Option CarrierId) 256
  deriving DecidableEq, Repr

/-! ## Cause and Line Unit (Chapter 7) -/

/-- A cause slot (R144). -/
structure CauseSlot where
  target : ChannelId
  startEnable : Bool
  disarm : Bool
  flag : Bool
  deriving DecidableEq, Repr

inductive EdgeMode where
  | off | rising | falling | both
  deriving DecidableEq, Repr

inductive InputRole where
  | cause | wake
  deriving DecidableEq, Repr

/-- The setting of an event input (R152). -/
structure InputSetting where
  edgeMode : EdgeMode
  role : InputRole
  level : Nat
  tenantMask : BitVec 4
  sectorMask : BitVec 6
  deriving DecidableEq, Repr

inductive HoldMode where
  | off | level | latch | wake
  deriving DecidableEq, Repr

/-- The source of an event output (R159). -/
inductive OutputSource where
  | none | halt | faults | raising | hold
  | done (channel : ChannelId)
  deriving DecidableEq, Repr

/-- The setting of an event output (R159), and whether a DONE pulse is in progress on it (R160). -/
structure Output where
  source : OutputSource
  pulse : Bool
  deriving DecidableEq, Repr

/-- The Cause and Line Unit: cause slots (R144), event-input settings (R152) with the levels of the EV lines,
hold-awake mode, invert flag and rest hold (R154) with the level of HOLDAWK, event-output settings (R159). -/
structure CauseUnit where
  slots : Vector CauseSlot 16
  inputs : Vector InputSetting 8
  ev : Vector Bool 8
  holdMode : HoldMode
  holdInvert : Bool
  holdawk : Bool
  restHold : Bool
  outputs : Vector Output 4
  deriving DecidableEq, Repr

/-! ## Fault Stack (Chapter 8) -/

/-- Kind and subject of a failure (Table 8-1): the kind fixes whether the subject is a branch or a carrier. -/
inductive Failure where
  | rampDownStuck (branch : BranchId)
  | rampUpFailed (branch : BranchId)
  | powerLost (branch : BranchId)
  | liveTimeout (carrier : CarrierId)
  deriving DecidableEq, Repr

/-- The three amplifier kinds. -/
inductive BranchFault where
  | rampDownStuck | rampUpFailed | powerLost
  deriving DecidableEq, Repr

/-- A fault record (R162, Table 8-1): format BRANCH with a member snapshot, format CARRIER with a settled mark.
A time of `none` is "time not valid". -/
inductive FaultRecord where
  | ofBranch (kind : BranchFault) (branch : BranchId) (time : Option Nat)
      (snapshot : List (CarrierId × CarrierState))
  | ofCarrier (carrier : CarrierId) (time : Option Nat) (settled : Bool)
  deriving DecidableEq, Repr

/-- Why SAFE_HALT was entered (R175). -/
inductive HaltReason where
  | doubleFault (lost : Failure)
  | plant
  deriving DecidableEq, Repr

/-- The halt cause (R175); a time of `none` is "time not valid". -/
structure HaltCause where
  reason : HaltReason
  time : Option Nat
  deriving DecidableEq, Repr

/-- The Fault Stack: the records, top first (R162), and the halt state with its cause (R175): `none` is not
halted. -/
structure FaultStack where
  records : List FaultRecord
  halt : Option HaltCause
  deriving DecidableEq, Repr

/-! ## Link Ports (Chapter 9) -/

/-- The eleven statuses, in the order of their codes (R198). -/
inductive Status where
  | ok | already | state | permission | range | busy | full | halted | unknown | check | stale
  deriving DecidableEq, Repr

/-- Cancel reasons, in the order of R29. -/
inductive CancelReason where
  | withdrawn | timeout | wake | claimed | windowClosed | halt | powerLost
  deriving DecidableEq, Repr

/-- Results of a start (R135). -/
inductive DoneResult where
  | done | empty
  deriving DecidableEq, Repr

/-- Notices with their payloads (R200); WINDOW is two constructors, one for each of its payloads (R113). -/
inductive Notice where
  | drain (carrier : CarrierId) (deadline : Nat)
  | drainCancel (carrier : CarrierId) (reason : CancelReason)
  | rested (carrier : CarrierId)
  | unmute (carrier : CarrierId) (deadline : Nat)
  | carrierOn (carrier : CarrierId)
  | branchDown (carrier : CarrierId) (branch : BranchId)
  | barred (carrier : CarrierId) (branch : BranchId)
  | restored (carrier : CarrierId) (branch : BranchId)
  | fault (failure : Failure)
  | halt (reason : HaltReason)
  | channelDone (channel : ChannelId) (result : DoneResult) (rested declined countLeft : Nat)
      (source : Option StartSource)
  | cause (slot : SlotId) (time : Nat)
  | windowOpened (window : WindowId) (time : Nat) (quiet : Nat)
  | windowClosed (window : WindowId) (time : Nat) (swapped : Bool)
  | overflow
  deriving DecidableEq, Repr

/-- A reply (R189), but for its overrun indicator, which a read gives it (R189). -/
structure Reply where
  kind : Byte
  status : Status
  payload : List Byte
  deriving DecidableEq, Repr

/-- Where the frame of a read came from (R187). -/
inductive ReadSource where
  | reply | notice | empty
  deriving DecidableEq, Repr

/-- The frame a read has chosen (R187): its bytes, where it came from, whether its overrun indicator is yes, and
whether it is still in its queue. -/
structure ReadChoice where
  frame : List Byte
  source : ReadSource
  overrunShown : Bool
  stillQueued : Bool
  deriving DecidableEq, Repr

/-- What the bytes clocked so far make of a select period (R184). -/
inductive PeriodKind where
  /-- no byte clocked yet -/
  | undecided
  /-- a read, with the frame chosen when the read code was clocked in (R187) -/
  | read (choice : ReadChoice)
  /-- a write, with the bytes of its frame so far -/
  | write (frame : List Byte)
  /-- no transaction: a device reset ignored a byte of it or cut its write (log 13) -/
  | ignored
  deriving DecidableEq, Repr

/-- A select period in progress: the summary byte, which reports the port at the assertion of select, the bytes shifted
out so far, and what the period is (R184). -/
structure SelectPeriod where
  summary : Byte
  shifted : List Byte
  kind : PeriodKind
  deriving DecidableEq, Repr

/-- A link port (R183). `selected` is the select period in progress (R184, R187). `dataOut` is the model's own record of
the bytes shifted out in the last select period (log 14). -/
structure PortState where
  inbound : List (List Byte)
  replies : List Reply
  notices : List Notice
  overrun : Bool
  overflow : Bool
  selected : Option SelectPeriod
  dataOut : List Byte
  deriving DecidableEq, Repr

/-- A port after device reset (R195). -/
def PortState.initial : PortState :=
  { inbound := [], replies := [], notices := [], overrun := false, overflow := false, selected := none,
    dataOut := [] }

/-! ## The part -/

/-- The state of the part. `resetting` says that device reset is in progress (R184, R195). `haltDraws` is the
model's own counter for the free value `Config.haltOrder` (log 5), and `pending` its queue of commands, first
in, first out. -/
structure State where
  table : CarrierTable
  ctrl : BranchController
  arb : Arbiter
  timer : WindowTimer
  rest : RestChannels
  lines : CauseUnit
  stack : FaultStack
  ports : Vector PortState 6
  resetting : Bool
  haltDraws : Nat
  pending : List Instr
  deriving DecidableEq, Repr

/-- Reasons for a stop with a fault: none. The manual gives every command an effect in every state, and the
failures of Chapter 8 are state. -/
inductive Fault where
  deriving DecidableEq, Repr

/-- Reasons for a refusal. -/
inductive Refusal where
  /-- raised by `exec` for a command that has no meaning yet, and by nothing else; safe: the model stops -/
  | notModelled (mnemonic : String)
  deriving DecidableEq, Repr

/-- R2, R10, R12, R43. -/
def CarrierTable.initial : CarrierTable :=
  { carriers := Vector.replicate 48 Carrier.vacant
    floors := Vector.replicate 4 (Vector.replicate 6 0)
    drainLimits := Vector.replicate 4 2
    drainTime := 120
    liveTime := 60 }

/-- R52. The BGD levels are those of a site whose amplifiers are all up (10.1; DESIGN CHOICE, log 10). -/
def BranchController.initial : BranchController :=
  { branches := Vector.replicate 16 Branch.unused
    linger := 300
    rampDown := 20
    rampUp := 30
    bgd := Vector.replicate 16 true }

/-- R90; the entry counter's first value is a DESIGN CHOICE (log 11). -/
def Arbiter.initial : Arbiter :=
  { budget := 1, normalHolders := [], emergencyHolder := none, queue := [], entryCounter := 0 }

/-- R99, R101. -/
def WindowTimer.initial : WindowTimer :=
  { siteTime := 0, timeValid := false, windows := Vector.replicate 8 Window.initial }

/-- R116, R120. -/
def RestChannels.initial : RestChannels :=
  { channels := Vector.replicate 8 Channel.initial, list := Vector.replicate 256 none }

/-- R144, R152, R154, R159; the line levels are a DESIGN CHOICE (log 10). -/
def CauseUnit.initial : CauseUnit :=
  { slots := Vector.replicate 16 { target := 0, startEnable := false, disarm := false, flag := false }
    inputs := Vector.replicate 8 { edgeMode := .off, role := .cause, level := 1, tenantMask := 0#4, sectorMask := 0#6 }
    ev := Vector.replicate 8 false
    holdMode := .off
    holdInvert := false
    holdawk := false
    restHold := false
    outputs := Vector.replicate 4 { source := .none, pulse := false } }

/-- R163, R175. -/
def FaultStack.initial : FaultStack :=
  { records := [], halt := none }

/-- The part right after device reset: every block as its chapter gives it, ports as R195 gives them at the end
of the reset (log 12). -/
def State.reset : State :=
  { table := CarrierTable.initial
    ctrl := BranchController.initial
    arb := Arbiter.initial
    timer := WindowTimer.initial
    rest := RestChannels.initial
    lines := CauseUnit.initial
    stack := FaultStack.initial
    ports := Vector.replicate 6 PortState.initial
    resetting := false
    haltDraws := 0
    pending := [] }

end Sys2Proof.Machine
end

