-- ==== Sys2Proof/Machine/Ops.lean ====
section
/-!
DEFINITION. The named operations over the records of State: every meaning reads and writes a record through
these. Then the operations every block shares: posting a notice, the arithmetic of deadlines, and the value of
"now" where a record keeps it.
-/
namespace Sys2Proof.Machine
open Sys2Proof

/-! ## Records -/

/-- The position of a port among the six (R183). -/
def portIndex (p : Port) : Fin 6 :=
  match p with
  | .tenant t => ⟨t.val, Nat.lt_of_lt_of_le t.isLt (by decide)⟩
  | .plant => 4
  | .fleet => 5

def State.carrier (s : State) (c : CarrierId) : Carrier := s.table.carriers[c.val]

def State.setCarrier (s : State) (c : CarrierId) (r : Carrier) : State :=
  { s with table := { s.table with carriers := s.table.carriers.set c.val r } }

def State.floorOf (s : State) (t : TenantId) (sec : SectorId) : Nat := (s.table.floors[t.val])[sec.val]

def State.setFloorOf (s : State) (t : TenantId) (sec : SectorId) (n : Nat) : State :=
  { s with table := { s.table with floors := s.table.floors.set t.val ((s.table.floors[t.val]).set sec.val n) } }

def State.drainLimit (s : State) (t : TenantId) : Nat := s.table.drainLimits[t.val]

def State.setDrainLimit (s : State) (t : TenantId) (n : Nat) : State :=
  { s with table := { s.table with drainLimits := s.table.drainLimits.set t.val n } }

def State.branch (s : State) (b : BranchId) : Branch := s.ctrl.branches[b.val]

def State.setBranch (s : State) (b : BranchId) (r : Branch) : State :=
  { s with ctrl := { s.ctrl with branches := s.ctrl.branches.set b.val r } }

/-- The level of the branch's BGD line (R51). -/
def State.bgd (s : State) (b : BranchId) : Bool := s.ctrl.bgd[b.val]

def State.setBgd (s : State) (b : BranchId) (high : Bool) : State :=
  { s with ctrl := { s.ctrl with bgd := s.ctrl.bgd.set b.val high } }

def State.setArb (s : State) (a : Arbiter) : State := { s with arb := a }

def State.window (s : State) (w : WindowId) : Window := s.timer.windows[w.val]

def State.setWindow (s : State) (w : WindowId) (r : Window) : State :=
  { s with timer := { s.timer with windows := s.timer.windows.set w.val r } }

def State.setSiteTime (s : State) (t : Nat) : State :=
  { s with timer := { s.timer with siteTime := t } }

def State.channel (s : State) (k : ChannelId) : Channel := s.rest.channels[k.val]

def State.setChannel (s : State) (k : ChannelId) (r : Channel) : State :=
  { s with rest := { s.rest with channels := s.rest.channels.set k.val r } }

def State.slot (s : State) (k : SlotId) : CauseSlot := s.lines.slots[k.val]

def State.setSlot (s : State) (k : SlotId) (r : CauseSlot) : State :=
  { s with lines := { s.lines with slots := s.lines.slots.set k.val r } }

def State.input (s : State) (i : InputId) : InputSetting := s.lines.inputs[i.val]

def State.setInput (s : State) (i : InputId) (r : InputSetting) : State :=
  { s with lines := { s.lines with inputs := s.lines.inputs.set i.val r } }

/-- The level of an EV line (R153). -/
def State.ev (s : State) (i : InputId) : Bool := s.lines.ev[i.val]

def State.setEv (s : State) (i : InputId) (high : Bool) : State :=
  { s with lines := { s.lines with ev := s.lines.ev.set i.val high } }

def State.output (s : State) (o : OutputId) : Output := s.lines.outputs[o.val]

def State.setOutput (s : State) (o : OutputId) (r : Output) : State :=
  { s with lines := { s.lines with outputs := s.lines.outputs.set o.val r } }

def State.setRestHold (s : State) (inEffect : Bool) : State :=
  { s with lines := { s.lines with restHold := inEffect } }

def State.setStack (s : State) (f : FaultStack) : State := { s with stack := f }

def State.port (s : State) (p : Port) : PortState := s.ports[(portIndex p).val]

def State.setPort (s : State) (p : Port) (r : PortState) : State :=
  { s with ports := s.ports.set (portIndex p).val r }

/-- The 7240 is in SAFE_HALT (R175). -/
def State.halted (s : State) : Bool := s.stack.halt.isSome

/-! The indices of each kind of record, in ascending order. -/

def carrierIds : List CarrierId := List.finRange 48
def branchIds : List BranchId := List.finRange 16
def windowIds : List WindowId := List.finRange 8
def channelIds : List ChannelId := List.finRange 8
def slotIds : List SlotId := List.finRange 16
def inputIds : List InputId := List.finRange 8
def outputIds : List OutputId := List.finRange 4

/-- The ports in the order of R177. -/
def allPorts : List Port := [.tenant 0, .tenant 1, .tenant 2, .tenant 3, .plant, .fleet]

/-! ## Time -/

/-- `n` seconds after the site second `t`, modulo the week (R9, R20, R56). -/
def secondsAfter (t n : Nat) : Nat := (t + n) % Config.weekSeconds

/-- The site second that follows `t` (R99). -/
def nextSecond (t : Nat) : Nat := secondsAfter t 1

/-- The current site second: "now" (00_scope.md, "Time"). -/
def State.now (s : State) : Nat := s.timer.siteTime

/-- Site time as a record keeps it: "time not valid" while the time-valid mark is no (R165, R175). -/
def State.recordedTime (s : State) : Option Nat :=
  if s.timer.timeValid then some s.timer.siteTime else none

/-- A deadline moved by the step from `old` to `new` time, modulo the week (R13, R72, R100). -/
def movedDeadline (old new d : Nat) : Nat := (d + new + Config.weekSeconds - old) % Config.weekSeconds

/-- Whether a deadline expires at this second: site time has advanced to it, or the advance to it is the next
(R13, R99: the expiries of a second and the window events of its advance may be taken in either order; log 3). -/
def State.isDue (s : State) (d : Nat) : Bool := s.now == d || nextSecond s.now == d

/-- Take an event at the site second `d`, whichever side of the advance to `d` the command stands on (log 3). -/
def State.atSecond (s : State) (d : Nat) (event : State → State) : State :=
  (event (s.setSiteTime d)).setSiteTime s.now

/-! ## Notices -/

/-- R190: a notice is placed, or discarded while the overflow mark is yes; the notice after the fifteenth turns
into OVERFLOW and sets the mark. -/
def PortState.post (q : PortState) (n : Notice) : PortState :=
  if q.overflow then q
  else if q.notices.length < Config.noticePlaces then { q with notices := q.notices ++ [n] }
  else { q with notices := q.notices ++ [.overflow], overflow := true }

/-- Post a notice to a port (R190). -/
def State.post (s : State) (p : Port) (n : Notice) : State :=
  s.setPort p ((s.port p).post n)

/-! ## Lists kept in ascending order, without duplicates -/

/-- Insert an index at its place; an index already there stays there once. -/
def insertIndex {n : Nat} (x : Fin n) (l : List (Fin n)) : List (Fin n) :=
  match l with
  | [] => [x]
  | y :: ys => if x < y then x :: y :: ys else if x = y then y :: ys else y :: insertIndex x ys

def removeIndex {n : Nat} (x : Fin n) (l : List (Fin n)) : List (Fin n) :=
  l.filter (fun y => y != x)

end Sys2Proof.Machine
end

