-- ==== Sys2Proof/Machine/Operands.lean ====
section
/-!
DEFINITION. The operands of requests: each byte of a payload read by its coding (R197); `none` is a value outside
its range. And the codes of the values that replies, notices and images carry (R197).
-/
namespace Sys2Proof.Machine
open Sys2Proof

/-! ## Reading operands -/

/-- An index below `n`. -/
def asIndex (n : Nat) (b : Byte) : Option (Fin n) :=
  if h : b.toNat < n then some ⟨b.toNat, h⟩ else none

def asCarrier (b : Byte) : Option CarrierId := asIndex 48 b
def asBranch (b : Byte) : Option BranchId := asIndex 16 b
def asWindow (b : Byte) : Option WindowId := asIndex 8 b
def asChannel (b : Byte) : Option ChannelId := asIndex 8 b
def asSlot (b : Byte) : Option SlotId := asIndex 16 b
def asInput (b : Byte) : Option InputId := asIndex 8 b
def asOutput (b : Byte) : Option OutputId := asIndex 4 b
def asSector (b : Byte) : Option SectorId := asIndex 6 b
def asTenant (b : Byte) : Option TenantId := asIndex 4 b

/-- A number of `low` to `high`. -/
def asRange (low high n : Nat) : Option Nat :=
  if low ≤ n ∧ n ≤ high then some n else none

/-- A wake level, 1-7 (00_scope.md, "Levels"). -/
def asLevel (b : Byte) : Option Nat := asRange 1 7 b.toNat

/-- A yes/no byte (R197). -/
def asFlag (b : Byte) : Option Bool :=
  if b = 0x00#8 then some false else if b = 0x01#8 then some true else none

/-- A set of `n` members, one bit each (R197). -/
def asSet (n : Nat) (b : Byte) : Option (BitVec n) :=
  if b.toNat < 2 ^ n then some (b.setWidth n) else none

/-- The value at a position of the list that defines an enumerated field (R197). -/
def asOneOf {α : Type} (values : List α) (b : Byte) : Option α := values[b.toNat]?

def asLayer (b : Byte) : Option Layer := asOneOf [.coverage, .capacity] b

/-- The window byte of PROVISION_CARRIER: W0-W7, or 0xFF for "no window" (R4, R197). -/
def asWindowOrNone (b : Byte) : Option (Option WindowId) :=
  if b = 0xFF#8 then some none else (asWindow b).map some

/-- An entry value of WRITE_LIST: a carrier, or 0xFF for NONE (R117, R199). -/
def asEntry (b : Byte) : Option (Option CarrierId) :=
  if b = 0xFF#8 then some none else (asCarrier b).map some

def asChannelMode (b : Byte) : Option ChannelMode := asOneOf [.one, .all, .group] b
def asPointerMode (b : Byte) : Option PointerMode := asOneOf [.advance, .hold, .rewind] b
def asEdgeMode (b : Byte) : Option EdgeMode := asOneOf [.off, .rising, .falling, .both] b
def asInputRole (b : Byte) : Option InputRole := asOneOf [.cause, .wake] b
def asHoldMode (b : Byte) : Option HoldMode := asOneOf [.off, .level, .latch, .wake] b

/-- The source of SET_OUTPUT; the channel byte is read for DONE only (R159, R199). -/
def asOutputSource (source channel : Byte) : Option OutputSource :=
  if source = 0x05#8 then (asChannel channel).map .done
  else asOneOf [.none, .halt, .faults, .raising, .hold] source

/-- The scopes of FORCE_WAKE (R89). -/
inductive WakeScope where
  | all
  | branch (b : BranchId)
  | sector (sec : SectorId)
  deriving DecidableEq, Repr

/-- The scope and index of FORCE_WAKE; the index is ignored for ALL (R89, R199). -/
def asScope (scope index : Byte) : Option WakeScope :=
  if scope = 0x00#8 then some .all
  else if scope = 0x01#8 then (asBranch index).map .branch
  else if scope = 0x02#8 then (asSector index).map .sector
  else none

/-- The expected kind and subject of RESOLVE (R169): the kind says which range the subject has. -/
def asFailure (kind subject : Byte) : Option Failure :=
  if kind = 0x00#8 then (asBranch subject).map .rampDownStuck
  else if kind = 0x01#8 then (asBranch subject).map .rampUpFailed
  else if kind = 0x02#8 then (asBranch subject).map .powerLost
  else if kind = 0x03#8 then (asCarrier subject).map .liveTimeout
  else none

/-- The dispositions of RESOLVE (R169). -/
inductive Disposition where
  | retry | retire
  deriving DecidableEq, Repr

def asDisposition (b : Byte) : Option Disposition := asOneOf [.retry, .retire] b

/-- A complete window set (R109): enabled, open second, close second, day mask, quiet level. -/
def asWindowSet (enabled : Byte) (openSecond closeSecond : Triple) (dayMask quiet : Byte) : Option WindowSet := do
  let e ← asFlag enabled
  let o ← asRange 0 86399 openSecond.toNat
  let c ← asRange 0 86399 closeSecond.toNat
  let d ← asSet 7 dayMask
  let q ← asRange 0 7 quiet.toNat
  if e = true ∧ o = c then none
  else some { enabled := e, openSecond := o, closeSecond := c, dayMask := d, quiet := q }

/-- The setting of an event input (R152). -/
def asInputSetting (edgeMode role level tenantMask sectorMask : Byte) : Option InputSetting := do
  let e ← asEdgeMode edgeMode
  let r ← asInputRole role
  let l ← asLevel level
  let t ← asSet 4 tenantMask
  let c ← asSet 6 sectorMask
  some { edgeMode := e, role := r, level := l, tenantMask := t, sectorMask := c }

/-! ## Parties -/

/-- The five claimants (R33). -/
inductive Claimant where
  | tenant (t : TenantId)
  | plant
  deriving DecidableEq, Repr

/-- The bit of a claimant in a claim set (R197). -/
def Claimant.bit : Claimant → Nat
  | .tenant t => t.val
  | .plant => 4

/-- The claimant a port's master is (R183); the fleet link is none. -/
def claimantOf (p : Port) : Option Claimant :=
  match p with
  | .tenant t => some (.tenant t)
  | .plant => some .plant
  | .fleet => none

/-- The port a claimant's notices go to (R41). -/
def Claimant.port : Claimant → Port
  | .tenant t => .tenant t
  | .plant => .plant

/-- The claimants in the order of R41. -/
def allClaimants : List Claimant := [.tenant 0, .tenant 1, .tenant 2, .tenant 3, .plant]

def claims (set : BitVec 5) (c : Claimant) : Bool := set.getLsbD c.bit

def addClaim (set : BitVec 5) (c : Claimant) : BitVec 5 := set ||| BitVec.twoPow 5 c.bit

def dropClaim (set : BitVec 5) (c : Claimant) : BitVec 5 := set &&& ~~~ (BitVec.twoPow 5 c.bit)

/-! ## Codes (R197): the position in the list that defines the field -/

def CarrierState.code : CarrierState → Byte
  | .vacant => 0x00#8
  | .on => 0x01#8
  | .draining => 0x02#8
  | .resting => 0x03#8
  | .waking => 0x04#8
  | .barred => 0x05#8

def BranchState.code : BranchState → Byte
  | .unused => 0x00#8
  | .powered => 0x01#8
  | .settling => 0x02#8
  | .lowering => 0x03#8
  | .dark => 0x04#8
  | .queued => 0x05#8
  | .raising => 0x06#8
  | .faulted => 0x07#8
  | .out => 0x08#8

def Layer.code : Layer → Byte
  | .coverage => 0x00#8
  | .capacity => 0x01#8

def LineMode.code : LineMode → Byte
  | .follow => 0x00#8
  | .pinned => 0x01#8

def Grant.code : Grant → Byte
  | .none => 0x00#8
  | .normal => 0x01#8
  | .emergency => 0x02#8

/-- OPEN 0, CLOSED 1: the order of R101's table (DEDUCED from R197, log 19). -/
def WindowState.code : WindowState → Byte
  | .isOpen => 0x00#8
  | .closed => 0x01#8

def ChannelMode.code : ChannelMode → Byte
  | .one => 0x00#8
  | .all => 0x01#8
  | .group => 0x02#8

def PointerMode.code : PointerMode → Byte
  | .advance => 0x00#8
  | .hold => 0x01#8
  | .rewind => 0x02#8

def ChannelState.code : ChannelState → Byte
  | .idle => 0x00#8
  | .stepping => 0x01#8
  | .blocked => 0x02#8
  | .awaiting => 0x03#8

def DeclineReason.code : DeclineReason → Byte
  | .noEntry => 0x00#8
  | .vacant => 0x01#8
  | .notOn => 0x02#8
  | .notOffered => 0x03#8
  | .claimed => 0x04#8
  | .windowShut => 0x05#8
  | .held => 0x06#8
  | .floor => 0x07#8
  | .halted => 0x08#8

def CancelReason.code : CancelReason → Byte
  | .withdrawn => 0x00#8
  | .timeout => 0x01#8
  | .wake => 0x02#8
  | .claimed => 0x03#8
  | .windowClosed => 0x04#8
  | .halt => 0x05#8
  | .powerLost => 0x06#8

def EdgeMode.code : EdgeMode → Byte
  | .off => 0x00#8
  | .rising => 0x01#8
  | .falling => 0x02#8
  | .both => 0x03#8

def InputRole.code : InputRole → Byte
  | .cause => 0x00#8
  | .wake => 0x01#8

def HoldMode.code : HoldMode → Byte
  | .off => 0x00#8
  | .level => 0x01#8
  | .latch => 0x02#8
  | .wake => 0x03#8

def OutputSource.code : OutputSource → Byte
  | .none => 0x00#8
  | .halt => 0x01#8
  | .faults => 0x02#8
  | .raising => 0x03#8
  | .hold => 0x04#8
  | .done _ => 0x05#8

def Disposition.code : Disposition → Byte
  | .retry => 0x00#8
  | .retire => 0x01#8

/-- DONE 0, EMPTY 1 (R200). -/
def DoneResult.code : DoneResult → Byte
  | .done => 0x00#8
  | .empty => 0x01#8

/-- Status codes (R198). -/
def Status.code : Status → Byte
  | .ok => 0x00#8
  | .already => 0x01#8
  | .state => 0x02#8
  | .permission => 0x03#8
  | .range => 0x04#8
  | .busy => 0x05#8
  | .full => 0x06#8
  | .halted => 0x07#8
  | .unknown => 0x08#8
  | .check => 0x09#8
  | .stale => 0x0A#8

/-- Kinds in the order of Table 8-1. -/
def Failure.kindCode : Failure → Byte
  | .rampDownStuck _ => 0x00#8
  | .rampUpFailed _ => 0x01#8
  | .powerLost _ => 0x02#8
  | .liveTimeout _ => 0x03#8

def Failure.subjectCode : Failure → Byte
  | .rampDownStuck b => byteOf b.val
  | .rampUpFailed b => byteOf b.val
  | .powerLost b => byteOf b.val
  | .liveTimeout c => byteOf c.val

/-- Start sources (R197). -/
def StartSource.code : StartSource → Byte
  | .cause k => byteOf k.val
  | .link j => byteOf (0x10 + j.val)
  | .plantRequest => 0x20#8
  | .fleetRequest => 0x21#8

/-- A yes/no field (R197); the model codes the other two-valued fields so too (set, high, asserted, in effect and held
1; log 27), but for the halt state byte (log 6). -/
def flagByte (b : Bool) : Byte := if b then 0x01#8 else 0x00#8

/-- A one-byte field that may be absent: 0xFF (R197). -/
def optionByte {α : Type} (code : α → Byte) (x : Option α) : Byte :=
  match x with
  | some v => code v
  | none => 0xFF#8

def indexByte {n : Nat} (x : Fin n) : Byte := byteOf x.val

/-- A site-second field that may be absent or "time not valid": 0xFFFFFF (R197). -/
def optionSecond (x : Option Nat) : List Byte :=
  match x with
  | some t => threeBytes t
  | none => [0xFF#8, 0xFF#8, 0xFF#8]

def setByte {n : Nat} (m : BitVec n) : Byte := m.setWidth 8

end Sys2Proof.Machine
end

