-- ==== Sys2Proof/Machine/Flags.lean ====
section
/-!
DEFINITION. What is computed from the records and never stored: counts (R32, R45), quiet levels (R82), the settle
conditions (R56), and the output lines BEN (R51), EO (R159), READY and ATTN (R191) with the summary byte (R198).
-/
namespace Sys2Proof.Machine
open Sys2Proof

/-! ## Counts (R32, R45) -/

def Carrier.ownedBy (r : Carrier) (t : TenantId) : Bool :=
  match r.provision with
  | some pv => pv.owner == t
  | none => false

/-- A COVERAGE carrier of the pair of tenant and sector (R45). -/
def Carrier.coverageOf (r : Carrier) (t : TenantId) (sec : SectorId) : Bool :=
  match r.provision with
  | some pv => pv.owner == t && pv.sector == sec && pv.layer == .coverage
  | none => false

/-- The carrier's amplifier branch is `b` (R1). -/
def Carrier.onBranch (r : Carrier) (b : BranchId) : Bool :=
  match r.provision with
  | some pv => pv.branch == b
  | none => false

/-- The carrier is bound to window `w` (R1). -/
def Carrier.boundTo (r : Carrier) (w : WindowId) : Bool :=
  match r.provision with
  | some pv => pv.window == some w
  | none => false

/-- The number of a tenant's carriers in DRAINING (R32). -/
def State.drainingCount (s : State) (t : TenantId) : Nat :=
  carrierIds.countP (fun c => (s.carrier c).ownedBy t && (s.carrier c).state == .draining)

/-- The ON count of a pair (R45). -/
def State.onCount (s : State) (t : TenantId) (sec : SectorId) : Nat :=
  carrierIds.countP (fun c => (s.carrier c).coverageOf t sec && (s.carrier c).state == .on)

/-- The WAKING count of a pair (R45). -/
def State.wakingCount (s : State) (t : TenantId) (sec : SectorId) : Nat :=
  carrierIds.countP (fun c => (s.carrier c).coverageOf t sec && (s.carrier c).state == .waking)

/-- The tenant has a free drain slot: condition 9 of R8, and the test of R11. -/
def State.hasFreeSlot (s : State) (t : TenantId) : Bool :=
  decide (s.drainingCount t < s.drainLimit t)

/-! ## Windows (R82, R102) -/

def State.windowOpen (s : State) (w : WindowId) : Bool := (s.window w).state == .isOpen

/-- Condition 6 of R8: no window, or its window is OPEN. -/
def State.windowAdmits (s : State) (w : Option WindowId) : Bool :=
  match w with
  | none => true
  | some w => s.windowOpen w

/-- A carrier's quiet level (R82). -/
def State.quietLevel (s : State) (c : CarrierId) : Nat :=
  match (s.carrier c).provision with
  | none => 0
  | some pv =>
    match pv.window with
    | none => 0
    | some w => if s.windowOpen w then (s.window w).active.quiet else 0

/-- The honour test (R83). -/
def State.honours (s : State) (c : CarrierId) (level : Nat) : Bool :=
  level == 7 || decide (s.quietLevel c < level)

def dayOf (t : Nat) : Nat := t / Config.daySeconds

def secondOfDay (t : Nat) : Nat := t % Config.daySeconds

/-- The day before a day; the day before Monday is Sunday (R102). -/
def dayBefore (d : Nat) : Nat := (d + 6) % 7

/-- Whether a window set is OPEN at the site second `t` while time is valid (R102). -/
def WindowSet.openAt (ws : WindowSet) (t : Nat) : Bool :=
  ws.enabled &&
    (if ws.openSecond < ws.closeSecond then
      ws.dayMask.getLsbD (dayOf t) && decide (ws.openSecond ≤ secondOfDay t) && decide (secondOfDay t < ws.closeSecond)
    else
      decide (ws.closeSecond < ws.openSecond) &&
        ((ws.dayMask.getLsbD (dayOf t) && decide (ws.openSecond ≤ secondOfDay t)) ||
          (ws.dayMask.getLsbD (dayBefore (dayOf t)) && decide (secondOfDay t < ws.closeSecond))))

/-! ## Branches -/

/-- Every member is RESTING. -/
def State.allMembersResting (s : State) (b : BranchId) : Bool :=
  (s.branch b).members.all (fun c => (s.carrier c).state == .resting)

/-- The settle conditions (R56). -/
def State.settleConditions (s : State) (b : BranchId) : Bool :=
  (s.branch b).state == .powered && (s.branch b).lineMode == .follow && !(s.branch b).members.isEmpty
    && s.allMembersResting b && !s.halted

/-- The highest wake level among the WAKING members of a branch, 0 if none is WAKING (R63, R75). -/
def State.highestWake (s : State) (b : BranchId) : Nat :=
  (s.branch b).members.foldl
    (fun m c => if (s.carrier c).state = .waking then max m ((s.carrier c).wakeLevel.getD 0) else m) 0

def State.anyMemberWaking (s : State) (b : BranchId) : Bool :=
  (s.branch b).members.any (fun c => (s.carrier c).state == .waking)

/-- The members of a branch and their states, for a fault record (R165). -/
def State.memberSnapshot (s : State) (b : BranchId) : List (CarrierId × CarrierState) :=
  (s.branch b).members.map (fun c => (c, (s.carrier c).state))

/-! ## Output lines -/

/-- BEN is asserted in every branch state except LOWERING, DARK, QUEUED and OUT (R51). -/
def BranchState.ben : BranchState → Bool
  | .lowering => false
  | .dark => false
  | .queued => false
  | .out => false
  | .unused => true
  | .powered => true
  | .settling => true
  | .raising => true
  | .faulted => true

/-- The level of the branch's BEN line (R51). -/
def State.ben (s : State) (b : BranchId) : Bool := (s.branch b).state.ben

def State.anyRaising (s : State) : Bool :=
  branchIds.any (fun b => (s.branch b).state == .raising)

/-- The level of an EO line (R159, R160). -/
def State.eo (s : State) (o : OutputId) : Bool :=
  match (s.output o).source with
  | .none => false
  | .halt => s.halted
  | .faults => !s.stack.records.isEmpty
  | .raising => s.anyRaising
  | .hold => s.lines.restHold
  | .done _ => (s.output o).pulse

/-- HOLDAWK is active: high if invert is no, low if invert is yes (R154). -/
def State.holdawkActive (s : State) : Bool := s.lines.holdawk != s.lines.holdInvert

/-- READY: the inbound queue has a free place and device reset is not in progress (R191). -/
def State.ready (s : State) (p : Port) : Bool :=
  decide ((s.port p).inbound.length < Config.inboundPlaces) && !s.resetting

/-- ATTN: the port holds a reply or a notice (R191). -/
def State.attn (s : State) (p : Port) : Bool :=
  !(s.port p).replies.isEmpty || !(s.port p).notices.isEmpty

/-- The summary byte (R198). -/
def PortState.summary (q : PortState) : Byte :=
  (if q.replies.isEmpty then 0x00#8 else 0x01#8) ||| (if q.notices.isEmpty then 0x00#8 else 0x02#8)
    ||| (if q.inbound.length < Config.inboundPlaces then 0x00#8 else 0x04#8)
    ||| (if q.overrun then 0x08#8 else 0x00#8)

end Sys2Proof.Machine
end

