-- ==== Sys2Proof/Machine/Channels.lean ====
section
/-!
DEFINITION. Starts and completions of Rest Channels (Chapter 6), with what a start and a completion do to the
cause slots and event outputs (R147, R148, R160).
-/
namespace Sys2Proof.Machine
open Sys2Proof

/-! ## Reports to the Cause and Line Unit -/

/-- The reports about a start whose source is a cause (R125). -/
inductive CauseReport where
  | taken | pending | replaced | dropped
  deriving DecidableEq, Repr

/-- R147: "taken" clears the flag; the other reports leave it set. -/
def State.causeReport (s : State) (report : CauseReport) (k : SlotId) : State :=
  match report with
  | .taken => s.setSlot k { s.slot k with flag := false }
  | .pending => s
  | .replaced => s
  | .dropped => s

/-- The report a start's source calls for, if its source is a cause (R124, R125). -/
def State.reportSource (s : State) (report : CauseReport) (source : StartSource) : State :=
  match source with
  | .cause k => s.causeReport report k
  | .link _ => s
  | .plantRequest => s
  | .fleetRequest => s

/-- Disarm (R148): a completion of cause `k` that leaves count 0 clears start enable when disarm is yes. -/
def State.disarmFor (s : State) (source : Option StartSource) (countLeft : Nat) : State :=
  match source with
  | some (.cause k) =>
    if countLeft = 0 ∧ (s.slot k).disarm = true then s.setSlot k { s.slot k with startEnable := false } else s
  | _ => s

/-- The output with a pulse in progress when its source is DONE of this channel (R160). -/
def Output.pulsedBy (o : Output) (k : ChannelId) : Output :=
  if o.source = .done k then { o with pulse := true } else o

/-- The channel-done report (R137): the disarm of R148 and the pulses of R160. -/
def State.channelDone (s : State) (k : ChannelId) (source : Option StartSource) (countLeft : Nat) : State :=
  let s := s.disarmFor source countLeft
  { s with lines := { s.lines with outputs := s.lines.outputs.map (fun o => o.pulsedBy k) } }

/-- CHANNEL_DONE to the fleet port and the plant port, if the channel's completion notice is yes (R136). -/
def State.postChannelDone (s : State) (k : ChannelId) (result : DoneResult) : State :=
  let ch := s.channel k
  if ch.completionNotice then
    let n := Notice.channelDone k result ch.rested ch.declined ch.count ch.currentSource
    (s.post .fleet n).post .plant n
  else s

/-! ## Starts -/

/-- The quota of a start (R124). -/
def Channel.startQuota (ch : Channel) : Nat :=
  match ch.mode with
  | .one => 1
  | .all => ch.count
  | .group => ch.groupSize

/-- Steps 1 to 3 of R135. -/
def State.closeStart (s : State) (k : ChannelId) (result : DoneResult) : State :=
  let s := s.setChannel k { s.channel k with state := .idle, quota := 0, outstanding := 0 }
  let s := s.postChannelDone k result
  s.channelDone k (s.channel k).currentSource (s.channel k).count

/-- A start taken while the channel is IDLE (R124): it enters STEPPING, or completes EMPTY with no link when its
count is 0 (R135, R138). -/
def State.takeStart (s : State) (k : ChannelId) (source : StartSource) : State :=
  let ch := { s.channel k with currentSource := some source, rested := 0, declined := 0, lastReason := none }
  if ch.count = 0 then
    ((s.setChannel k ch).reportSource .taken source).closeStart k .empty
  else
    (s.setChannel k { ch with state := .stepping, quota := ch.startQuota }).reportSource .taken source

/-- A start that reaches a busy channel (R125): it becomes the one pending start. -/
def State.recordPending (s : State) (k : ChannelId) (source : StartSource) : State :=
  let ch := s.channel k
  let recorded := s.setChannel k { ch with pendingStart := some source }
  match ch.pendingStart with
  | none => recorded.reportSource .pending source
  | some old => if old = source then s else (recorded.reportSource .replaced old).reportSource .pending source

/-- A start delivered to a channel (R123 to R125). No start is delivered in SAFE_HALT: the sources see to that
(R126, R138, R151). -/
def State.deliverStart (s : State) (k : ChannelId) (source : StartSource) : State :=
  if (s.channel k).state = .idle then s.takeStart k source else s.recordPending k source

/-! ## Completion -/

/-- Step 4 of R135: the link of a completion that left count 0 (R138). -/
def State.followLink (s : State) (k : ChannelId) : State :=
  let ch := s.channel k
  if ch.count = 0 ∧ ch.linkEnable = true then s.deliverStart ch.linkTarget (.link k) else s

/-- Step 5 of R135: the pending start is taken. -/
def State.takePending (s : State) (k : ChannelId) : State :=
  let ch := s.channel k
  match ch.pendingStart with
  | none => s
  | some source => (s.setChannel k { ch with pendingStart := none }).takeStart k source

/-- A completion with result DONE (R135). -/
def State.completeDone (s : State) (k : ChannelId) : State :=
  ((s.closeStart k .done).followLink k).takePending k

/-- A start completes when its channel is AWAITING with no drain outstanding; no completion is taken in
SAFE_HALT (R135). -/
def State.completeIfDone (s : State) (k : ChannelId) : State :=
  if (s.channel k).state = .awaiting ∧ (s.channel k).outstanding = 0 ∧ s.halted = false then s.completeDone k else s

/-! ## Outcomes -/

/-- Outcomes of a drain (R30). -/
inductive DrainOutcome where
  | rested | declined
  deriving DecidableEq, Repr

/-- The tallies after an outcome (R132). -/
def Channel.countOutcome (ch : Channel) (outcome : DrainOutcome) : Channel :=
  match outcome with
  | .rested => { ch with outstanding := ch.outstanding - 1, rested := ch.rested + 1 }
  | .declined => { ch with outstanding := ch.outstanding - 1, declined := ch.declined + 1 }

/-- The outcome of a drain reaches its channel (R132). In SAFE_HALT, and in IDLE, it changes nothing (R132,
R141). -/
def State.drainOutcome (s : State) (k : ChannelId) (outcome : DrainOutcome) : State :=
  if s.halted = true ∨ (s.channel k).state = .idle then s
  else (s.setChannel k ((s.channel k).countOutcome outcome)).completeIfDone k

/-- The outcome reported to the drain channel of a record, if it names one (R30). -/
def State.reportOutcome (s : State) (k : Option ChannelId) (outcome : DrainOutcome) : State :=
  match k with
  | none => s
  | some k => s.drainOutcome k outcome

/-! ## Processed entries (R128) -/

/-- The quota, count and pointer after a processed entry, and the state: STEPPING while entries remain in the
quota, else AWAITING (R128). A channel that was BLOCKED waits no longer (R129). -/
def Channel.processed (ch : Channel) : Channel :=
  let quota := ch.quota - 1
  let ch := { ch with quota := quota, waiting := none, state := if quota = 0 then .awaiting else .stepping }
  match ch.mode, ch.pointerMode with
  | .group, .rewind =>
    if quota = 0 then { ch with count := ch.count - 1, pointer := ch.pointer + 1 - ch.groupSize }
    else { ch with pointer := ch.pointer + 1 }
  | .group, _ =>
    if quota = 0 then { ch with count := ch.count - 1, pointer := ch.pointer + 1 }
    else { ch with pointer := ch.pointer + 1 }
  | _, .hold => { ch with count := ch.count - 1 }
  | _, _ => { ch with count := ch.count - 1, pointer := ch.pointer + 1 }

/-- An entry declined at once (R127). -/
def Channel.declineEntry (ch : Channel) (reason : DeclineReason) : Channel :=
  { ch with declined := ch.declined + 1, lastReason := some reason }

/-- A processed entry: the channel moves on, and its start may complete (R128, R135). -/
def State.entryProcessed (s : State) (k : ChannelId) (ch : Channel) : State :=
  (s.setChannel k ch.processed).completeIfDone k

end Sys2Proof.Machine
end

