-- ==== Sys2Proof/Machine/Drains.lean ====
section
/-!
DEFINITION. Drain starts, drain slots and the end of a drain (Chapter 1), and the step of a channel that asks for
a drain start (R127, R129).
-/
namespace Sys2Proof.Machine
open Sys2Proof

/-- Answers to a drain-start request (R8). -/
inductive DrainAnswer where
  | started
  | declined (reason : DeclineReason)
  | limit (tenant : TenantId)
  deriving DecidableEq, Repr

/-- The floor test (R44). -/
def State.floorAllows (s : State) (pv : Provision) : Bool :=
  pv.layer == .capacity || decide (s.floorOf pv.owner pv.sector + 1 ≤ s.onCount pv.owner pv.sector)

/-- The conditions of Table 1-2 in their order; the first that fails gives the answer (R8). -/
def State.drainAnswer (s : State) (c : CarrierId) : DrainAnswer :=
  let r := s.carrier c
  if s.halted then .declined .halted
  else
    match r.provision with
    | none => .declined .vacant
    | some pv =>
      if r.state = .vacant then .declined .vacant
      else if r.state ≠ .on then .declined .notOn
      else if r.offered = false then .declined .notOffered
      else if r.claims ≠ 0#5 then .declined .claimed
      else if s.windowAdmits pv.window = false then .declined .windowShut
      else if s.lines.restHold = true then .declined .held
      else if s.floorAllows pv = false then .declined .floor
      else if s.hasFreeSlot pv.owner = false then .limit pv.owner
      else .started

/-- Post a notice to the owner of a carrier (R29). -/
def State.postOwner (s : State) (c : CarrierId) (n : Notice) : State :=
  match (s.carrier c).provision with
  | none => s
  | some pv => s.post (.tenant pv.owner) n

/-- What a drain start does (R9). -/
def State.startDrain (s : State) (c : CarrierId) (k : ChannelId) : State :=
  let deadline := secondsAfter s.now s.table.drainTime
  (s.setCarrier c { s.carrier c with state := .draining, drainDeadline := some deadline, drainChannel := some k }).postOwner
    c (.drain c deadline)

/-- The Rest List entry at a pointer; `none` is NONE. No entry is read at pointer 256 (R119). -/
def State.restEntry (s : State) (pointer : Nat) : Option CarrierId :=
  (s.rest.list[pointer]?).join

/-- An entry declined at once (R127). -/
def State.entryDeclined (s : State) (k : ChannelId) (reason : DeclineReason) : State :=
  s.entryProcessed k ((s.channel k).declineEntry reason)

/-- One step or one retry of a channel: the entry at its pointer is read, and the Carrier Table asked (R127,
R129). -/
def State.processEntry (s : State) (k : ChannelId) : State :=
  match s.restEntry (s.channel k).pointer with
  | none => s.entryDeclined k .noEntry
  | some c =>
    match s.drainAnswer c with
    | .started =>
      let s := s.startDrain c k
      s.entryProcessed k { s.channel k with outstanding := (s.channel k).outstanding + 1 }
    | .declined reason => s.entryDeclined k reason
    | .limit t => s.setChannel k { s.channel k with state := .blocked, waiting := some t }

/-! ## Drain slots (R11) -/

/-- The channel waits on the tenant (R11). -/
def Channel.waitsOn (ch : Channel) (t : TenantId) : Bool :=
  ch.state == .blocked && ch.waiting == some t

/-- One waiting channel is retried while its tenant has a free slot (R11). -/
def State.offerSlotTo (s : State) (t : TenantId) (k : ChannelId) : State :=
  if (s.channel k).waitsOn t = true ∧ s.hasFreeSlot t = true then s.processEntry k else s

/-- A tenant's free slots are offered to the channels waiting on it, in ascending channel number (R11). -/
def State.offerSlots (s : State) (t : TenantId) : State :=
  channelIds.foldl (fun s k => s.offerSlotTo t k) s

/-! ## The end of a drain -/

/-- What happens to offered at a cancel (R16). -/
def CancelReason.keepsOffer : CancelReason → Bool
  | .withdrawn => false
  | .timeout => false
  | .wake => true
  | .claimed => true
  | .windowClosed => true
  | .halt => true
  | .powerLost => true

/-- The record after a cancel (R16). -/
def Carrier.cancelled (r : Carrier) (reason : CancelReason) : Carrier :=
  { r with state := .on, drainDeadline := none, drainChannel := none, offered := r.offered && reason.keepsOffer }

/-- A cancel but for the slot offer: the record, DRAIN_CANCEL to the owner, DECLINED to the channel (R16). -/
def State.cancelDrain (s : State) (c : CarrierId) (reason : CancelReason) : State :=
  let r := s.carrier c
  ((s.setCarrier c (r.cancelled reason)).postOwner c (.drainCancel c reason)).reportOutcome r.drainChannel .declined

/-- Offer the freed slot of a carrier's owner (R11). -/
def State.offerOwnersSlots (s : State) (c : CarrierId) : State :=
  match (s.carrier c).provision with
  | none => s
  | some pv => s.offerSlots pv.owner

/-- A whole cancel (R16). -/
def State.cancelAndOffer (s : State) (c : CarrierId) (reason : CancelReason) : State :=
  (s.cancelDrain c reason).offerOwnersSlots c

end Sys2Proof.Machine
end

