-- ==== Sys2Proof/Machine/Branches.lean ====
section
/-!
DEFINITION. Branch transitions and the Inrush Arbiter (Chapter 3, Sections 4.5), with the "powered" report to the
Carrier Table (R20).
-/
namespace Sys2Proof.Machine
open Sys2Proof

/-- The record in another state, with every field that R50 ties to a state at the value it has elsewhere: no
deadline, no mark, raise level 0, no grant. -/
def Branch.enter (r : Branch) (state : BranchState) : Branch :=
  { r with state := state, raiseLevel := 0, lingerDeadline := none, lingerExpired := false, rampDeadline := none,
           wakeSeen := false, grant := .none }

def State.enterBranch (s : State) (b : BranchId) (state : BranchState) : State :=
  s.setBranch b ((s.branch b).enter state)

/-! ## Unmute (R20) -/

/-- UNMUTE: a new live deadline, the mark, the notice (R20, R23). -/
def State.sendUnmute (s : State) (c : CarrierId) : State :=
  let deadline := secondsAfter s.now s.table.liveTime
  (s.setCarrier c { s.carrier c with liveDeadline := some deadline, unmuteSent := true }).postOwner c
    (.unmute c deadline)

/-- A WAKING member not yet unmuted is unmuted; any other is left as it is (R20). -/
def State.unmuteMember (s : State) (c : CarrierId) : State :=
  if (s.carrier c).state = .waking ∧ (s.carrier c).unmuteSent = false then s.sendUnmute c else s

/-- The "powered" report of a branch, taken by the Carrier Table (R20). -/
def State.reportPowered (s : State) (b : BranchId) : State :=
  (s.branch b).members.foldl (fun s c => s.unmuteMember c) s

/-! ## Settling and lowering -/

/-- A lowering begins (R57). -/
def State.beginLowering (s : State) (b : BranchId) : State :=
  s.setBranch b { (s.branch b).enter .lowering with rampDeadline := some (secondsAfter s.now s.ctrl.rampDown) }

/-- The linger of a SETTLING branch expires (R58). -/
def State.lingerExpires (s : State) (b : BranchId) : State :=
  if s.lines.restHold then s.setBranch b { s.branch b with lingerDeadline := none, lingerExpired := true }
  else s.beginLowering b

/-- A branch enters SETTLING; a linger of 0 expires in the same event (R56). -/
def State.enterSettling (s : State) (b : BranchId) : State :=
  let settled := s.setBranch b
    { (s.branch b).enter .settling with lingerDeadline := some (secondsAfter s.now s.ctrl.linger) }
  if s.ctrl.linger = 0 then settled.lingerExpires b else settled

/-- The settle conditions are tested (R56). -/
def State.settleTest (s : State) (b : BranchId) : State :=
  if s.settleConditions b then s.enterSettling b else s

/-- The end of the rest hold reaches one branch (R59). -/
def State.lowerIfHeld (s : State) (b : BranchId) : State :=
  if (s.branch b).state = .settling ∧ (s.branch b).lingerExpired = true then s.beginLowering b else s

/-- The rest hold ends: every SETTLING branch whose linger expired lowers (R59, R156). -/
def State.endRestHold (s : State) : State :=
  branchIds.foldl (fun s b => s.lowerIfHeld b) (s.setRestHold false)

/-! ## The raise queue and grants -/

/-- Whether an entry stands before another: higher level first, then smaller stamp (R91). -/
def QueueEntry.before (x y : QueueEntry) : Bool :=
  decide (y.level < x.level) || (x.level == y.level && decide (x.stamp < y.stamp))

/-- Place an entry at the position R91 gives. -/
def placeEntry (e : QueueEntry) (queue : List QueueEntry) : List QueueEntry :=
  match queue with
  | [] => [e]
  | x :: xs => if e.before x then e :: x :: xs else x :: placeEntry e xs

/-- The grant the arbiter can give now, with its entry: the head, under step 2 or step 3 of R94. -/
def Arbiter.nextGrant (a : Arbiter) : Option (QueueEntry × Grant) :=
  match a.queue with
  | [] => none
  | e :: _ =>
    if a.normalHolders.length < a.budget then some (e, .normal)
    else if a.emergencyHolder = none ∧ e.level = 7 then some (e, .emergency)
    else none

/-- The head is removed and its branch becomes a holder (R94). -/
def Arbiter.give (a : Arbiter) (b : BranchId) (g : Grant) : Arbiter :=
  match g with
  | .normal => { a with queue := a.queue.tail, normalHolders := insertIndex b a.normalHolders }
  | .emergency => { a with queue := a.queue.tail, emergencyHolder := some b }
  | .none => a

/-- A release: the branch is removed from the holders of the grant it held (R96). -/
def Arbiter.drop (a : Arbiter) (b : BranchId) (g : Grant) : Arbiter :=
  match g with
  | .normal => { a with normalHolders := removeIndex b a.normalHolders }
  | .emergency => { a with emergencyHolder := none }
  | .none => a

/-- BGD rises on a RAISING branch (R66): POWERED, the release with what the arbiter then grants (`consider`), the
"powered" report, the settle test. -/
def State.powerGood (s : State) (consider : State → State) (b : BranchId) : State :=
  let grant := (s.branch b).grant
  let s := s.enterBranch b .powered
  let s := consider (s.setArb (s.arb.drop b grant))
  (s.reportPowered b).settleTest b

/-- A QUEUED branch is handed a grant (R65): RAISING, and POWERED at once if its BGD is high. -/
def State.takeGrant (s : State) (consider : State → State) (b : BranchId) (g : Grant) : State :=
  let r := s.branch b
  let s := s.setArb (s.arb.give b g)
  let s := s.setBranch b
    { r.enter .raising with
      raiseLevel := r.raiseLevel, grant := g, rampDeadline := some (secondsAfter s.now s.ctrl.rampUp) }
  if s.bgd b then s.powerGood consider b else s

/-- The arbiter considers grants (R94). Each grant takes an entry off the queue, so a bound of the queue's length
lets it run to its end; a release met on the way is considered in turn (R94, R96). -/
def considerGrantsUpTo : Nat → State → State
  | 0, s => s
  | n + 1, s =>
    match s.arb.nextGrant with
    | none => s
    | some (e, g) => considerGrantsUpTo n (s.takeGrant (considerGrantsUpTo n) e.branch g)

/-- The arbiter considers grants until it stops (R94). -/
def State.considerGrants (s : State) : State := considerGrantsUpTo s.arb.queue.length s

/-- A branch enters QUEUED at a level, and the arbiter takes its entry (R60, R92). -/
def State.enterQueued (s : State) (b : BranchId) (level : Nat) : State :=
  let s := s.setBranch b { (s.branch b).enter .queued with raiseLevel := level }
  let entry := { branch := b, level := level, stamp := s.arb.entryCounter }
  (s.setArb { s.arb with queue := placeEntry entry s.arb.queue, entryCounter := s.arb.entryCounter + 1 }).considerGrants

/-- The queue with a branch's entry at a new level, its stamp kept (R93). -/
def raiseEntry (b : BranchId) (level : Nat) (queue : List QueueEntry) : List QueueEntry :=
  match queue.find? (fun e => e.branch == b) with
  | none => queue
  | some e => placeEntry { e with level := level } (queue.filter (fun x => x.branch != b))

/-- A QUEUED branch's level rises (R60, R93). -/
def State.raiseQueued (s : State) (b : BranchId) (level : Nat) : State :=
  let r := s.branch b
  if r.raiseLevel < level then
    let s := s.setBranch b { r with raiseLevel := level }
    (s.setArb { s.arb with queue := raiseEntry b level s.arb.queue }).considerGrants
  else s

/-- A grant is released (R96). -/
def State.releaseGrant (s : State) (b : BranchId) (g : Grant) : State :=
  (s.setArb (s.arb.drop b g)).considerGrants

/-! ## Reports of the Carrier Table (R19) -/

/-- The reports about a waking member, with the branch they name (R19). -/
inductive MemberReport where
  | waking (branch : BranchId) (level : Nat)
  | raised (branch : BranchId) (level : Nat)
  deriving DecidableEq, Repr

/-- A member-waking report (R61). -/
def State.memberWaking (s : State) (b : BranchId) (level : Nat) : State :=
  let r := s.branch b
  match r.state with
  | .powered => s.reportPowered b
  | .settling => (s.enterBranch b .powered).reportPowered b
  | .lowering => s.setBranch b { r with wakeSeen := true }
  | .dark => s.enterQueued b level
  | .queued => s.raiseQueued b level
  | .raising => s.setBranch b { r with raiseLevel := max r.raiseLevel level }
  | .faulted => s
  | .unused => s
  | .out => s

/-- A member-level-raised report (R62). -/
def State.memberRaised (s : State) (b : BranchId) (level : Nat) : State :=
  let r := s.branch b
  match r.state with
  | .queued => s.raiseQueued b level
  | .raising => s.setBranch b { r with raiseLevel := max r.raiseLevel level }
  | .powered => s
  | .settling => s
  | .lowering => s
  | .dark => s
  | .faulted => s
  | .unused => s
  | .out => s

def State.memberReport (s : State) (report : MemberReport) : State :=
  match report with
  | .waking b level => s.memberWaking b level
  | .raised b level => s.memberRaised b level

/-! ## Darkness -/

/-- BGD falls on a LOWERING branch (R63): DARK, and QUEUED again where a member is WAKING, a wake was seen, or
the branch is PINNED. The level is at least 1. -/
def State.goDark (s : State) (b : BranchId) : State :=
  let seen := (s.branch b).wakeSeen
  let s := s.enterBranch b .dark
  if s.anyMemberWaking b = true ∨ seen = true ∨ (s.branch b).lineMode = .pinned then
    s.enterQueued b (max 1 (s.highestWake b))
  else s

end Sys2Proof.Machine
end

