-- ==== Sys2Proof/Machine/Wakes.lean ====
section
/-!
DEFINITION. Wakes: one wake at a carrier record (R18), and the rounds of wakes one event delivers (R81).
-/
namespace Sys2Proof.Machine
open Sys2Proof

/-- Outcomes of a wake, in the order of their codes (R18, R199). -/
inductive WakeOutcome where
  | honoured | pending | already | cancelledDrain
  deriving DecidableEq, Repr

def WakeOutcome.code : WakeOutcome → Byte
  | .honoured => 0x00#8
  | .pending => 0x01#8
  | .already => 0x02#8
  | .cancelledDrain => 0x03#8

/-- What one wake does to the records: the state, the outcome, the report it owes the Branch Controller (R19), and
the carrier whose drain slot it freed (R16). -/
structure WakeEffect where
  state : State
  outcome : WakeOutcome
  report : Option MemberReport
  freed : Option CarrierId

/-- RESTING to WAKING at a level (R18). -/
def Carrier.woken (r : Carrier) (level : Nat) : Carrier :=
  { r with state := .waking, wakeLevel := some level, unmuteSent := false, pendingWake := 0 }

/-- The branch of a provisioned carrier, as the reports name it (R19). -/
def Carrier.reportWith (r : Carrier) (report : BranchId → MemberReport) : Option MemberReport :=
  r.provision.map (fun pv => report pv.branch)

/-- A wake of a level reaches a carrier record (R18). -/
def State.wakeCarrier (s : State) (c : CarrierId) (level : Nat) : WakeEffect :=
  let r := s.carrier c
  match r.state with
  | .vacant => { state := s, outcome := .already, report := none, freed := none }
  | .on => { state := s, outcome := .already, report := none, freed := none }
  | .draining => { state := s.cancelDrain c .wake, outcome := .cancelledDrain, report := none, freed := some c }
  | .resting =>
    if s.honours c level then
      { state := s.setCarrier c (r.woken level), outcome := .honoured,
        report := r.reportWith (fun b => .waking b level), freed := none }
    else
      { state := s.setCarrier c { r with pendingWake := max r.pendingWake level }, outcome := .pending,
        report := none, freed := none }
  | .waking =>
    if r.wakeLevel.getD 0 < level then
      { state := s.setCarrier c { r with wakeLevel := some level }, outcome := .honoured,
        report := r.reportWith (fun b => .raised b level), freed := none }
    else { state := s, outcome := .already, report := none, freed := none }
  | .barred =>
    { state := s.setCarrier c { r with pendingWake := max r.pendingWake level }, outcome := .pending,
      report := none, freed := none }

/-! ## Rounds (R81) -/

/-- A round of wakes in progress: the state, the reports and freed slots it owes, in ascending carrier index, and
the counts of R89. -/
structure WakeRound where
  state : State
  reports : List MemberReport
  freed : List CarrierId
  woken : Nat
  cancelled : Nat
  raised : Nat
  pending : Nat

def WakeRound.start (s : State) : WakeRound :=
  { state := s, reports := [], freed := [], woken := 0, cancelled := 0, raised := 0, pending := 0 }

/-- One wake of a round is delivered. The counts are those of FORCE_WAKE: RESTING carriers that entered WAKING,
drains cancelled, WAKING carriers raised, BARRED carriers holding the level (R89; log 16). -/
def WakeRound.deliver (w : WakeRound) (c : CarrierId) (level : Nat) : WakeRound :=
  let before := (w.state.carrier c).state
  let e := w.state.wakeCarrier c level
  { state := e.state
    reports := w.reports ++ e.report.toList
    freed := w.freed ++ e.freed.toList
    woken := if before = .resting ∧ e.outcome = .honoured then w.woken + 1 else w.woken
    cancelled := if before = .draining then w.cancelled + 1 else w.cancelled
    raised := if before = .waking ∧ e.outcome = .honoured then w.raised + 1 else w.raised
    pending := if before = .barred then w.pending + 1 else w.pending }

/-- A wake for each carrier of the list that the source reaches at the moment its own wake is delivered (R81). -/
def WakeRound.deliverAll (w : WakeRound) (reaches : Carrier → Bool) (level : Nat) (cs : List CarrierId) : WakeRound :=
  cs.foldl (fun w c => if reaches (w.state.carrier c) then w.deliver c level else w) w

/-- The end of a round: the freed slots are offered, and then the reports go to the Branch Controller (R81, R19;
log 7). -/
def WakeRound.finish (w : WakeRound) : State :=
  w.reports.foldl (fun s report => s.memberReport report) (w.freed.foldl (fun s c => s.offerOwnersSlots c) w.state)

/-- A wake of a level to every carrier of the site that the source reaches (R80, R81). -/
def State.wakeRound (s : State) (reaches : Carrier → Bool) (level : Nat) : WakeRound :=
  (WakeRound.start s).deliverAll reaches level carrierIds

/-- A wake of a level to one carrier, with all that follows in its event (R18, R19, R11). -/
def State.wakeOne (s : State) (c : CarrierId) (level : Nat) : State :=
  ((WakeRound.start s).deliver c level).finish

end Sys2Proof.Machine
end

