-- ==== Sys2Proof/Machine/Faults.lean ====
section
/-!
DEFINITION. Safe halt, pushes and failures (Chapter 8, with R24, R27, R64, R67, R68, R77, R140), and the
dispositions of resolved records (R23, R25, R73 to R75, R171).
-/
namespace Sys2Proof.Machine
open Sys2Proof

/-! ## SAFE_HALT -/

/-- The Carrier Table's first pass at halt entry (R27). -/
def State.haltCancel (s : State) (c : CarrierId) : State :=
  if (s.carrier c).state = .draining then s.cancelAndOffer c .halt else s

/-- The Carrier Table's reaction: cancels, then level-7 wakes, then the reports (R27). -/
def State.carriersHaltReaction (s : State) : State :=
  ((carrierIds.foldl (fun s c => s.haltCancel c) s).wakeRound
    (fun r => r.state == .resting || r.state == .barred) 7).finish

/-- The Branch Controller's reaction on one branch (R77). -/
def State.branchHaltReaction (s : State) (b : BranchId) : State :=
  match (s.branch b).state with
  | .settling => s.enterBranch b .powered
  | .lowering => s.enterQueued b 7
  | .unused => s
  | .powered => s
  | .dark => s
  | .queued => s
  | .raising => s
  | .faulted => s
  | .out => s

def State.branchesHaltReaction (s : State) : State :=
  branchIds.foldl (fun s b => s.branchHaltReaction b) s

/-- The Rest Channels' reaction on one channel (R140). -/
def State.channelHaltReaction (s : State) (k : ChannelId) : State :=
  let ch := s.channel k
  let stopped := s.setChannel k { ch with state := .idle, quota := 0, pendingStart := none, waiting := none }
  match ch.pendingStart with
  | none => stopped
  | some source => stopped.reportSource .dropped source

def State.channelsHaltReaction (s : State) : State :=
  channelIds.foldl (fun s k => s.channelHaltReaction k) s

/-- The reactions of the blocks in one of the orders R177 allows. -/
def State.haltReactions (s : State) (order : HaltOrder) : State :=
  match order with
  | .carriersBranchesChannels => s.carriersHaltReaction.branchesHaltReaction.channelsHaltReaction
  | .carriersChannelsBranches => s.carriersHaltReaction.channelsHaltReaction.branchesHaltReaction
  | .branchesCarriersChannels => s.branchesHaltReaction.carriersHaltReaction.channelsHaltReaction
  | .branchesChannelsCarriers => s.branchesHaltReaction.channelsHaltReaction.carriersHaltReaction
  | .channelsCarriersBranches => s.channelsHaltReaction.carriersHaltReaction.branchesHaltReaction
  | .channelsBranchesCarriers => s.channelsHaltReaction.branchesHaltReaction.carriersHaltReaction

/-- Steps 1 and 2 of entry into SAFE_HALT: the halt state and cause, and HALT to the six ports (R177). -/
def State.announceHalt (s : State) (reason : HaltReason) : State :=
  let s := s.setStack { s.stack with halt := some { reason := reason, time := s.recordedTime } }
  allPorts.foldl (fun s p => s.post p (.halt reason)) s

/-- Entry into SAFE_HALT with the reactions in a given order (R177). -/
def State.enterHaltIn (s : State) (order : HaltOrder) (reason : HaltReason) : State :=
  (s.announceHalt reason).haltReactions order

/-- Entry into SAFE_HALT (R177). The order of the reactions is the free value `Config.haltOrder` (log 5). -/
def State.enterHalt (s : State) (reason : HaltReason) : State :=
  { s with haltDraws := s.haltDraws + 1 }.enterHaltIn (Config.haltOrder s.haltDraws) reason

/-! ## Pushes (R164 to R167) -/

/-- Kind and subject of a record. -/
def FaultRecord.failure (r : FaultRecord) : Failure :=
  match r with
  | .ofBranch .rampDownStuck b _ _ => .rampDownStuck b
  | .ofBranch .rampUpFailed b _ _ => .rampUpFailed b
  | .ofBranch .powerLost b _ _ => .powerLost b
  | .ofCarrier c _ _ => .liveTimeout c

/-- A push (R164): no record is added in SAFE_HALT (R166), and a push onto a full stack is the double fault of
R167. -/
def State.pushFault (s : State) (r : FaultRecord) : State :=
  if s.halted then s
  else if s.stack.records.length < Config.stackPlaces then
    (s.setStack { s.stack with records := r :: s.stack.records }).post .plant (.fault r.failure)
  else s.enterHalt (.doubleFault r.failure)

/-- A push of a branch failure with a snapshot (R165). -/
def State.pushBranchFault (s : State) (kind : BranchFault) (b : BranchId)
    (snapshot : List (CarrierId × CarrierState)) : State :=
  s.pushFault (.ofBranch kind b s.recordedTime snapshot)

/-! ## Failures of branches -/

/-- Ramp deadline of a LOWERING branch (R64). -/
def State.rampDownFails (s : State) (b : BranchId) : State :=
  let snapshot := s.memberSnapshot b
  (s.enterBranch b .faulted).pushBranchFault .rampDownStuck b snapshot

/-- Ramp deadline of a RAISING branch (R67). -/
def State.rampUpFails (s : State) (b : BranchId) : State :=
  let grant := (s.branch b).grant
  let snapshot := s.memberSnapshot b
  ((s.enterBranch b .faulted).releaseGrant b grant).pushBranchFault .rampUpFailed b snapshot

/-- A member turned to WAKING by loss of power (R24). -/
def Carrier.lostPower (r : Carrier) : Carrier :=
  { r with state := .waking, wakeLevel := some 7, unmuteSent := false, drainDeadline := none, liveDeadline := none,
           drainChannel := none }

/-- "Power lost" at one member (R24). -/
def State.memberLosesPower (s : State) (c : CarrierId) : State :=
  let r := s.carrier c
  match r.state with
  | .on => s.setCarrier c r.lostPower
  | .draining =>
    (((s.setCarrier c r.lostPower).postOwner c (.drainCancel c .powerLost)).reportOutcome r.drainChannel
      .declined).offerOwnersSlots c
  | .waking => s.setCarrier c { r with unmuteSent := false, liveDeadline := none }
  | .resting => s
  | .vacant => s
  | .barred => s

/-- The member-waking reports of R24: the members that entered WAKING from ON or DRAINING, by the states they had
when power went. -/
def powerLostReports (b : BranchId) (snapshot : List (CarrierId × CarrierState)) : List MemberReport :=
  (snapshot.filter (fun m => m.2 == .on || m.2 == .draining)).map (fun _ => .waking b 7)

/-- "Power lost" at the Carrier Table (R24): the members, BRANCH_DOWN to every member's owner, the reports. -/
def State.carriersLosePower (s : State) (b : BranchId) : State :=
  let members := (s.branch b).members
  let reports := powerLostReports b (s.memberSnapshot b)
  let s := members.foldl (fun s c => s.memberLosesPower c) s
  let s := members.foldl (fun s c => s.postOwner c (.branchDown c b)) s
  reports.foldl (fun s report => s.memberReport report) s

/-- BGD falls on a POWERED or SETTLING branch (R68). -/
def State.losePower (s : State) (b : BranchId) : State :=
  let snapshot := s.memberSnapshot b
  ((s.enterBranch b .faulted).carriersLosePower b).pushBranchFault .powerLost b snapshot

/-! ## Resolutions of branch faults (R73 to R75) -/

/-- A resolution returns a branch to POWERED: BGD is read first (R73). -/
def State.resolveToPowered (s : State) (b : BranchId) : State :=
  let s := s.enterBranch b .powered
  if s.bgd b then (s.reportPowered b).settleTest b else s.losePower b

/-- "Out" at one member (R25). -/
def State.barMember (s : State) (b : BranchId) (c : CarrierId) : State :=
  let r := s.carrier c
  match r.state with
  | .resting => (s.setCarrier c { r with state := .barred }).postOwner c (.barred c b)
  | .waking =>
    (s.setCarrier c
      { r with state := .barred, pendingWake := r.wakeLevel.getD 0, wakeLevel := none, liveDeadline := none,
               unmuteSent := false }).postOwner c (.barred c b)
  | .vacant => s
  | .on => s
  | .draining => s
  | .barred => s

/-- The branch is retired into OUT (R75) and reports "out" (R25). -/
def State.retireBranch (s : State) (b : BranchId) : State :=
  let s := s.enterBranch b .out
  (s.branch b).members.foldl (fun s c => s.barMember b c) s

/-- The dispositions of a branch record (R74, R75, R171). -/
def State.disposeBranchFault (s : State) (kind : BranchFault) (b : BranchId) (d : Disposition) : State :=
  match kind, d with
  | .rampDownStuck, .retry =>
    if (s.branch b).lineMode = .follow ∧ s.allMembersResting b = true then s.beginLowering b
    else s.resolveToPowered b
  | .rampDownStuck, .retire => (s.setBranch b { s.branch b with lineMode := .pinned }).resolveToPowered b
  | .rampUpFailed, .retry => s.enterQueued b (max 1 (s.highestWake b))
  | .powerLost, .retry => s.enterQueued b 7
  | .rampUpFailed, .retire => s.retireBranch b
  | .powerLost, .retire => s.retireBranch b

/-! ## Carriers coming live, and their records (R21, R23, R168) -/

/-- CARRIER_ON to one claimant other than the owner (R41). -/
def State.postCarrierOn (s : State) (c : CarrierId) (claimant : Claimant) : State :=
  if claims (s.carrier c).claims claimant = true ∧ (s.carrier c).provision.map (fun pv => Port.tenant pv.owner) ≠ some claimant.port then
    s.post claimant.port (.carrierOn c)
  else s

/-- The record after LIVE (R21). -/
def Carrier.live (r : Carrier) : Carrier :=
  { r with state := .on, wakeLevel := none, liveDeadline := none, unmuteSent := false, offered := false }

/-- A carrier comes ON from WAKING (R21, R23, R41). -/
def State.comesLive (s : State) (c : CarrierId) : State :=
  allClaimants.foldl (fun s m => s.postCarrierOn c m) (s.setCarrier c (s.carrier c).live)

/-- The settled mark of an unsettled LIVE_TIMEOUT record of the carrier (R168). -/
def FaultRecord.settle (r : FaultRecord) (c : CarrierId) : FaultRecord :=
  match r with
  | .ofCarrier c' t settled => .ofCarrier c' t (settled || c' == c)
  | .ofBranch k b t sn => .ofBranch k b t sn

def State.settleRecords (s : State) (c : CarrierId) : State :=
  s.setStack { s.stack with records := s.stack.records.map (fun r => r.settle c) }

/-- Whether the carrier's branch is POWERED. -/
def State.branchPowered (s : State) (c : CarrierId) : Bool :=
  match (s.carrier c).provision with
  | none => false
  | some pv => (s.branch pv.branch).state == .powered

/-- The dispositions of an unsettled LIVE_TIMEOUT record (R23). -/
def State.disposeLiveTimeout (s : State) (c : CarrierId) (d : Disposition) : State :=
  if (s.carrier c).state = .waking ∧ (s.carrier c).unmuteSent = true ∧ s.branchPowered c = true then
    match d with
    | .retry => s.sendUnmute c
    | .retire => s.comesLive c
  else s

/-- The disposition is handed to the block that owns the subject (R171). A branch record acts on a FAULTED branch,
which its branch is (R69); a settled record is not handed on. -/
def State.dispose (s : State) (r : FaultRecord) (d : Disposition) : State :=
  match r with
  | .ofBranch kind b _ _ => if (s.branch b).state = .faulted then s.disposeBranchFault kind b d else s
  | .ofCarrier c _ settled => if settled then s else s.disposeLiveTimeout c d

/-- Live deadline of a WAKING carrier (R22). -/
def State.liveTimesOut (s : State) (c : CarrierId) : State :=
  (s.setCarrier c { s.carrier c with liveDeadline := none }).pushFault (.ofCarrier c s.recordedTime false)

end Sys2Proof.Machine
end

