-- ==== Sys2Proof/Machine/Windows.lean ====
section
/-!
DEFINITION. Causes (R145, R146, R151), the rest hold (R154 to R158), and the windows' open and close events with
the membership recompute (Chapter 5).
-/
namespace Sys2Proof.Machine
open Sys2Proof

/-! ## Causes -/

/-- The cause of a slot occurs: R145 with start enable yes, R146 with start enable no, R151 in SAFE_HALT. -/
def State.causeOccurs (s : State) (k : SlotId) : State :=
  let slot := s.slot k
  let flagged := s.setSlot k { slot with flag := true }
  if slot.startEnable then
    if s.halted then flagged else flagged.deliverStart slot.target (.cause k)
  else if slot.flag then flagged
  else flagged.post .fleet (.cause k s.now)

/-- The cause slot of a window (R144). -/
def windowSlot (w : WindowId) : SlotId := ⟨w.val, Nat.lt_of_lt_of_le w.isLt (by decide)⟩

/-- The cause slot of an event input: 8 plus i (R144). -/
def inputSlot (i : InputId) : SlotId := ⟨8 + i.val, Nat.add_lt_add_left i.isLt 8⟩

/-! ## The rest hold -/

/-- The rest hold is set to a value; if that ends a hold in effect, the end is handled (R154, R156). -/
def State.holdBecomes (s : State) (inEffect : Bool) : State :=
  if s.lines.restHold = true ∧ inEffect = false then s.endRestHold else s.setRestHold inEffect

/-- An event source reaches RESTING and DRAINING carriers (R80). -/
def Carrier.restsOrDrains (r : Carrier) : Bool := r.state == .resting || r.state == .draining

/-- An active or inactive edge of HOLDAWK (R155, R158). -/
def State.holdawkActs (s : State) (active : Bool) : State :=
  match s.lines.holdMode, active with
  | .off, _ => s
  | .level, a => s.holdBecomes a
  | .latch, true => s.holdBecomes true
  | .latch, false => s
  | .wake, true => ((s.holdBecomes true).wakeRound Carrier.restsOrDrains 7).finish
  | .wake, false => s.holdBecomes false

/-! ## Open and close events -/

/-- The open event of a window (R105), in the order of its steps: where the signal of step 2 completes a channel EMPTY,
its CHANNEL_DONE comes before the WINDOW notice of step 3 (log 24). -/
def State.openEvent (s : State) (w : WindowId) : State :=
  let s := s.setWindow w { s.window w with state := .isOpen }
  (s.causeOccurs (windowSlot w)).post .fleet (.windowOpened w s.now (s.window w).active.quiet)

/-- Step 2 of R107 at one carrier. -/
def State.closeCancels (s : State) (w : WindowId) (c : CarrierId) : State :=
  if (s.carrier c).state = .draining ∧ (s.carrier c).boundTo w = true then s.cancelAndOffer c .windowClosed else s

/-- Step 3 of R107 at one carrier: its pending wake, if non-zero, and then level 1 (R86). -/
def WakeRound.deliverClose (round : WakeRound) (w : WindowId) (c : CarrierId) : WakeRound :=
  let r := round.state.carrier c
  if r.state = .resting ∧ r.boundTo w = true then
    (if r.pendingWake = 0 then round else round.deliver c r.pendingWake).deliver c 1
  else round

/-- Step 4 of R107: a hold in effect in mode LATCH ends (R156). -/
def State.endLatchedHold (s : State) : State :=
  if s.lines.holdMode = .latch ∧ s.lines.restHold = true then s.endRestHold else s

/-- Step 5 of R107: a pending swap. -/
def State.closeSwap (s : State) (w : WindowId) : State :=
  let r := s.window w
  if r.swapPending then s.setWindow w { r with active := r.shadow, swapPending := false } else s

/-- Steps 1 and 6 of R107: the window is CLOSED, and WINDOW CLOSED goes to the fleet port. R135 puts that notice before
the CHANNEL_DONE of a channel that step 2 completes, and no other notice of the event reaches that port, so it is
posted here (log 24). -/
def State.closeWindow (s : State) (w : WindowId) : State :=
  let r := s.window w
  (s.setWindow w { r with state := .closed }).post .fleet (.windowClosed w s.now r.swapPending)

/-- The close event of a window (R107). -/
def State.closeEvent (s : State) (w : WindowId) : State :=
  let s := s.closeWindow w
  let s := carrierIds.foldl (fun s c => s.closeCancels w c) s
  let s := (carrierIds.foldl (fun round c => round.deliverClose w c) (WakeRound.start s)).finish
  s.endLatchedHold.closeSwap w

/-- Whether a window's active set has it OPEN at the current site time (R102). -/
def State.evaluates (s : State) (w : WindowId) : Bool :=
  s.timer.timeValid && (s.window w).active.openAt s.now

/-- One window in a recompute (R103). -/
def State.recomputeWindow (s : State) (w : WindowId) : State :=
  match (s.window w).state, s.evaluates w with
  | .closed, true => s.openEvent w
  | .isOpen, false => s.closeEvent w
  | .closed, false => s
  | .isOpen, true => s

/-- The membership recompute (R103). -/
def State.recompute (s : State) : State :=
  windowIds.foldl (fun s w => s.recomputeWindow w) s

/-! ## Site time -/

/-- One advance of site time (R99). -/
def State.advanceTime (s : State) : State :=
  (s.setSiteTime (nextSecond s.now)).recompute

def Carrier.moveDeadlines (r : Carrier) (old new : Nat) : Carrier :=
  { r with drainDeadline := r.drainDeadline.map (movedDeadline old new),
           liveDeadline := r.liveDeadline.map (movedDeadline old new) }

def Branch.moveDeadlines (r : Branch) (old new : Nat) : Branch :=
  { r with lingerDeadline := r.lingerDeadline.map (movedDeadline old new),
           rampDeadline := r.rampDeadline.map (movedDeadline old new) }

/-- Steps 2 and 3 of R100: the new site time, and every deadline moved by the step (R13, R72). -/
def State.stepTime (s : State) (new : Nat) : State :=
  { s with
    timer := { s.timer with siteTime := new, timeValid := true }
    table := { s.table with carriers := s.table.carriers.map (fun r => r.moveDeadlines s.now new) }
    ctrl := { s.ctrl with branches := s.ctrl.branches.map (fun r => r.moveDeadlines s.now new) } }

end Sys2Proof.Machine
end

