-- ==== Sys2Proof/Machine/Images.lean ====
section
/-!
DEFINITION. The read images (R201), and the bytes of replies and notices as a read returns them (R198, R200).
-/
namespace Sys2Proof.Machine
open Sys2Proof

/-- READ_CARRIER's image (R31, R201). -/
def State.carrierImage (s : State) (c : CarrierId) : List Byte :=
  let r := s.carrier c
  [indexByte c, r.state.code,
    optionByte (fun pv => indexByte pv.owner) r.provision,
    optionByte (fun pv => indexByte pv.sector) r.provision,
    optionByte (fun pv => indexByte pv.branch) r.provision,
    optionByte (fun pv => pv.layer.code) r.provision,
    optionByte indexByte (r.provision.bind (fun pv => pv.window)),
    flagByte r.offered, setByte r.claims, byteOf r.pendingWake, optionByte byteOf r.wakeLevel, flagByte r.unmuteSent]
  ++ optionSecond r.drainDeadline ++ optionSecond r.liveDeadline
  ++ [optionByte indexByte r.drainChannel,
    optionByte (fun pv => byteOf (s.drainingCount pv.owner)) r.provision,
    optionByte (fun pv => byteOf (s.drainLimit pv.owner)) r.provision]

/-- The six member places of the branch image, unused ones 0xFF (R201). -/
def memberBytes (members : List CarrierId) : List Byte :=
  (members.map indexByte ++ List.replicate 6 0xFF#8).take 6

/-- READ_BRANCH's image (R79, R201). An asserted BEN and a high BGD are 1 (the model's choice, log 27). -/
def State.branchImage (s : State) (b : BranchId) : List Byte :=
  let r := s.branch b
  [indexByte b, r.state.code, r.lineMode.code, byteOf r.members.length] ++ memberBytes r.members
  ++ [byteOf r.raiseLevel] ++ optionSecond r.lingerDeadline ++ [flagByte r.lingerExpired]
  ++ optionSecond r.rampDeadline ++ [flagByte r.wakeSeen, r.grant.code, flagByte (s.ben b), flagByte (s.bgd b)]
  ++ twoBytes s.ctrl.linger ++ [byteOf s.ctrl.rampDown, byteOf s.ctrl.rampUp]

/-- DOUBLE_FAULT 0, PLANT 1 (R201). -/
def HaltReason.code : HaltReason → Byte
  | .doubleFault _ => 0x00#8
  | .plant => 0x01#8

def HaltReason.lost : HaltReason → Option Failure
  | .doubleFault f => some f
  | .plant => none

/-- The halt state byte; which of R197's two readings codes it is the free value of log 6. -/
def haltStateCode (halted : Bool) : Byte :=
  if Config.haltCodedByPosition then flagByte (!halted) else flagByte halted

/-- READ_SITE's image (R182, R98, R201). An EMERGENCY grant held and a rest hold in effect are 1 (the model's choice,
log 27). -/
def State.siteImage (s : State) : List Byte :=
  let lost := s.stack.halt.bind (fun h => h.reason.lost)
  threeBytes s.now
  ++ [flagByte s.timer.timeValid, haltStateCode s.halted,
    optionByte (fun h => h.reason.code) s.stack.halt,
    optionByte Failure.kindCode lost, optionByte Failure.subjectCode lost]
  ++ optionSecond (s.stack.halt.bind (fun h => h.time))
  ++ [byteOf s.arb.budget, byteOf s.arb.normalHolders.length, flagByte s.arb.emergencyHolder.isSome,
    byteOf s.arb.queue.length, flagByte s.lines.restHold, byteOf s.stack.records.length]

/-- A window set as nine bytes (R199). -/
def WindowSet.image (ws : WindowSet) : List Byte :=
  [flagByte ws.enabled] ++ threeBytes ws.openSecond ++ threeBytes ws.closeSecond ++ [setByte ws.dayMask, byteOf ws.quiet]

/-- READ_WINDOW's image (R114, R201). -/
def State.windowImage (s : State) (w : WindowId) : List Byte :=
  let r := s.window w
  [indexByte w, r.state.code, flagByte r.swapPending] ++ r.active.image ++ r.shadow.image
  ++ threeBytes s.now ++ [flagByte s.timer.timeValid]

/-- READ_CHANNEL's image (R142, R201). -/
def State.channelImage (s : State) (k : ChannelId) : List Byte :=
  let r := s.channel k
  [indexByte k, r.mode.code, r.pointerMode.code, byteOf r.base, byteOf r.count, byteOf r.groupSize,
    flagByte r.linkEnable, indexByte r.linkTarget, flagByte r.completionNotice, r.state.code]
  ++ twoBytes r.pointer
  ++ [byteOf r.quota, byteOf r.outstanding, byteOf r.rested, byteOf r.declined,
    optionByte DeclineReason.code r.lastReason, flagByte r.pendingStart.isSome,
    optionByte StartSource.code r.pendingStart, optionByte StartSource.code r.currentSource,
    optionByte indexByte (if r.state = .blocked then r.waiting else none)]

/-- The bits of a byte, lowest first: `n` bits of a value at a place. -/
def fieldAt (place : Nat) (value : Byte) : Byte := value <<< place

/-- R201: bits 0-2 target, 3 start enable, 4 disarm, 5 flag. A set flag is 1 (the model's choice, log 27). -/
def CauseSlot.image (r : CauseSlot) : Byte :=
  indexByte r.target ||| fieldAt 3 (flagByte r.startEnable) ||| fieldAt 4 (flagByte r.disarm)
    ||| fieldAt 5 (flagByte r.flag)

/-- R201: bits 0-1 edge mode, 2 role, 3 line level, 4-6 level; then the masks. A high line is 1 (the model's choice,
log 27). -/
def inputImage (r : InputSetting) (high : Bool) : List Byte :=
  [r.edgeMode.code ||| fieldAt 2 r.role.code ||| fieldAt 3 (flagByte high) ||| fieldAt 4 (byteOf r.level),
    setByte r.tenantMask, setByte r.sectorMask]

/-- R201: bits 0-1 mode, 2 invert, 3 HOLDAWK level, 4 rest hold. A high line and a hold in effect are 1 (the model's
choice, log 27). -/
def CauseUnit.holdImage (u : CauseUnit) : Byte :=
  u.holdMode.code ||| fieldAt 2 (flagByte u.holdInvert) ||| fieldAt 3 (flagByte u.holdawk)
    ||| fieldAt 4 (flagByte u.restHold)

/-- The channel byte of an output's source: the channel for DONE, none otherwise (R159). -/
def sourceChannel (source : OutputSource) : Option ChannelId :=
  match source with
  | .done c => some c
  | .none => none
  | .halt => none
  | .faults => none
  | .raising => none
  | .hold => none

/-- R201: bits 0-2 source, 3-5 channel for DONE, 6 line level. An asserted output is 1 (the model's choice, log 27). -/
def outputImage (r : Output) (high : Bool) : Byte :=
  r.source.code ||| fieldAt 3 ((sourceChannel r.source).elim 0x00#8 indexByte)
    ||| fieldAt 6 (flagByte high)

/-- READ_CAUSES' image (R161, R201). -/
def State.causesImage (s : State) : List Byte :=
  slotIds.map (fun k => (s.slot k).image)
  ++ inputIds.flatMap (fun i => inputImage (s.input i) (s.ev i))
  ++ [s.lines.holdImage]
  ++ outputIds.map (fun o => outputImage (s.output o) (s.eo o))

/-- The snapshot places of the fault image, unused pairs 0xFF (R201). -/
def snapshotBytes (snapshot : List (CarrierId × CarrierState)) : List Byte :=
  (snapshot.flatMap (fun m => [indexByte m.1, m.2.code]) ++ List.replicate 12 0xFF#8).take 12

/-- A record in the fault image, from its kind to its snapshot (R201): format BRANCH 0 with settled 0xFF, format
CARRIER 1 with no snapshot, whose count is 0 (the model's choice, log 26). -/
def FaultRecord.image (r : FaultRecord) : List Byte :=
  match r with
  | .ofBranch _ _ time snapshot =>
    [r.failure.kindCode, 0x00#8, r.failure.subjectCode] ++ optionSecond time
    ++ [0xFF#8, byteOf snapshot.length] ++ snapshotBytes snapshot
  | .ofCarrier _ time settled =>
    [r.failure.kindCode, 0x01#8, r.failure.subjectCode] ++ optionSecond time
    ++ [flagByte settled, 0x00#8] ++ snapshotBytes []

/-- READ_FAULTS' image (R174, R201). -/
def State.faultImage (s : State) (depth : Nat) (r : FaultRecord) : List Byte :=
  [byteOf s.stack.records.length, byteOf depth] ++ r.image

/-! ## Frames returned by a read (R198) -/

/-- A reply as a read returns it, with the overrun indicator it has at the choice (R189). -/
def Reply.frame (r : Reply) (overrun : Bool) : List Byte :=
  let body := [0x01#8, r.kind, r.status.code, flagByte overrun, byteOf r.payload.length] ++ r.payload
  body ++ [crc8 body]

/-- Kind byte and payload of a notice (R200). -/
def Notice.content (n : Notice) : Byte × List Byte :=
  match n with
  | .drain c d => (0x41#8, indexByte c :: threeBytes d)
  | .drainCancel c r => (0x42#8, [indexByte c, r.code])
  | .rested c => (0x43#8, [indexByte c])
  | .unmute c d => (0x44#8, indexByte c :: threeBytes d)
  | .carrierOn c => (0x45#8, [indexByte c])
  | .branchDown c b => (0x46#8, [indexByte c, indexByte b])
  | .barred c b => (0x47#8, [indexByte c, indexByte b])
  | .restored c b => (0x48#8, [indexByte c, indexByte b])
  | .fault f => (0x49#8, [f.kindCode, f.subjectCode])
  | .halt r => (0x4A#8, [r.code, optionByte Failure.kindCode r.lost, optionByte Failure.subjectCode r.lost])
  | .channelDone k res re de left source =>
    (0x4B#8, [indexByte k, res.code, byteOf re, byteOf de, byteOf left, optionByte StartSource.code source])
  | .cause k t => (0x4C#8, indexByte k :: threeBytes t)
  | .windowOpened w t q => (0x4D#8, [indexByte w, WindowState.isOpen.code] ++ threeBytes t ++ [byteOf q])
  | .windowClosed w t swapped => (0x4D#8, [indexByte w, WindowState.closed.code] ++ threeBytes t ++ [flagByte swapped])
  | .overflow => (0x4E#8, [])

/-- A notice as a read returns it (R198). -/
def Notice.frame (n : Notice) : List Byte :=
  let body := [0x02#8, n.content.1, byteOf n.content.2.length] ++ n.content.2
  body ++ [crc8 body]

/-- The EMPTY frame (R198). -/
def emptyFrame : List Byte := [0x03#8, crc8 [0x03#8]]

end Sys2Proof.Machine
end

