-- ==== Sys2Proof/WellFormed.lean ====
section
/-!
DEFINITION. Which commands are well formed. Operand bytes are never ill formed: a byte outside its coding is
answered RANGE by the part itself (R197). What can be ill formed is the shape of a frame or of a select period.
-/
namespace Sys2Proof

/-- The bytes of a request frame as a write select period can carry them: at least one byte, and the first is
not the read code (R184). -/
def writeBytesOk (bytes : List Byte) : Bool :=
  match bytes with
  | [] => false
  | b :: _ => b != 0x00#8

/-- Well-formedness of a command.
WRITE_LIST carries 1 to 16 entries (R117, R199). UNKNOWN_REQUEST_FRAME is a frame that was written and that
fails check 1, 2 or 3 of R188. A whole write select period does not begin with the read code (R184). A whole read select period clocks
at least the read code (R184). -/
def Instr.wellFormed (i : Instr) : Bool :=
  match i with
  | .writeList _ _ _ entries => decide (1 ≤ entries.length) && decide (entries.length ≤ 16)
  | .unknownRequestFrame p frame => writeBytesOk frame && (commandOfFrame p frame == .unknownRequestFrame p frame)
  | .writeTransaction _ (.whole bytes) => writeBytesOk bytes
  | .readTransaction _ (.whole n) => decide (1 ≤ n)
  | _ => true

end Sys2Proof
end

