-- ==== Sys2Proof/Machine/Ports.lean ====
section
/-!
DEFINITION. The link ports: select periods (R184, R186, R187), the taking of a frame and its reply (R188, R189),
and the resets (R181, R193, R194).
-/
namespace Sys2Proof.Machine
open Sys2Proof

/-- The outcome of a command (Host/Core.lean). -/
abbrev Result := Host.Outcome State Fault Refusal

/-! ## Arrival of frames and select periods -/

/-- `n` bytes of 0x00. -/
def zeroBytes (n : Nat) : List Byte := List.replicate n 0x00#8

/-- A request frame arrives (R186): it is queued, or discarded with the overrun mark when the inbound queue holds 4
frames. -/
def PortState.arrive (q : PortState) (frame : List Byte) : PortState :=
  if q.inbound.length < Config.inboundPlaces then { q with inbound := q.inbound ++ [frame] }
  else { q with overrun := true }

/-- The frame a read returns (R187): the oldest reply with the overrun indicator it has now, else the oldest
notice, else EMPTY. -/
def PortState.choose (q : PortState) : ReadChoice :=
  match q.replies, q.notices with
  | r :: _, _ => { frame := r.frame q.overrun, source := .reply, overrunShown := q.overrun, stillQueued := true }
  | [], n :: _ => { frame := n.frame, source := .notice, overrunShown := false, stillQueued := true }
  | [], [] => { frame := emptyFrame, source := .empty, overrunShown := false, stillQueued := true }

/-- The chosen frame leaves its queue (R187): a reply read with the indicator yes clears the overrun mark (R189),
and OVERFLOW clears the overflow mark (R190). -/
def PortState.removeRead (q : PortState) (choice : ReadChoice) : PortState :=
  match choice.source with
  | .reply => { q with replies := q.replies.tail, overrun := q.overrun && !choice.overrunShown }
  | .notice =>
    { q with notices := q.notices.tail, overflow := q.overflow && !(q.notices.head? == some .overflow) }
  | .empty => q

/-- The period that an assertion of select begins (R184). -/
def PortState.newPeriod (q : PortState) : SelectPeriod := { summary := q.summary, shifted := [], kind := .undecided }

/-- What more bytes from the master make of a period (R184, R187). The first byte decides between a read and a write. A
period whose first byte a device reset ignores is no transaction to its release, and a write loses its frame by a byte
ignored (log 13). -/
def PortState.kindAfter (q : PortState) (resetting : Bool) (kind : PeriodKind) (bytes : List Byte) : PeriodKind :=
  match bytes, kind with
  | [], _ => kind
  | first :: _, .undecided =>
    if resetting then .ignored else if first = 0x00#8 then .read q.choose else .write bytes
  | _ :: _, .read choice => .read choice
  | _ :: _, .write frame => if resetting then .ignored else .write (frame ++ bytes)
  | _ :: _, .ignored => .ignored

/-- What a period of a kind shifts out from its first byte on, before 0x00 for every byte after: the summary byte, and
the frame of a read (R184). -/
def PeriodKind.bytesOut (kind : PeriodKind) (summary : Byte) : List Byte :=
  match kind with
  | .undecided => []
  | .read choice => summary :: choice.frame
  | .write _ => [summary]
  | .ignored => []

/-- The next `n` bytes shifted out of a period that has become one of a kind: each at its place in the period, and 0x00
for every byte in device reset (R184). -/
def SelectPeriod.nextBytes (period : SelectPeriod) (resetting : Bool) (kind : PeriodKind) (n : Nat) : List Byte :=
  if resetting then zeroBytes n
  else (((kind.bytesOut period.summary).drop period.shifted.length) ++ zeroBytes n).take n

/-- More bytes from the master are clocked (R184). -/
def PortState.clock (q : PortState) (resetting : Bool) (period : SelectPeriod) (bytes : List Byte) : SelectPeriod :=
  let kind := q.kindAfter resetting period.kind bytes
  { period with shifted := period.shifted ++ period.nextBytes resetting kind bytes.length, kind := kind }

/-- The release of a select period (R184). The frame of a read is removed if every byte of it was clocked out and it is
still in its queue (R187), and the frame of a write arrives (R186). A period in which no byte was clocked has no
effect. -/
def PortState.endPeriod (q : PortState) (period : SelectPeriod) : PortState :=
  let q' := { q with selected := none, dataOut := period.shifted }
  match period.kind with
  | .undecided => { q with selected := none }
  | .read choice =>
    if choice.frame.length + 1 ≤ period.shifted.length ∧ choice.stillQueued = true then q'.removeRead choice else q'
  | .write frame => q'.arrive frame
  | .ignored => q'

/-- A byte of the select period in progress has been clocked. -/
def PortState.periodBegun (q : PortState) : Bool := q.selected.any (fun period => !period.shifted.isEmpty)

/-- The select period in progress goes on as `period`. -/
def State.setPeriod (s : State) (p : Port) (period : SelectPeriod) : State :=
  s.setPort p { s.port p with selected := some period }

/-- Select is asserted; two periods of one port cannot overlap (R184). -/
def State.assertSelect (s : State) (p : Port) : State :=
  let q := s.port p
  if q.selected.isSome then s else s.setPeriod p q.newPeriod

/-- Bytes are clocked in the select period in progress, or in one whose assertion comes with them. -/
def State.clockBytes (s : State) (p : Port) (bytes : List Byte) : State :=
  let q := s.port p
  if bytes = [] then s else s.setPeriod p (q.clock s.resetting (q.selected.getD q.newPeriod) bytes)

/-- The last bytes of the select period in progress are clocked, and select is released. -/
def State.releaseSelect (s : State) (p : Port) (bytes : List Byte) : State :=
  let q := s.port p
  match q.selected with
  | none => s
  | some period => s.setPort p (q.endPeriod (q.clock s.resetting period bytes))

/-- A whole select period by its bytes, or all of one after its assertion. -/
def State.wholePeriod (s : State) (p : Port) (bytes : List Byte) : State :=
  let q := s.port p
  if q.periodBegun then s
  else s.setPort p (q.endPeriod (q.clock s.resetting (q.selected.getD q.newPeriod) bytes))

/-- The bytes of a read that are left to its release after `clocked` bytes in all. -/
def PortState.readRest (q : PortState) (clocked : Nat) : List Byte :=
  zeroBytes (clocked - (q.selected.elim 0 (fun period => period.shifted.length)))

/-! ## Taking a frame (R188) -/

/-- The frame stands at the front of the inbound queue; or the queue is empty, no select period is open, and the
command stands for the arrival of the frame too (log 1). -/
def State.frameAtFront (s : State) (p : Port) (frame : List Byte) : Bool :=
  !s.resetting &&
    ((s.port p).inbound.head? == some frame
      || ((s.port p).inbound.isEmpty && (s.port p).selected.isNone && writeBytesOk frame))

/-- A whole write select period, the frame of which arrives at its release (R184, R186). -/
def PortState.written (q : PortState) (frame : List Byte) : PortState :=
  { q with selected := none, dataOut := (q.summary :: zeroBytes frame.length).take frame.length }.arrive frame

/-- The port can take the frame: it is at the front, and the reply queue has a free place (R188). -/
def State.canTake (s : State) (p : Port) (frame : List Byte) : Bool :=
  s.frameAtFront p frame && decide ((s.port p).replies.length < Config.replyPlaces)

/-- The frame leaves the inbound queue, having arrived first if it was not there (R188; log 1). -/
def State.takeOut (s : State) (p : Port) (frame : List Byte) : State :=
  let q := s.port p
  let q := if q.inbound.isEmpty then q.written frame else q
  s.setPort p { q with inbound := q.inbound.tail }

/-- The checks 1 to 4 of R188: the status of the first that fails. -/
def portVerdict (p : Port) (frame : List Byte) : Option Status :=
  match frameCheck frame with
  | .unknown => some .unknown
  | .badCheckByte => some .check
  | .passed k _ => if k.permitted p.role then none else some .permission

/-- A reply is placed at the back of the port's reply queue (R188, R189). -/
def State.placeReply (s : State) (p : Port) (r : Reply) : State :=
  let q := s.port p
  s.setPort p { q with replies := q.replies ++ [r] }

/-- A taken frame: the port answers it itself where a check fails, and hands it on otherwise (R188). The kind echo is
the frame's first byte (R189). -/
def State.takeFrame (s : State) (p : Port) (frame : List Byte) (onPermitted : State → State) : State :=
  if s.canTake p frame then
    match portVerdict p frame with
    | some status => (s.takeOut p frame).placeReply p { kind := frame.headD 0#8, status := status, payload := [] }
    | none => onPermitted (s.takeOut p frame)
  else s

/-- The answer of a block to a request: its state, the status, and the payload of an OK or STALE reply (R189). -/
structure Answer where
  state : State
  status : Status
  payload : List Byte

def Answer.ok (s : State) : Answer := { state := s, status := .ok, payload := [] }

def Answer.okWith (payload : List Byte) (s : State) : Answer := { state := s, status := .ok, payload := payload }

/-- A request that fails a check: no state changes, the reply is empty (R188, R189). -/
def Answer.fail (status : Status) (s : State) : Answer := { state := s, status := status, payload := [] }

/-- A request of a kind is taken on a port, and its block answers it (R188). -/
def takeRequest (p : Port) (k : RequestKind) (payload : List Byte) (block : State → Answer) (s : State) : Result :=
  let frame := requestFrame k payload
  .next (s.takeFrame p frame fun s =>
    let a := block s
    a.state.placeReply p { kind := k.code, status := a.status, payload := a.payload })

/-! ## Resets -/

/-- The frame chosen in a select period is no longer in its queue (R187). A write in progress is not touched. -/
def SelectPeriod.frameGone (period : SelectPeriod) : SelectPeriod :=
  match period.kind with
  | .read choice => { period with kind := .read { choice with stillQueued := false } }
  | .undecided => period
  | .write _ => period
  | .ignored => period

/-- A device reset begins within a select period: the frame chosen is no longer in its queue (R187), and a write in
progress is no frame (R184). -/
def SelectPeriod.cutByReset (period : SelectPeriod) : SelectPeriod :=
  match period.kind with
  | .write _ => { period with kind := .ignored }
  | .undecided => period.frameGone
  | .read _ => period.frameGone
  | .ignored => period.frameGone

/-- A port as device reset leaves it (R195). A select period in progress goes on, since its master holds select
(log 13). -/
def PortState.deviceReset (q : PortState) : PortState :=
  { PortState.initial with selected := q.selected.map SelectPeriod.cutByReset }

/-- Device reset begins (R181, R195): every block at its reset values, every port empty, READY deasserted. The input
lines keep their levels (log 10), the entry counter its count (R90). -/
def State.deviceReset (s : State) : State :=
  { State.reset with
    ctrl := { BranchController.initial with bgd := s.ctrl.bgd }
    arb := { Arbiter.initial with entryCounter := s.arb.entryCounter }
    lines := { CauseUnit.initial with ev := s.lines.ev, holdawk := s.lines.holdawk }
    ports := s.ports.map PortState.deviceReset
    resetting := true
    haltDraws := s.haltDraws
    pending := s.pending }

/-- PORT_RESET after the frame left the inbound queue: steps 1 to 5 of R193. A frame being read is no longer in its
queue (R187). -/
def PortState.reset (q : PortState) : PortState :=
  { q with
    inbound := []
    replies := [{ kind := RequestKind.portReset.code, status := .ok,
                  payload := [byteOf q.inbound.length, byteOf q.replies.length, byteOf q.notices.length,
                    flagByte q.overrun] }]
    notices := []
    overrun := false
    overflow := false
    selected := q.selected.map SelectPeriod.frameGone }

end Sys2Proof.Machine
end

