-- ==== Sys2Proof/Machine/TenantRequests.lean ====
section
/-!
DEFINITION. The meanings of the tenants' requests: OFFER, WITHDRAW, DRAINED, LIVE, WAKE, and HOLD and RELEASE, which
the plant controller makes too.
-/
namespace Sys2Proof.Machine
open Sys2Proof

/-- The carrier record is owned by the tenant of a port (R3). -/
def ownedByPort (p : Port) (r : Carrier) : Bool :=
  match p with
  | .tenant t => r.ownedBy t
  | .plant => false
  | .fleet => false

/-- The two checks of R3, then the request itself. -/
def ownCarrier (p : Port) (carrier : Byte) (s : State) (act : CarrierId → Answer) : Answer :=
  match asCarrier carrier with
  | none => .fail .range s
  | some c => if ownedByPort p (s.carrier c) then act c else .fail .permission s

/-- OFFER (R6). -/
def offerAnswer (p : Port) (carrier : Byte) (s : State) : Answer :=
  ownCarrier p carrier s fun c =>
    if s.halted then .fail .halted s
    else if (s.carrier c).offered then .fail .already s
    else .ok (s.setCarrier c { s.carrier c with offered := true })

def execOffer (port : Port) (carrier : Byte) (s : State) : Result :=
  takeRequest port .offer [carrier] (offerAnswer port carrier) s

/-- WITHDRAW (R7). -/
def withdrawAnswer (p : Port) (carrier : Byte) (s : State) : Answer :=
  ownCarrier p carrier s fun c =>
    if (s.carrier c).offered = false then .fail .already s
    else if (s.carrier c).state = .draining then .ok (s.cancelAndOffer c .withdrawn)
    else .ok (s.setCarrier c { s.carrier c with offered := false })

def execWithdraw (port : Port) (carrier : Byte) (s : State) : Result :=
  takeRequest port .withdraw [carrier] (withdrawAnswer port carrier) s

/-- The record after DRAINED (R14). -/
def Carrier.rest (r : Carrier) : Carrier :=
  { r with state := .resting, drainDeadline := none, drainChannel := none }

/-- The member-resting report: the settle conditions of the carrier's branch are tested (R19, R55). -/
def State.memberResting (s : State) (c : CarrierId) : State :=
  match (s.carrier c).provision with
  | none => s
  | some pv => s.settleTest pv.branch

/-- What DRAINED does to a DRAINING carrier (R14). -/
def State.restCarrier (s : State) (c : CarrierId) : State :=
  let r := s.carrier c
  ((((s.setCarrier c r.rest).postOwner c (.rested c)).reportOutcome r.drainChannel .rested).offerOwnersSlots
    c).memberResting c

/-- DRAINED (R14). -/
def drainedAnswer (p : Port) (carrier : Byte) (s : State) : Answer :=
  ownCarrier p carrier s fun c =>
    if (s.carrier c).state = .draining then .ok (s.restCarrier c) else .fail .state s

def execDrained (port : Port) (carrier : Byte) (s : State) : Result :=
  takeRequest port .drained [carrier] (drainedAnswer port carrier) s

/-- LIVE (R21), with the settled marks of R168. -/
def liveAnswer (p : Port) (carrier : Byte) (s : State) : Answer :=
  ownCarrier p carrier s fun c =>
    if (s.carrier c).state = .waking ∧ (s.carrier c).unmuteSent = true then .ok ((s.comesLive c).settleRecords c)
    else .fail .state s

def execLive (port : Port) (carrier : Byte) (s : State) : Result :=
  takeRequest port .live [carrier] (liveAnswer port carrier) s

/-- The last byte of a WAKE reply: the wake level of a WAKING carrier, the pending wake of a RESTING or BARRED one,
absent otherwise (R88; log 17). -/
def wakeOrPending (r : Carrier) : Byte :=
  match r.state with
  | .waking => optionByte byteOf r.wakeLevel
  | .resting => byteOf r.pendingWake
  | .barred => byteOf r.pendingWake
  | .vacant => 0xFF#8
  | .on => 0xFF#8
  | .draining => 0xFF#8

/-- WAKE (R88): the level is tested together with the carrier index, in the first check. -/
def wakeAnswer (p : Port) (carrier level : Byte) (s : State) : Answer :=
  match asLevel level with
  | none => .fail .range s
  | some l =>
    ownCarrier p carrier s fun c =>
      let outcome := (s.wakeCarrier c l).outcome
      let s' := s.wakeOne c l
      .okWith [outcome.code, (s'.carrier c).state.code, byteOf (s.quietLevel c), wakeOrPending (s'.carrier c)] s'

def execWake (port : Port) (carrier level : Byte) (s : State) : Result :=
  takeRequest port .wake [carrier, level] (wakeAnswer port carrier level) s

/-- The claimant is added to the claim set (R34). -/
def State.placeClaim (s : State) (c : CarrierId) (m : Claimant) : State :=
  s.setCarrier c { s.carrier c with claims := addClaim (s.carrier c).claims m }

/-- The outcome of a HOLD at a carrier (R35): that of a wake, and CANCELLED_DRAIN for a DRAINING carrier. -/
def State.holdOutcome (s : State) (c : CarrierId) (level : Nat) : WakeOutcome := (s.wakeCarrier c level).outcome

/-- What a HOLD does once its checks pass (R35, R36): the claim, then the cancel with reason CLAIMED or the wake. -/
def State.holdCarrier (s : State) (c : CarrierId) (m : Claimant) (level : Nat) : State :=
  let s := s.placeClaim c m
  if (s.carrier c).state = .draining then s.cancelAndOffer c .claimed else s.wakeOne c level

/-- HOLD (R34 to R36). -/
def holdAnswer (p : Port) (carrier level : Byte) (s : State) : Answer :=
  match claimantOf p, asCarrier carrier, asLevel level with
  | some m, some c, some l =>
    if (s.carrier c).state = .vacant then .fail .state s
    else if claims (s.carrier c).claims m then .fail .already s
    else
      let s' := s.holdCarrier c m l
      .okWith [(s.holdOutcome c l).code, setByte (s'.carrier c).claims] s'
  | _, _, _ => .fail .range s

def execHold (port : Port) (carrier level : Byte) (s : State) : Result :=
  takeRequest port .hold [carrier, level] (holdAnswer port carrier level) s

/-- RELEASE (R39, R40). -/
def releaseAnswer (p : Port) (carrier : Byte) (s : State) : Answer :=
  match claimantOf p, asCarrier carrier with
  | some m, some c =>
    if (s.carrier c).state = .vacant then .fail .state s
    else if claims (s.carrier c).claims m = false then .fail .already s
    else
      let left := dropClaim (s.carrier c).claims m
      .okWith [setByte left] (s.setCarrier c { s.carrier c with claims := left })
  | _, _ => .fail .range s

def execRelease (port : Port) (carrier : Byte) (s : State) : Result :=
  takeRequest port .release [carrier] (releaseAnswer port carrier) s

end Sys2Proof.Machine
end

