-- ==== Sys2Proof/Machine/PlantRequests.lean ====
section
/-!
DEFINITION. The meanings of the plant controller's requests: FORCE_WAKE to SET_OUTPUT, and START_CHANNEL, which the
fleet link makes too.
-/
namespace Sys2Proof.Machine
open Sys2Proof

/-- A provisioned carrier in the scope of a FORCE_WAKE (R89). -/
def WakeScope.covers (scope : WakeScope) (r : Carrier) : Bool :=
  match r.provision, scope with
  | none, _ => false
  | some _, .all => true
  | some pv, .branch b => pv.branch == b
  | some pv, .sector sec => pv.sector == sec

/-- The scope names an UNUSED branch (R89). -/
def State.scopeUnused (s : State) (scope : WakeScope) : Bool :=
  match scope with
  | .all => false
  | .branch b => (s.branch b).state == .unused
  | .sector _ => false

/-- FORCE_WAKE (R89). -/
def forceWakeAnswer (scope index : Byte) (s : State) : Answer :=
  match asScope scope index with
  | none => .fail .range s
  | some sc =>
    if s.scopeUnused sc then .fail .state s
    else
      let w := s.wakeRound sc.covers 7
      .okWith [byteOf w.woken, byteOf w.cancelled, byteOf w.raised, byteOf w.pending] w.finish

def execForceWake (port : Port) (scope index : Byte) (s : State) : Result :=
  takeRequest port .forceWake [scope, index] (forceWakeAnswer scope index) s

/-- SET_BUDGET (R97): a higher budget lets the arbiter consider grants. -/
def setBudgetAnswer (budget : Byte) (s : State) : Answer :=
  match asRange 1 4 budget.toNat with
  | none => .fail .range s
  | some b =>
    let s' := s.setArb { s.arb with budget := b }
    .okWith [byteOf s.arb.budget, byteOf s.arb.normalHolders.length]
      (if s.arb.budget < b then s'.considerGrants else s')

def execSetBudget (port : Port) (budget : Byte) (s : State) : Result :=
  takeRequest port .setBudget [budget] (setBudgetAnswer budget) s

/-- SET_RAMP (R72). -/
def setRampAnswer (rampDown rampUp : Byte) (s : State) : Answer :=
  match asRange 1 120 rampDown.toNat, asRange 1 120 rampUp.toNat with
  | some d, some u => .ok { s with ctrl := { s.ctrl with rampDown := d, rampUp := u } }
  | _, _ => .fail .range s

def execSetRamp (port : Port) (rampDown rampUp : Byte) (s : State) : Result :=
  takeRequest port .setRamp [rampDown, rampUp] (setRampAnswer rampDown rampUp) s

/-- The effect of PIN on a branch (R70). -/
def State.pinBranch (s : State) (b : BranchId) : State :=
  let r := { s.branch b with lineMode := .pinned }
  match r.state with
  | .settling => s.setBranch b (r.enter .powered)
  | .dark => (s.setBranch b r).enterQueued b 1
  | .powered => s.setBranch b r
  | .lowering => s.setBranch b r
  | .queued => s.setBranch b r
  | .raising => s.setBranch b r
  | .faulted => s.setBranch b r
  | .out => s.setBranch b r
  | .unused => s

/-- PIN (R70). -/
def pinAnswer (branch : Byte) (s : State) : Answer :=
  match asBranch branch with
  | none => .fail .range s
  | some b =>
    if (s.branch b).state = .unused then .fail .state s
    else if (s.branch b).lineMode = .pinned then .fail .already s
    else .ok (s.pinBranch b)

def execPin (port : Port) (branch : Byte) (s : State) : Result :=
  takeRequest port .pin [branch] (pinAnswer branch) s

/-- UNPIN (R71): on a POWERED branch the settle conditions are tested, which fail in any other state. -/
def unpinAnswer (branch : Byte) (s : State) : Answer :=
  match asBranch branch with
  | none => .fail .range s
  | some b =>
    if (s.branch b).state = .unused then .fail .state s
    else if (s.branch b).lineMode = .follow then .fail .already s
    else .ok ((s.setBranch b { s.branch b with lineMode := .follow }).settleTest b)

def execUnpin (port : Port) (branch : Byte) (s : State) : Result :=
  takeRequest port .unpin [branch] (unpinAnswer branch) s

/-- A BARRED member of a returned branch is restored and offered its pending wake (R26). -/
def WakeRound.restoreMember (w : WakeRound) (b : BranchId) (c : CarrierId) : WakeRound :=
  let r := w.state.carrier c
  if r.state = .barred then
    let restored := { w with
      state := (w.state.setCarrier c { r with state := .resting }).postOwner c (.restored c b) }
    if r.pendingWake = 0 then restored else restored.deliver c r.pendingWake
  else w

/-- Step 3 of R76: a PINNED branch that is still DARK queues at level 1. -/
def State.queueIfPinned (s : State) (b : BranchId) : State :=
  if (s.branch b).state = .dark ∧ (s.branch b).lineMode = .pinned then s.enterQueued b 1 else s

/-- The steps of R76 on an OUT branch. -/
def State.bringBack (s : State) (b : BranchId) : State :=
  let s := s.enterBranch b .dark
  (((s.branch b).members.foldl (fun w c => w.restoreMember b c) (WakeRound.start s)).finish).queueIfPinned b

/-- RETURN_BRANCH (R76). -/
def returnBranchAnswer (branch : Byte) (s : State) : Answer :=
  match asBranch branch with
  | none => .fail .range s
  | some b => if (s.branch b).state = .out then .ok (s.bringBack b) else .fail .state s

def execReturnBranch (port : Port) (branch : Byte) (s : State) : Result :=
  takeRequest port .returnBranch [branch] (returnBranchAnswer branch) s

/-- The state byte of a subject: a branch state for format BRANCH, a carrier state for format CARRIER (R199). -/
def State.subjectState (s : State) (f : Failure) : Byte :=
  match f with
  | .rampDownStuck b => (s.branch b).state.code
  | .rampUpFailed b => (s.branch b).state.code
  | .powerLost b => (s.branch b).state.code
  | .liveTimeout c => (s.carrier c).state.code

/-- Steps 1 and 2 of R170: the top record is removed, and its disposition handed on. -/
def State.resolveTop (s : State) (top : FaultRecord) (below : List FaultRecord) (d : Disposition) : State :=
  (s.setStack { s.stack with records := below }).dispose top d

/-- RESOLVE: the checks of R169 in their order, then R170. -/
def resolveAnswer (kind subject disposition : Byte) (s : State) : Answer :=
  match asFailure kind subject, asDisposition disposition with
  | some f, some d =>
    match s.stack.records with
    | [] => .fail .state s
    | top :: below =>
      if s.halted then .fail .halted s
      else if top.failure = f then
        let s' := s.resolveTop top below d
        .okWith [f.kindCode, f.subjectCode, d.code, s'.subjectState f, byteOf s'.stack.records.length] s'
      else
        { state := s, status := .stale,
          payload := [top.failure.kindCode, top.failure.subjectCode, byteOf s.stack.records.length] }
  | _, _ => .fail .range s

def execResolve (port : Port) (kind subject disposition : Byte) (s : State) : Result :=
  takeRequest port .resolve [kind, subject, disposition] (resolveAnswer kind subject disposition) s

/-- HALT (R176). -/
def haltAnswer (s : State) : Answer :=
  if s.halted then .fail .already s else .ok (s.enterHalt .plant)

def execHalt (port : Port) (s : State) : Result :=
  takeRequest port .halt [] haltAnswer s

/-- SET_HOLD_MODE (R154): mode and invert are replaced, and the rest hold recomputed from the line. -/
def State.setHoldMode (s : State) (mode : HoldMode) (invert : Bool) : State :=
  let s := { s with lines := { s.lines with holdMode := mode, holdInvert := invert } }
  s.holdBecomes (decide (mode ≠ .off) && s.holdawkActive)

/-- SET_HOLD_MODE's answer (R154): the previous mode and invert, and 1 for a hold now in effect (the model's choice,
log 27). -/
def setHoldModeAnswer (mode invert : Byte) (s : State) : Answer :=
  match asHoldMode mode, asFlag invert with
  | some m, some i =>
    let s' := s.setHoldMode m i
    .okWith [s.lines.holdMode.code, flagByte s.lines.holdInvert, flagByte s'.lines.restHold] s'
  | _, _ => .fail .range s

def execSetHoldMode (port : Port) (mode invert : Byte) (s : State) : Result :=
  takeRequest port .setHoldMode [mode, invert] (setHoldModeAnswer mode invert) s

/-- CLEAR_HOLD (R156). -/
def clearHoldAnswer (s : State) : Answer :=
  if s.lines.restHold = false then .fail .already s
  else if s.lines.holdMode = .latch then .ok s.endRestHold
  else .fail .state s

def execClearHold (port : Port) (s : State) : Result :=
  takeRequest port .clearHold [] clearHoldAnswer s

/-- SET_OUTPUT (R159): the setting is replaced, and a pulse in progress ends. -/
def setOutputAnswer (output source channel : Byte) (s : State) : Answer :=
  match asOutput output, asOutputSource source channel with
  | some o, some src =>
    let previous := (s.output o).source
    .okWith [previous.code, optionByte indexByte (sourceChannel previous)]
      (s.setOutput o { source := src, pulse := false })
  | _, _ => .fail .range s

def execSetOutput (port : Port) (output source channel : Byte) (s : State) : Result :=
  takeRequest port .setOutput [output, source, channel] (setOutputAnswer output source channel) s

/-- The source of a REQUEST start, by the requesting port (R123). -/
def requestSource (p : Port) : StartSource :=
  match p with
  | .fleet => .fleetRequest
  | .plant => .plantRequest
  | .tenant _ => .plantRequest

/-- The outcome byte of START_CHANNEL: STARTED 0, QUEUED 1, EMPTY 2 (R126, R199). -/
def startOutcome (ch : Channel) : Byte :=
  if ch.state = .idle then (if ch.count = 0 then 0x02#8 else 0x00#8) else 0x01#8

/-- START_CHANNEL (R126). A start that finds its own source pending is answered with that source as the one it replaced,
though it changes nothing (R125): the model's choice, log 25. -/
def startChannelAnswer (p : Port) (channel : Byte) (s : State) : Answer :=
  match asChannel channel with
  | none => .fail .range s
  | some k =>
    if s.halted then .fail .halted s
    else
      let ch := s.channel k
      let s' := s.deliverStart k (requestSource p)
      .okWith [startOutcome ch, (s'.channel k).state.code, byteOf (s'.channel k).count,
        optionByte StartSource.code (if ch.state = .idle then none else ch.pendingStart)] s'

def execStartChannel (port : Port) (channel : Byte) (s : State) : Result :=
  takeRequest port .startChannel [channel] (startChannelAnswer port channel) s

end Sys2Proof.Machine
end

