-- ==== Sys2Proof/Machine/FleetRequests.lean ====
section
/-!
DEFINITION. The meanings of the fleet link's requests: PROVISION_BRANCH to RESTART.
-/
namespace Sys2Proof.Machine
open Sys2Proof

/-! ## Branches and carriers -/

/-- PROVISION_BRANCH (R53). -/
def provisionBranchAnswer (branch : Byte) (s : State) : Answer :=
  match asBranch branch with
  | none => .fail .range s
  | some b =>
    if (s.branch b).state ≠ .unused then .fail .state s
    else if s.bgd b = false then .fail .state s
    else .ok (s.setBranch b { Branch.unused with state := .powered })

def execProvisionBranch (port : Port) (branch : Byte) (s : State) : Result :=
  takeRequest port .provisionBranch [branch] (provisionBranchAnswer branch) s

/-- DEPROVISION_BRANCH (R54). -/
def deprovisionBranchAnswer (branch : Byte) (s : State) : Answer :=
  match asBranch branch with
  | none => .fail .range s
  | some b =>
    if (s.branch b).state = .powered ∧ (s.branch b).members = [] then .ok (s.setBranch b Branch.unused)
    else .fail .state s

def execDeprovisionBranch (port : Port) (branch : Byte) (s : State) : Result :=
  takeRequest port .deprovisionBranch [branch] (deprovisionBranchAnswer branch) s

/-- The five fields that PROVISION_CARRIER gives (R4). -/
def asProvision (owner sector branch layer window : Byte) : Option Provision := do
  let o ← asTenant owner
  let sec ← asSector sector
  let b ← asBranch branch
  let l ← asLayer layer
  let w ← asWindowOrNone window
  some { owner := o, sector := sec, branch := b, layer := l, window := w }

/-- What PROVISION_CARRIER does once its checks pass (R4, R55). -/
def State.placeCarrier (s : State) (c : CarrierId) (pv : Provision) : State :=
  let s := s.setCarrier c { Carrier.vacant with state := .on, provision := some pv }
  s.setBranch pv.branch { s.branch pv.branch with members := insertIndex c (s.branch pv.branch).members }

/-- PROVISION_CARRIER (R4). -/
def provisionCarrierAnswer (carrier owner sector branch layer window : Byte) (s : State) : Answer :=
  match asCarrier carrier, asProvision owner sector branch layer window with
  | some c, some pv =>
    if (s.carrier c).state ≠ .vacant then .fail .state s
    else if (s.branch pv.branch).state ≠ .powered then .fail .state s
    else if Config.memberPlaces ≤ (s.branch pv.branch).members.length then .fail .full s
    else .ok (s.placeCarrier c pv)
  | _, _ => .fail .range s

def execProvisionCarrier (port : Port) (carrier owner sector branch layer window : Byte) (s : State) : Result :=
  takeRequest port .provisionCarrier [carrier, owner, sector, branch, layer, window]
    (provisionCarrierAnswer carrier owner sector branch layer window) s

/-- The member-removed report: the member list loses the carrier, and the settle conditions are tested (R55). -/
def State.memberRemoved (s : State) (b : BranchId) (c : CarrierId) : State :=
  (s.setBranch b { s.branch b with members := removeIndex c (s.branch b).members }).settleTest b

/-- What DEPROVISION_CARRIER does to an ON carrier (R5). -/
def State.removeCarrier (s : State) (c : CarrierId) : State :=
  let vacated := s.setCarrier c Carrier.vacant
  match (s.carrier c).provision with
  | none => vacated
  | some pv => vacated.memberRemoved pv.branch c

/-- DEPROVISION_CARRIER (R5). -/
def deprovisionCarrierAnswer (carrier : Byte) (s : State) : Answer :=
  match asCarrier carrier with
  | none => .fail .range s
  | some c => if (s.carrier c).state = .on then .ok (s.removeCarrier c) else .fail .state s

def execDeprovisionCarrier (port : Port) (carrier : Byte) (s : State) : Result :=
  takeRequest port .deprovisionCarrier [carrier] (deprovisionCarrierAnswer carrier) s

/-! ## Floors, timers and limits -/

/-- One floor-raise wake: a RESTING COVERAGE carrier of the pair is offered level 7 while the sum of the ON count and
the WAKING count is below the floor (R47). -/
def WakeRound.deliverFloor (w : WakeRound) (t : TenantId) (sec : SectorId) (floor : Nat) (c : CarrierId) : WakeRound :=
  let r := w.state.carrier c
  if r.state = .resting ∧ r.coverageOf t sec = true ∧ w.state.onCount t sec + w.state.wakingCount t sec < floor then
    w.deliver c 7
  else w

/-- The floor-raise wakes (R47). -/
def State.floorRound (s : State) (t : TenantId) (sec : SectorId) (floor : Nat) : WakeRound :=
  carrierIds.foldl (fun w c => w.deliverFloor t sec floor c) (WakeRound.start s)

/-- The floor is replaced, and a higher one issues its wakes (R46, R47). -/
def State.floorSet (s : State) (t : TenantId) (sec : SectorId) (floor : Nat) : WakeRound :=
  let s' := s.setFloorOf t sec floor
  if s.floorOf t sec < floor then s'.floorRound t sec floor else WakeRound.start s'

/-- SET_FLOOR (R46). -/
def setFloorAnswer (tenant sector floor : Byte) (s : State) : Answer :=
  match asTenant tenant, asSector sector, asRange 0 6 floor.toNat with
  | some t, some sec, some f =>
    let w := s.floorSet t sec f
    let s' := w.finish
    .okWith [byteOf (s.floorOf t sec), byteOf (s'.onCount t sec), byteOf (s'.wakingCount t sec), byteOf w.woken] s'
  | _, _, _ => .fail .range s

def execSetFloor (port : Port) (tenant sector floor : Byte) (s : State) : Result :=
  takeRequest port .setFloor [tenant, sector, floor] (setFloorAnswer tenant sector floor) s

/-- SET_TIMERS (R12). -/
def setTimersAnswer (drainTime liveTime linger : Half) (s : State) : Answer :=
  match asRange 10 900 drainTime.toNat, asRange 5 300 liveTime.toNat, asRange 0 3600 linger.toNat with
  | some d, some l, some n =>
    .ok { s with table := { s.table with drainTime := d, liveTime := l }, ctrl := { s.ctrl with linger := n } }
  | _, _, _ => .fail .range s

def execSetTimers (port : Port) (drainTime liveTime linger : Half) (s : State) : Result :=
  takeRequest port .setTimers
    (twoBytes drainTime.toNat ++ twoBytes liveTime.toNat ++ twoBytes linger.toNat)
    (setTimersAnswer drainTime liveTime linger) s

/-- SET_DRAIN_LIMIT (R10): a higher limit offers the freed slots (R11). -/
def setDrainLimitAnswer (tenant limit : Byte) (s : State) : Answer :=
  match asTenant tenant, asRange 1 8 limit.toNat with
  | some t, some l =>
    let s' := s.setDrainLimit t l
    .ok (if s.drainLimit t < l then s'.offerSlots t else s')
  | _, _ => .fail .range s

def execSetDrainLimit (port : Port) (tenant limit : Byte) (s : State) : Result :=
  takeRequest port .setDrainLimit [tenant, limit] (setDrainLimitAnswer tenant limit) s

/-! ## Time and windows -/

/-- The new time of SET_TIME (R100): the step and the moves of the deadlines, then the recompute under the new time. The
time already held, with time-valid yes, moves no deadline and changes no window (log 28). -/
def State.timeSet (s : State) (second : Nat) : State :=
  if second = s.now ∧ s.timer.timeValid = true then s else (s.stepTime second).recompute

/-- SET_TIME (R100). -/
def setTimeAnswer (second : Triple) (s : State) : Answer :=
  if second.toNat < Config.weekSeconds then
    .okWith (threeBytes s.now ++ [flagByte s.timer.timeValid]) (s.timeSet second.toNat)
  else .fail .range s

def execSetTime (port : Port) (second : Triple) (s : State) : Result :=
  takeRequest port .setTime (threeBytes second.toNat) (setTimeAnswer second) s

/-- WRITE_WINDOW (R109): the shadow set is replaced. -/
def writeWindowAnswer (window enabled : Byte) (openSecond closeSecond : Triple) (dayMask quiet : Byte)
    (s : State) : Answer :=
  match asWindow window, asWindowSet enabled openSecond closeSecond dayMask quiet with
  | some w, some ws => .ok (s.setWindow w { s.window w with shadow := ws })
  | _, _ => .fail .range s

def execWriteWindow (port : Port) (window enabled : Byte) (openSecond closeSecond : Triple) (dayMask quiet : Byte)
    (s : State) : Result :=
  takeRequest port .writeWindow
    ([window, enabled] ++ threeBytes openSecond.toNat ++ threeBytes closeSecond.toNat ++ [dayMask, quiet])
    (writeWindowAnswer window enabled openSecond closeSecond dayMask quiet) s

/-- COMMIT_WINDOW (R110): outcome SWAPPED 0, DEFERRED 1 (R199). -/
def commitWindowAnswer (window : Byte) (s : State) : Answer :=
  match asWindow window with
  | none => .fail .range s
  | some w =>
    let r := s.window w
    match r.state with
    | .closed => .okWith [0x00#8] (s.setWindow w { r with active := r.shadow })
    | .isOpen => .okWith [0x01#8] (s.setWindow w { r with swapPending := true })

def execCommitWindow (port : Port) (window : Byte) (s : State) : Result :=
  takeRequest port .commitWindow [window] (commitWindowAnswer window) s

/-! ## Channels and the Rest List -/

/-- The programmed fields of a channel (Table 6-1). -/
structure ChannelSetting where
  mode : ChannelMode
  pointerMode : PointerMode
  base : Nat
  count : Nat
  groupSize : Nat
  linkEnable : Bool
  linkTarget : ChannelId
  completionNotice : Bool
  deriving DecidableEq, Repr

/-- The programmed fields read by their codings: the first check of R121. Base and count are any byte. -/
def asChannelSetting (mode pointerMode base count groupSize linkEnable linkTarget completionNotice : Byte) :
    Option ChannelSetting := do
  let m ← asChannelMode mode
  let p ← asPointerMode pointerMode
  let g ← asRange 1 16 groupSize.toNat
  let le ← asFlag linkEnable
  let lt ← asChannel linkTarget
  let cn ← asFlag completionNotice
  some { mode := m, pointerMode := p, base := base.toNat, count := count.toNat, groupSize := g, linkEnable := le,
         linkTarget := lt, completionNotice := cn }

/-- The entries the span check of R122 adds to base; `none` for a pair that is not legal. -/
def ChannelSetting.spanLength (c : ChannelSetting) : Option Nat :=
  match c.mode, c.pointerMode with
  | .one, .advance => some c.count
  | .one, .hold => some 0
  | .all, .advance => some c.count
  | .group, .advance => some (c.count * c.groupSize)
  | .group, .rewind => some c.groupSize
  | .one, .rewind => none
  | .all, .hold => none
  | .all, .rewind => none
  | .group, .hold => none

/-- The second check of R121: a legal pair whose span fits; a count of 0 passes every span check (R122). -/
def ChannelSetting.spanOk (c : ChannelSetting) : Bool :=
  match c.spanLength with
  | none => false
  | some n => decide (c.count = 0) || decide (c.base + n ≤ 256)

/-- The record after WRITE_CHANNEL (R121): outstanding drains, state and pending start are not among the fields it
sets. -/
def Channel.rewritten (ch : Channel) (c : ChannelSetting) : Channel :=
  { ch with
    mode := c.mode, pointerMode := c.pointerMode, base := c.base, count := c.count, groupSize := c.groupSize,
    linkEnable := c.linkEnable, linkTarget := c.linkTarget, completionNotice := c.completionNotice,
    pointer := c.base, quota := 0, rested := 0, declined := 0, lastReason := none, currentSource := none }

/-- WRITE_CHANNEL (R121). -/
def writeChannelAnswer
    (channel mode pointerMode base count groupSize linkEnable linkTarget completionNotice : Byte) (s : State) : Answer :=
  match asChannel channel,
    asChannelSetting mode pointerMode base count groupSize linkEnable linkTarget completionNotice with
  | some k, some c =>
    if c.spanOk = false then .fail .range s
    else if (s.channel k).state = .idle ∧ (s.channel k).pendingStart = none then
      .ok (s.setChannel k ((s.channel k).rewritten c))
    else .fail .busy s
  | _, _ => .fail .range s

def execWriteChannel (port : Port)
    (channel mode pointerMode base count groupSize linkEnable linkTarget completionNotice : Byte) (s : State) : Result :=
  takeRequest port .writeChannel
    [channel, mode, pointerMode, base, count, groupSize, linkEnable, linkTarget, completionNotice]
    (writeChannelAnswer channel mode pointerMode base count groupSize linkEnable linkTarget completionNotice) s

/-- Entry values read by their coding; `none` if one of them is neither a carrier nor NONE (R117). -/
def asEntries (bytes : List Byte) : Option (List (Option CarrierId)) := bytes.mapM asEntry

/-- Entries `first` and on replaced by the values given (R117). -/
def writeEntries (list : Vector (Option CarrierId) 256) (first : Nat) (values : List (Option CarrierId)) :
    Vector (Option CarrierId) 256 :=
  Vector.ofFn fun i : Fin 256 =>
    if first ≤ i.val then values.getD (i.val - first) list[i.val] else list[i.val]

/-- WRITE_LIST (R117); `n` must equal the length less 2 (R199). -/
def writeListAnswer (first number : Byte) (entries : List Byte) (s : State) : Answer :=
  match asRange 1 16 number.toNat, asEntries entries with
  | some n, some values =>
    if n ≠ entries.length then .fail .range s
    else if 256 < first.toNat + n then .fail .range s
    else .ok { s with rest := { s.rest with list := writeEntries s.rest.list first.toNat values } }
  | _, _ => .fail .range s

def execWriteList (port : Port) (first number : Byte) (entries : List Byte) (s : State) : Result :=
  takeRequest port .writeList (first :: number :: entries) (writeListAnswer first number entries) s

/-! ## Causes and inputs -/

/-- The start that MAP_CAUSE delivers when it turns start enable on while the flag is set (R149, R151). -/
def State.startMapped (s : State) (k : SlotId) (wasEnabled : Bool) : State :=
  let slot := s.slot k
  if wasEnabled = false ∧ slot.startEnable = true ∧ slot.flag = true ∧ s.halted = false then
    s.deliverStart slot.target (.cause k)
  else s

/-- MAP_CAUSE (R149). A set flag is 1 in the reply (the model's choice, log 27). -/
def mapCauseAnswer (slot target enable disarm : Byte) (s : State) : Answer :=
  match asSlot slot, asChannel target, asFlag enable, asFlag disarm with
  | some k, some t, some e, some d =>
    let old := s.slot k
    let s' := (s.setSlot k { old with target := t, startEnable := e, disarm := d }).startMapped k old.startEnable
    .okWith [indexByte old.target, flagByte old.startEnable, flagByte old.disarm, flagByte (s'.slot k).flag] s'
  | _, _, _, _ => .fail .range s

def execMapCause (port : Port) (slot target enable disarm : Byte) (s : State) : Result :=
  takeRequest port .mapCause [slot, target, enable, disarm] (mapCauseAnswer slot target enable disarm) s

/-- CLEAR_CAUSE (R150). -/
def clearCauseAnswer (slot : Byte) (s : State) : Answer :=
  match asSlot slot with
  | none => .fail .range s
  | some k =>
    if (s.slot k).flag = false then .fail .already s
    else .ok (s.setSlot k { s.slot k with flag := false })

def execClearCause (port : Port) (slot : Byte) (s : State) : Result :=
  takeRequest port .clearCause [slot] (clearCauseAnswer slot) s

/-- SET_INPUT (R152): the reply carries the previous setting and the line's level (R199), high 1 (the model's choice,
log 27). -/
def setInputAnswer (input edgeMode role level tenantMask sectorMask : Byte) (s : State) : Answer :=
  match asInput input, asInputSetting edgeMode role level tenantMask sectorMask with
  | some i, some setting =>
    let old := s.input i
    .okWith [old.edgeMode.code, old.role.code, byteOf old.level, setByte old.tenantMask, setByte old.sectorMask,
      flagByte (s.ev i)] (s.setInput i setting)
  | _, _ => .fail .range s

def execSetInput (port : Port) (input edgeMode role level tenantMask sectorMask : Byte) (s : State) : Result :=
  takeRequest port .setInput [input, edgeMode, role, level, tenantMask, sectorMask]
    (setInputAnswer input edgeMode role level tenantMask sectorMask) s

/-! ## RESTART -/

/-- RESTART (R194): device reset, and no reply. -/
def execRestart (port : Port) (s : State) : Result :=
  .next (s.takeFrame port (requestFrame .restart []) State.deviceReset)

end Sys2Proof.Machine
end

