-- ==== Sys2Proof/Machine/ReadRequests.lean ====
section
/-!
DEFINITION. The meanings of the reads. A read changes nothing but the port it was taken on.
-/
namespace Sys2Proof.Machine
open Sys2Proof

/-- READ_SITE (R182, R98, R114). -/
def readSiteAnswer (s : State) : Answer := .okWith s.siteImage s

def execReadSite (port : Port) (s : State) : Result :=
  takeRequest port .readSite [] readSiteAnswer s

/-- READ_CARRIER (R31). -/
def readCarrierAnswer (carrier : Byte) (s : State) : Answer :=
  match asCarrier carrier with
  | none => .fail .range s
  | some c => .okWith (s.carrierImage c) s

def execReadCarrier (port : Port) (carrier : Byte) (s : State) : Result :=
  takeRequest port .readCarrier [carrier] (readCarrierAnswer carrier) s

/-- READ_BRANCH (R79). -/
def readBranchAnswer (branch : Byte) (s : State) : Answer :=
  match asBranch branch with
  | none => .fail .range s
  | some b => .okWith (s.branchImage b) s

def execReadBranch (port : Port) (branch : Byte) (s : State) : Result :=
  takeRequest port .readBranch [branch] (readBranchAnswer branch) s

/-- READ_WINDOW (R114). -/
def readWindowAnswer (window : Byte) (s : State) : Answer :=
  match asWindow window with
  | none => .fail .range s
  | some w => .okWith (s.windowImage w) s

def execReadWindow (port : Port) (window : Byte) (s : State) : Result :=
  takeRequest port .readWindow [window] (readWindowAnswer window) s

/-- READ_CHANNEL (R142). -/
def readChannelAnswer (channel : Byte) (s : State) : Answer :=
  match asChannel channel with
  | none => .fail .range s
  | some k => .okWith (s.channelImage k) s

def execReadChannel (port : Port) (channel : Byte) (s : State) : Result :=
  takeRequest port .readChannel [channel] (readChannelAnswer channel) s

/-- READ_CAUSES (R161). -/
def readCausesAnswer (s : State) : Answer := .okWith s.causesImage s

def execReadCauses (port : Port) (s : State) : Result :=
  takeRequest port .readCauses [] readCausesAnswer s

/-- READ_FAULTS (R174). -/
def readFaultsAnswer (depth : Byte) (s : State) : Answer :=
  match asRange 0 7 depth.toNat with
  | none => .fail .range s
  | some d =>
    match s.stack.records[d]? with
    | none => .fail .state s
    | some r => .okWith (s.faultImage d r) s

def execReadFaults (port : Port) (depth : Byte) (s : State) : Result :=
  takeRequest port .readFaults [depth] (readFaultsAnswer depth) s

end Sys2Proof.Machine
end

