-- ==== Sys2Proof/Machine/PortEvents.lean ====
section
/-!
DEFINITION. The meanings of the events at the ports themselves: PORT_RESET, frames that no block sees, select
periods, and the two ends of device reset.
-/
namespace Sys2Proof.Machine
open Sys2Proof

/-- PORT_RESET (R193): taken whether or not the reply queue has a free place. -/
def execPortReset (port : Port) (s : State) : Result :=
  let frame := requestFrame .portReset []
  .next
    (if s.frameAtFront port frame then
      let s := s.takeOut port frame
      s.setPort port (s.port port).reset
    else s)

/-- The taking of a frame that fails check 1, 2 or 3 (R188). Another frame is not this command's: it is taken by the
command of its kind, and nothing happens here (log 2). -/
def execUnknownRequestFrame (port : Port) (frame : List Byte) (s : State) : Result :=
  .next
    (match frameCheck frame with
    | .passed _ _ => s
    | .unknown => s.takeFrame port frame id
    | .badCheckByte => s.takeFrame port frame id)

/-- A write select period, or a part of one (R184, R186; log 13). -/
def execWriteTransaction (port : Port) (phase : WritePhase) (s : State) : Result :=
  .next
    (match phase with
    | .whole bytes => s.wholePeriod port bytes
    | .clocked bytes => s.clockBytes port bytes
    | .released bytes => s.releaseSelect port bytes)

/-- A read select period, or one moment of a select period: its assertion, its read code, more bytes, its release (R184,
R187; log 13). -/
def execReadTransaction (port : Port) (phase : ReadPhase) (s : State) : Result :=
  .next
    (match phase with
    | .whole clocked => s.wholePeriod port (zeroBytes clocked)
    | .asserted => s.assertSelect port
    | .opened => if (s.port port).periodBegun then s else s.clockBytes port (zeroBytes 1)
    | .clocked more => s.clockBytes port (zeroBytes more)
    | .released clocked => s.releaseSelect port ((s.port port).readRest clocked))

/-- Device reset from RESET_N begins (R181). -/
def execDeviceReset (s : State) : Result := .next s.deviceReset

/-- The end of device reset (R195). -/
def execEndOfDeviceReset (s : State) : Result := .next { s with resetting := false }

end Sys2Proof.Machine
end

