-- ==== Sys2Proof/Machine/TimedEvents.lean ====
section
/-!
DEFINITION. The meanings of the advance of site time, of the deadlines that expire on it, of the end of a DONE
pulse, and of a channel's step. An expiry acts on the record that holds the deadline, and a command for a deadline
that is absent or not due changes nothing (log 2, log 3).
-/
namespace Sys2Proof.Machine
open Sys2Proof

/-- SITE_TIME_ADVANCE (R99): time advances from the end of device reset. -/
def execSiteTimeAdvance (s : State) : Result :=
  .next (if s.resetting then s else s.advanceTime)

/-- The event of a deadline that is held and due, at the deadline's second (R13, R72, R108). -/
def State.expire (s : State) (deadline : Option Nat) (event : State → State) : State :=
  match deadline with
  | none => s
  | some d => if s.isDue d then s.atSecond d event else s

/-- DRAIN_DEADLINE_EXPIRY (R15). -/
def execDrainDeadlineExpiry (carrier : CarrierId) (s : State) : Result :=
  .next
    (if (s.carrier carrier).state = .draining then
      s.expire (s.carrier carrier).drainDeadline fun s => s.cancelAndOffer carrier .timeout
    else s)

/-- LIVE_DEADLINE_EXPIRY (R22). -/
def execLiveDeadlineExpiry (carrier : CarrierId) (s : State) : Result :=
  .next
    (if (s.carrier carrier).state = .waking then
      s.expire (s.carrier carrier).liveDeadline fun s => s.liveTimesOut carrier
    else s)

/-- LINGER_DEADLINE_EXPIRY (R58). -/
def execLingerDeadlineExpiry (branch : BranchId) (s : State) : Result :=
  .next
    (if (s.branch branch).state = .settling then
      s.expire (s.branch branch).lingerDeadline fun s => s.lingerExpires branch
    else s)

/-- RAMP_DOWN_DEADLINE_EXPIRY (R64). -/
def execRampDownDeadlineExpiry (branch : BranchId) (s : State) : Result :=
  .next
    (if (s.branch branch).state = .lowering then
      s.expire (s.branch branch).rampDeadline fun s => s.rampDownFails branch
    else s)

/-- RAMP_UP_DEADLINE_EXPIRY (R67). -/
def execRampUpDeadlineExpiry (branch : BranchId) (s : State) : Result :=
  .next
    (if (s.branch branch).state = .raising then
      s.expire (s.branch branch).rampDeadline fun s => s.rampUpFails branch
    else s)

/-- DONE_PULSE_END (R160; log 15). -/
def execDonePulseEnd (output : OutputId) (s : State) : Result :=
  .next (s.setOutput output { s.output output with pulse := false })

/-- CHANNEL_STEP (R127). -/
def execChannelStep (channel : ChannelId) (s : State) : Result :=
  .next (if (s.channel channel).state = .stepping ∧ s.halted = false then s.processEntry channel else s)

end Sys2Proof.Machine
end

