-- ==== Sys2Proof/Machine/LineEvents.lean ====
section
/-!
DEFINITION. The meanings of the edges of the site lines. A line that is already at the level a command names has no
edge, and the command changes nothing (log 2).
-/
namespace Sys2Proof.Machine
open Sys2Proof

/-- What a fall of BGD does at the branch record (R51). -/
def State.bgdFalls (s : State) (b : BranchId) : State :=
  match (s.branch b).state with
  | .lowering => s.goDark b
  | .powered => s.losePower b
  | .settling => s.losePower b
  | .unused => s
  | .dark => s
  | .queued => s
  | .raising => s
  | .faulted => s
  | .out => s

/-- BGD_FALL (R51, R63, R68). -/
def execBgdFall (branch : BranchId) (s : State) : Result :=
  .next (if s.bgd branch then (s.setBgd branch false).bgdFalls branch else s)

/-- What a rise of BGD does at the branch record (R51). -/
def State.bgdRises (s : State) (b : BranchId) : State :=
  match (s.branch b).state with
  | .raising => s.powerGood State.considerGrants b
  | .unused => s
  | .powered => s
  | .settling => s
  | .lowering => s
  | .dark => s
  | .queued => s
  | .faulted => s
  | .out => s

/-- BGD_RISE (R51, R66). -/
def execBgdRise (branch : BranchId) (s : State) : Result :=
  .next (if s.bgd branch then s else (s.setBgd branch true).bgdRises branch)

/-- Whether a change to `high` is counted (R153). -/
def EdgeMode.counted (mode : EdgeMode) (high : Bool) : Bool :=
  match mode with
  | .off => false
  | .rising => high
  | .falling => !high
  | .both => true

/-- The carriers an input in role WAKE reaches (R153). -/
def InputSetting.reaches (setting : InputSetting) (r : Carrier) : Bool :=
  match r.provision with
  | none => false
  | some pv => r.restsOrDrains && setting.tenantMask.getLsbD pv.owner.val && setting.sectorMask.getLsbD pv.sector.val

/-- A counted edge of an event input (R153). -/
def State.countedEdge (s : State) (i : InputId) : State :=
  let setting := s.input i
  match setting.role with
  | .cause => s.causeOccurs (inputSlot i)
  | .wake => (s.wakeRound setting.reaches setting.level).finish

/-- EV_EDGE (R153). During device reset the inputs are OFF and no edge is counted. -/
def execEvEdge (input : InputId) (high : Bool) (s : State) : Result :=
  .next
    (if s.ev input = high then s
    else
      let s := s.setEv input high
      if (s.input input).edgeMode.counted high then s.countedEdge input else s)

/-- HOLDAWK_EDGE (R155): each change of level is one of the two edges under the invert flag in force. -/
def execHoldawkEdge (high : Bool) (s : State) : Result :=
  .next
    (if s.lines.holdawk = high then s
    else
      let s := { s with lines := { s.lines with holdawk := high } }
      s.holdawkActs s.holdawkActive)

end Sys2Proof.Machine
end

