-- ==== Sys2Proof/Machine/Dispatch.lean ====
section
/-!
DEFINITION. Which meaning each command has: one arm for each constructor of `Instr`.
-/
namespace Sys2Proof.Machine
open Sys2Proof

/-- The effect of a command on everything but the queue. -/
def exec (i : Instr) (s : State) : Host.Outcome State Fault Refusal :=
  match i with
  | .offer port carrier => Sys2Proof.Machine.execOffer port carrier s
  | .withdraw port carrier => Sys2Proof.Machine.execWithdraw port carrier s
  | .drained port carrier => Sys2Proof.Machine.execDrained port carrier s
  | .live port carrier => Sys2Proof.Machine.execLive port carrier s
  | .wake port carrier level => Sys2Proof.Machine.execWake port carrier level s
  | .hold port carrier level => Sys2Proof.Machine.execHold port carrier level s
  | .release port carrier => Sys2Proof.Machine.execRelease port carrier s
  | .forceWake port scope index => Sys2Proof.Machine.execForceWake port scope index s
  | .setBudget port budget => Sys2Proof.Machine.execSetBudget port budget s
  | .setRamp port rampDown rampUp => Sys2Proof.Machine.execSetRamp port rampDown rampUp s
  | .pin port branch => Sys2Proof.Machine.execPin port branch s
  | .unpin port branch => Sys2Proof.Machine.execUnpin port branch s
  | .returnBranch port branch => Sys2Proof.Machine.execReturnBranch port branch s
  | .resolve port kind subject disposition => Sys2Proof.Machine.execResolve port kind subject disposition s
  | .halt port => Sys2Proof.Machine.execHalt port s
  | .setHoldMode port mode invert => Sys2Proof.Machine.execSetHoldMode port mode invert s
  | .clearHold port => Sys2Proof.Machine.execClearHold port s
  | .setOutput port output source channel => Sys2Proof.Machine.execSetOutput port output source channel s
  | .startChannel port channel => Sys2Proof.Machine.execStartChannel port channel s
  | .provisionBranch port branch => Sys2Proof.Machine.execProvisionBranch port branch s
  | .deprovisionBranch port branch => Sys2Proof.Machine.execDeprovisionBranch port branch s
  | .provisionCarrier port carrier owner sector branch layer window => Sys2Proof.Machine.execProvisionCarrier port carrier owner sector branch layer window s
  | .deprovisionCarrier port carrier => Sys2Proof.Machine.execDeprovisionCarrier port carrier s
  | .setFloor port tenant sector floor => Sys2Proof.Machine.execSetFloor port tenant sector floor s
  | .setTimers port drainTime liveTime linger => Sys2Proof.Machine.execSetTimers port drainTime liveTime linger s
  | .setDrainLimit port tenant limit => Sys2Proof.Machine.execSetDrainLimit port tenant limit s
  | .setTime port second => Sys2Proof.Machine.execSetTime port second s
  | .writeWindow port window enabled openSecond closeSecond dayMask quiet => Sys2Proof.Machine.execWriteWindow port window enabled openSecond closeSecond dayMask quiet s
  | .commitWindow port window => Sys2Proof.Machine.execCommitWindow port window s
  | .writeChannel port channel mode pointerMode base count groupSize linkEnable linkTarget completionNotice => Sys2Proof.Machine.execWriteChannel port channel mode pointerMode base count groupSize linkEnable linkTarget completionNotice s
  | .writeList port first number entries => Sys2Proof.Machine.execWriteList port first number entries s
  | .mapCause port slot target enable disarm => Sys2Proof.Machine.execMapCause port slot target enable disarm s
  | .clearCause port slot => Sys2Proof.Machine.execClearCause port slot s
  | .setInput port input edgeMode role level tenantMask sectorMask => Sys2Proof.Machine.execSetInput port input edgeMode role level tenantMask sectorMask s
  | .restart port => Sys2Proof.Machine.execRestart port s
  | .readSite port => Sys2Proof.Machine.execReadSite port s
  | .readCarrier port carrier => Sys2Proof.Machine.execReadCarrier port carrier s
  | .readBranch port branch => Sys2Proof.Machine.execReadBranch port branch s
  | .readWindow port window => Sys2Proof.Machine.execReadWindow port window s
  | .readChannel port channel => Sys2Proof.Machine.execReadChannel port channel s
  | .readCauses port => Sys2Proof.Machine.execReadCauses port s
  | .readFaults port depth => Sys2Proof.Machine.execReadFaults port depth s
  | .portReset port => Sys2Proof.Machine.execPortReset port s
  | .unknownRequestFrame port frame => Sys2Proof.Machine.execUnknownRequestFrame port frame s
  | .writeTransaction port phase => Sys2Proof.Machine.execWriteTransaction port phase s
  | .readTransaction port phase => Sys2Proof.Machine.execReadTransaction port phase s
  | .deviceReset => Sys2Proof.Machine.execDeviceReset s
  | .siteTimeAdvance => Sys2Proof.Machine.execSiteTimeAdvance s
  | .drainDeadlineExpiry carrier => Sys2Proof.Machine.execDrainDeadlineExpiry carrier s
  | .liveDeadlineExpiry carrier => Sys2Proof.Machine.execLiveDeadlineExpiry carrier s
  | .lingerDeadlineExpiry branch => Sys2Proof.Machine.execLingerDeadlineExpiry branch s
  | .rampDownDeadlineExpiry branch => Sys2Proof.Machine.execRampDownDeadlineExpiry branch s
  | .rampUpDeadlineExpiry branch => Sys2Proof.Machine.execRampUpDeadlineExpiry branch s
  | .donePulseEnd output => Sys2Proof.Machine.execDonePulseEnd output s
  | .bgdFall branch => Sys2Proof.Machine.execBgdFall branch s
  | .bgdRise branch => Sys2Proof.Machine.execBgdRise branch s
  | .evEdge input high => Sys2Proof.Machine.execEvEdge input high s
  | .holdawkEdge high => Sys2Proof.Machine.execHoldawkEdge high s
  | .channelStep channel => Sys2Proof.Machine.execChannelStep channel s
  | .endOfDeviceReset => Sys2Proof.Machine.execEndOfDeviceReset s

end Sys2Proof.Machine
end

