-- ==== Sys2Proof/Machine/Step.lean ====
section
/-!
DEFINITION. One step of the block: it takes the command at the front of its queue.
-/
namespace Sys2Proof.Machine
open Sys2Proof

/-- The command at the front of the queue runs on the state with the queue's rest; on an empty queue the block
idles (log 20). -/
def step (s : State) : Host.Outcome State Fault Refusal :=
  match s.pending with
  | [] => .next s
  | c :: rest => exec c { s with pending := rest }

/-- The state with the command that a word spells put at the front of the queue; unchanged where the word spells
none. -/
def State.withFetchWord (s : State) (nbits w : Nat) : State :=
  match decodeTableWord nbits w with
  | none => s
  | some c => { s with pending := c :: s.pending }

end Sys2Proof.Machine
end

