-- ==== Sys2Proof/Safety.lean ====
section
/-!
DEFINITION. The properties of states that the manual promises to hold between events, each as a decidable
proposition, and what it means that every step keeps one.
-/
namespace Sys2Proof.Machine
open Sys2Proof

/-- Every step from a state with the property ends in a state with it. -/
def KeptByEveryStep (inv : State → Prop) : Prop :=
  ∀ s t : State, inv s → step s = .next t → inv t

/-! ## What an event may do to the ports -/

/-- The port after a block posted notices to it: OVERFLOW is posted by the port itself, never by a block (R190). -/
def PostedTo (q r : PortState) : Prop :=
  ∃ notices : List Notice, Notice.overflow ∉ notices ∧ r = notices.foldl PortState.post q

/-- A block's work reaches the ports by notices alone (R183), and neither the queue of commands nor the device reset
in progress. -/
def OnlyPosts (s t : State) : Prop :=
  (∀ p, PostedTo (s.port p) (t.port p)) ∧ t.pending = s.pending ∧ t.resetting = s.resetting

/-- Every block but the Link Ports is as it was. -/
def BlocksKept (s t : State) : Prop :=
  t.table = s.table ∧ t.ctrl = s.ctrl ∧ t.arb = s.arb ∧ t.timer = s.timer ∧ t.rest = s.rest ∧ t.lines = s.lines
    ∧ t.stack = s.stack ∧ t.haltDraws = s.haltDraws

/-- Every port but `p` is as it was. -/
def OtherPortsKept (p : Port) (s t : State) : Prop := ∀ q, q ≠ p → t.port q = s.port q

/-! ## Requests -/

/-- The port can take the frame of this request now: it is at the front of the inbound queue, or the command stands
for its arrival too (log 1), the reply queue has a free place, and no device reset is in progress (R188). -/
abbrev TakesNow (p : Port) (k : RequestKind) (payload : List Byte) (s : State) : Prop :=
  s.canTake p (requestFrame k payload) = true

/-- The state after a request: its frame has left the inbound queue, its effect has happened, and its reply stands at
the back of the reply queue (R188, R189). -/
def State.answered (s : State) (p : Port) (k : RequestKind) (payload : List Byte) (effect : State → State)
    (status : Status) (reply : List Byte) : State :=
  (effect (s.takeOut p (requestFrame k payload))).placeReply p { kind := k.code, status := status, payload := reply }

/-- The state after a request that was turned away: its frame is gone, the reply is empty, and nothing else happened
(R188, R189). -/
def State.turnedAway (s : State) (p : Port) (k : RequestKind) (payload : List Byte) (status : Status) : State :=
  s.answered p k payload id status []

/-! ## Wakes, by the table of R18 -/

/-- What a wake of a level does to a record under a quiet level, in the states that R18 gives no drain to cancel: the
outcome's code, the record after, and the report. A VACANT record is not reached. -/
def wakeTable (r : Carrier) (quiet level : Nat) : WakeOutcome × Carrier × Option (BranchId → MemberReport) :=
  match r.state with
  | .resting =>
    if level = 7 ∨ quiet < level then
      (.honoured, { r with state := .waking, wakeLevel := some level, unmuteSent := false, pendingWake := 0 },
        some (fun b => .waking b level))
    else (.pending, { r with pendingWake := max r.pendingWake level }, none)
  | .waking =>
    if ∃ w ∈ r.wakeLevel, level ≤ w then (.already, r, none)
    else (.honoured, { r with wakeLevel := some level }, some (fun b => .raised b level))
  | .barred => (.pending, { r with pendingWake := max r.pendingWake level }, none)
  | .on => (.already, r, none)
  | .vacant => (.already, r, none)
  | .draining => (.already, r, none)

/-- The report, if there is one, reaches the Branch Controller (R19). -/
def State.reportTo (s : State) (b : BranchId) (report : Option (BranchId → MemberReport)) : State :=
  match report with
  | none => s
  | some f => s.memberReport (f b)

/-- A carrier that a freed slot may have drained within the event: as it was, or DRAINING as R9 gives. -/
def KeptOrDrained (s : State) (now : Nat) (r r' : Carrier) : Prop :=
  r' = r
    ∨ (r.state = .on ∧ r.offered = true ∧ r.claims = 0#5
      ∧ ∃ k, r' = { r with state := .draining, drainDeadline := some (secondsAfter now s.table.drainTime),
                           drainChannel := some k })

/-! ## What happens to carriers, starts and read periods beside their own event -/

/-- A carrier that an unmute may have reached (R20): as it was, but for the mark and the live deadline while WAKING. -/
def KeptOrUnmuted (r r' : Carrier) : Prop :=
  if r.state = .waking then
    r' = { r with unmuteSent := r'.unmuteSent, liveDeadline := r'.liveDeadline }
  else r' = r

/-- Every notice of a list is an UNMUTE. -/
def UnmutesOnly (notices : List Notice) : Prop := ∀ n ∈ notices, ∃ c deadline, n = .unmute c deadline

/-- Every notice of a list is a CHANNEL_DONE. -/
def DonesOnly (notices : List Notice) : Prop :=
  ∀ n ∈ notices, ∃ k result rested declined countLeft source,
    n = .channelDone k result rested declined countLeft source

/-- The flag of the cause that a taken start has as its source is cleared (R124, R147). -/
def State.startTaken (s : State) (source : StartSource) : State :=
  match source with
  | .cause j => s.setSlot j { s.slot j with flag := false }
  | .link _ => s
  | .plantRequest => s
  | .fleetRequest => s

/-- Steps 1 to 3 of R135 on a channel whose record they find as `ch`: it is IDLE, CHANNEL_DONE goes to the fleet and
plant ports where the completion notice is yes (R136), the cause it was started by is disarmed at count 0 (R148), the
outputs that follow the channel begin a pulse (R160), and nothing else changes. -/
def StartCloses (k : ChannelId) (ch : Channel) (result : DoneResult) (s t : State) : Prop :=
  t.channel k = { ch with state := .idle, quota := 0, outstanding := 0 }
    ∧ (∀ k', k' ≠ k → t.channel k' = s.channel k')
    ∧ t.table = s.table ∧ t.ctrl = s.ctrl ∧ t.arb = s.arb ∧ t.timer = s.timer ∧ t.stack = s.stack
    ∧ t.rest.list = s.rest.list ∧ t.lines = { s.lines with slots := t.lines.slots, outputs := t.lines.outputs }
    ∧ t.resetting = s.resetting ∧ t.haltDraws = s.haltDraws ∧ t.pending = s.pending
    ∧ (∀ p, t.port p =
        if ch.completionNotice = true ∧ (p = .fleet ∨ p = .plant) then
          (s.port p).post (.channelDone k result ch.rested ch.declined ch.count ch.currentSource)
        else s.port p)
    ∧ (∀ j, t.slot j =
        if ch.currentSource = some (.cause j) ∧ ch.count = 0 ∧ (s.slot j).disarm = true then
          { s.slot j with startEnable := false }
        else s.slot j)
    ∧ ∀ o, t.output o =
        if (s.output o).source = .done k then { s.output o with pulse := true } else s.output o

/-- An entry of the Rest List processed for a channel (R127, R9, R129): NONE and a decline are counted, a started drain is
DRAINING with DRAIN to its owner, and LIMIT leaves the channel BLOCKED in its place. -/
def EntryAnswered (k : ChannelId) (entry : Fin 256) (s t : State) : Prop :=
  let ch := s.channel k
  let declined := fun reason => s.entryProcessed k { ch with declined := ch.declined + 1, lastReason := some reason }
  (s.rest.list[entry.val] = none → t = declined .noEntry)
    ∧ ∀ c, s.rest.list[entry.val] = some c →
      (∀ reason, s.drainAnswer c = .declined reason → t = declined reason)
      ∧ (∀ tenant, s.drainAnswer c = .limit tenant →
          t = s.setChannel k { ch with state := .blocked, waiting := some tenant })
      ∧ ∀ pv, (s.carrier c).provision = some pv → s.drainAnswer c = .started →
          t = ((s.setCarrier c
                { s.carrier c with
                  state := .draining, drainDeadline := some ((s.now + s.table.drainTime) % 604800),
                  drainChannel := some k }).post (.tenant pv.owner)
              (.drain c ((s.now + s.table.drainTime) % 604800))).entryProcessed k
              { ch with outstanding := ch.outstanding + 1 }

/-- A DRAIN notice. -/
def Notice.isDrain (n : Notice) : Bool :=
  match n with
  | .drain _ _ => true
  | _ => false

/-- The state with another first byte shifted out on a port: the summary byte of a select period (R184). -/
def State.withSummary (s : State) (p : Port) (summary : Byte) : State :=
  s.setPort p { s.port p with dataOut := summary :: (s.port p).dataOut.tail }

/-! ## Link ports -/

/-- The sizes of a port's queues (R183), and where OVERFLOW stands while the overflow mark is yes (R190). -/
abbrev PortState.Bounded (q : PortState) : Prop :=
  q.inbound.length ≤ Config.inboundPlaces ∧ q.replies.length ≤ Config.replyPlaces
    ∧ q.notices.length ≤ (if q.overflow then Config.noticePlaces + 1 else Config.noticePlaces)
    ∧ q.overflow = (q.notices.getLast? == some .overflow)
    ∧ Notice.overflow ∉ q.notices.dropLast

abbrev PortsBounded (s : State) : Prop := ∀ p ∈ allPorts, (s.port p).Bounded

/-! ## Fault Stack and halt -/

/-- R166, first part. -/
abbrev StackBounded (s : State) : Prop := s.stack.records.length ≤ Config.stackPlaces

/-- R178. -/
abbrev HaltQuiet (s : State) : Prop :=
  s.halted = true →
    (∀ c, (s.carrier c).state ≠ .draining)
    ∧ (∀ b, (s.branch b).state ≠ .settling ∧ (s.branch b).state ≠ .lowering)
    ∧ (∀ k, (s.channel k).state = .idle)

/-! ## Carriers -/

/-- A DRAINING carrier is offered (R7) and unclaimed (R33). -/
abbrev DrainingConsents (s : State) : Prop :=
  ∀ c, (s.carrier c).state = .draining → (s.carrier c).offered = true ∧ (s.carrier c).claims = 0#5

/-- A deadline is a site second. -/
abbrev SecondOk (d : Option Nat) : Prop := ∀ t ∈ d, t < Config.weekSeconds

/-- The fields that R1 ties to the state. -/
abbrev Carrier.WellShaped (r : Carrier) : Prop :=
  (r.state = .vacant → r = Carrier.vacant)
    ∧ (r.state ≠ .vacant → r.provision.isSome = true)
    ∧ (r.drainDeadline.isSome = true ↔ r.state = .draining)
    ∧ (r.drainChannel.isSome = true ↔ r.state = .draining)
    ∧ (r.wakeLevel.isSome = true ↔ r.state = .waking)
    ∧ (∀ l ∈ r.wakeLevel, 1 ≤ l ∧ l ≤ 7)
    ∧ (r.unmuteSent = true → r.state = .waking)
    ∧ (r.liveDeadline.isSome = true → r.unmuteSent = true)
    ∧ (r.pendingWake ≠ 0 → r.state = .resting ∨ r.state = .barred)
    ∧ r.pendingWake ≤ 7
    ∧ SecondOk r.drainDeadline ∧ SecondOk r.liveDeadline

/-- The level of an event input is a wake level (R152). -/
abbrev InputLevelsOk (s : State) : Prop := ∀ i, 1 ≤ (s.input i).level ∧ (s.input i).level ≤ 7

/-- Every carrier record has the shape of R1. -/
abbrev CarriersShaped (s : State) : Prop := InputLevelsOk s ∧ ∀ c, (s.carrier c).WellShaped

/-! ## Branches -/

/-- The fields that R50 ties to the state, with the size and order of the member list (R4, R50). -/
abbrev Branch.WellShaped (r : Branch) : Prop :=
  (r.lingerDeadline.isSome = true ↔ r.state = .settling ∧ r.lingerExpired = false)
    ∧ (r.lingerExpired = true → r.state = .settling)
    ∧ (r.rampDeadline.isSome = true ↔ r.state = .lowering ∨ r.state = .raising)
    ∧ (r.wakeSeen = true → r.state = .lowering)
    ∧ (if r.state = .queued ∨ r.state = .raising then 1 ≤ r.raiseLevel ∧ r.raiseLevel ≤ 7 else r.raiseLevel = 0)
    ∧ (r.grant ≠ .none ↔ r.state = .raising)
    ∧ (r.state = .unused → r.members = [])
    ∧ r.members.Pairwise (· < ·) ∧ r.members.length ≤ Config.memberPlaces
    ∧ SecondOk r.lingerDeadline ∧ SecondOk r.rampDeadline

/-- Every branch record has the shape of R50, and its list holds the carriers whose records name the branch (R50). -/
abbrev BranchesShaped (s : State) : Prop :=
  ∀ b, (s.branch b).WellShaped ∧ ∀ c, c ∈ (s.branch b).members ↔ (s.carrier c).onBranch b = true

/-! ## Grants and the raise queue -/

/-- The order of R91: raise level, highest first, and entry stamp, smallest first, within one level. -/
abbrev InQueueOrder (queue : List QueueEntry) : Prop :=
  queue.Pairwise (fun x y => y.level < x.level ∨ (x.level = y.level ∧ x.stamp < y.stamp))

/-- R90 and R95: the ranges, and who holds a grant: the branch whose record names it. -/
abbrev HoldersShaped (s : State) : Prop :=
  1 ≤ s.arb.budget ∧ s.arb.budget ≤ 4
    ∧ s.arb.normalHolders.Pairwise (· < ·) ∧ s.arb.normalHolders.length ≤ 4
    ∧ (∀ b, b ∈ s.arb.normalHolders ↔ (s.branch b).grant = .normal)
    ∧ (∀ b, s.arb.emergencyHolder = some b ↔ (s.branch b).grant = .emergency)
    ∧ ∀ b, s.arb.emergencyHolder = some b → (s.branch b).raiseLevel = 7

/-- R91: a branch stands in the queue exactly while it is QUEUED, and once, at its raise level; the stamps differ and
come from the entry counter; the queue is in order. -/
abbrev QueueShaped (s : State) : Prop :=
  (∀ b, (s.branch b).state = .queued ↔ b ∈ s.arb.queue.map (fun e => e.branch))
    ∧ (s.arb.queue.map (fun e => e.branch)).Nodup
    ∧ (∀ e ∈ s.arb.queue, e.level = (s.branch e.branch).raiseLevel ∧ e.stamp < s.arb.entryCounter)
    ∧ (s.arb.queue.map (fun e => e.stamp)).Nodup
    ∧ InQueueOrder s.arb.queue

/-- Between events no head waits that the arbiter could serve (R93, R94). -/
abbrev NoGrantWaits (s : State) : Prop := s.arb.nextGrant = none

/-! ## Windows -/

/-- The ranges of R101, and the enabled set's two seconds that differ (R109). -/
abbrev WindowSet.WellFormed (ws : WindowSet) : Prop :=
  ws.openSecond < Config.daySeconds ∧ ws.closeSecond < Config.daySeconds ∧ ws.quiet ≤ 7
    ∧ (ws.enabled = true → ws.openSecond ≠ ws.closeSecond)

/-- R99, R101, R102: site time is a site second, swap pending is yes only while OPEN, and no window is OPEN while
time-valid is no. -/
abbrev WindowsShaped (s : State) : Prop :=
  s.now < Config.weekSeconds
    ∧ ∀ w, (s.window w).active.WellFormed ∧ (s.window w).shadow.WellFormed
      ∧ ((s.window w).swapPending = true → (s.window w).state = .isOpen)
      ∧ ((s.window w).state = .isOpen → s.timer.timeValid = true)

/-! ## Channels -/

/-- The fields that R119, R121, R122 and R135 tie to the state. -/
abbrev Channel.WellShaped (ch : Channel) : Prop :=
  (1 ≤ ch.quota ↔ ch.state = .stepping ∨ ch.state = .blocked)
    ∧ (ch.state = .idle → ch.pendingStart = none)
    ∧ (ch.waiting.isSome = true ↔ ch.state = .blocked)
    ∧ (ch.state = .awaiting → 1 ≤ ch.outstanding)
    ∧ 1 ≤ ch.groupSize ∧ ch.groupSize ≤ 16
    ∧ ch.base ≤ 255 ∧ ch.count ≤ 255 ∧ ch.pointer ≤ 256
    ∧ (ch.mode = .one → ch.quota ≤ 1) ∧ (ch.mode = .group → ch.quota ≤ ch.groupSize)
    ∧ (ch.mode = .one → ch.quota ≤ ch.count)
    ∧ (ch.mode = .all → ch.quota = 0 ∨ ch.quota = ch.count)
    ∧ (ch.mode = .group → 1 ≤ ch.quota → 1 ≤ ch.count)

/-- What is left of a channel's span, from its pointer on, lies inside the Rest List (R122, R128). -/
def Channel.spanInside (ch : Channel) : Bool :=
  match ch.mode, ch.pointerMode with
  | .one, .advance => ch.count == 0 || decide (ch.pointer + ch.count ≤ 256)
  | .all, .advance => ch.count == 0 || decide (ch.pointer + ch.count ≤ 256)
  | .one, .hold => ch.pointer == ch.base
  | .group, .advance =>
    if ch.quota = 0 then ch.count == 0 || decide (ch.pointer + ch.count * ch.groupSize ≤ 256)
    else decide (ch.pointer + ch.quota + (ch.count - 1) * ch.groupSize ≤ 256)
  | .group, .rewind =>
    if ch.quota = 0 then ch.pointer == ch.base && (ch.count == 0 || decide (ch.base + ch.groupSize ≤ 256))
    else ch.pointer + ch.quota == ch.base + ch.groupSize && decide (ch.base + ch.groupSize ≤ 256)
  | .one, .rewind => false
  | .all, .hold => false
  | .all, .rewind => false
  | .group, .hold => false

/-- Every channel record has the shape of R119, and outside SAFE_HALT its span stays inside the Rest List and it has no
drain outstanding in IDLE. -/
abbrev ChannelsShaped (s : State) : Prop :=
  (∀ k, (s.channel k).WellShaped)
    ∧ (s.halted = false → ∀ k, (s.channel k).spanInside = true
      ∧ ((s.channel k).state = .idle → (s.channel k).outstanding = 0))

end Sys2Proof.Machine
end

