-- ==== Sys2Proof/Certificates/Slice0/Obligations.lean ====
section
/-!
DEFINITION. The statements about the model, for the provers.
-/
section
open Sys2Proof Sys2Proof.Machine

/-! ## The queue of commands and the resets -/

/-- The command at the front of the queue runs on the state with the queue's rest. On an empty queue the block idles
(the model's choice, log 20). -/
def Obligations.StepRunsTheFrontCommand : Prop :=
  (∀ (c : Instr) (s : State), step { s with pending := c :: s.pending } = exec c s)
    ∧ ∀ s : State, s.pending = [] → step s = .next s

/-- The reset values the chapters give: R2, R43, R52, R90, R99, R101, R116, R120, R144, R152, R154, R159, R163, R175,
R195. Nothing is said of the fields whose values the model chose (the line levels, log 10; the entry counter, log 11;
the bytes shifted out, log 14). -/
def Obligations.ResetLeavesTheValuesOfTheChapters : Prop :=
  (∀ c, State.reset.carrier c =
      { state := .vacant, provision := none, offered := false, claims := 0#5, pendingWake := 0, wakeLevel := none,
        unmuteSent := false, drainDeadline := none, liveDeadline := none, drainChannel := none })
    ∧ (∀ t sec, State.reset.floorOf t sec = 0) ∧ (∀ t, State.reset.drainLimit t = 2)
    ∧ State.reset.table.drainTime = 120 ∧ State.reset.table.liveTime = 60
    ∧ (∀ b, State.reset.branch b =
      { state := .unused, lineMode := .follow, members := [], raiseLevel := 0, lingerDeadline := none,
        lingerExpired := false, rampDeadline := none, wakeSeen := false, grant := .none } ∧ State.reset.ben b = true)
    ∧ State.reset.ctrl.linger = 300 ∧ State.reset.ctrl.rampDown = 20 ∧ State.reset.ctrl.rampUp = 30
    ∧ State.reset.arb.budget = 1 ∧ State.reset.arb.normalHolders = [] ∧ State.reset.arb.emergencyHolder = none
    ∧ State.reset.arb.queue = []
    ∧ State.reset.now = 0 ∧ State.reset.timer.timeValid = false
    ∧ (∀ w, (State.reset.window w).state = .closed ∧ (State.reset.window w).swapPending = false
      ∧ (State.reset.window w).active =
        { enabled := false, openSecond := 0, closeSecond := 0, dayMask := 0#7, quiet := 0 }
      ∧ (State.reset.window w).shadow =
        { enabled := false, openSecond := 0, closeSecond := 0, dayMask := 0#7, quiet := 0 })
    ∧ (∀ e : Fin 256, State.reset.rest.list[e.val] = none)
    ∧ (∀ k, State.reset.channel k =
      { mode := .one, pointerMode := .advance, base := 0, count := 0, groupSize := 1, linkEnable := false,
        linkTarget := 0, completionNotice := false, state := .idle, pointer := 0, quota := 0, outstanding := 0,
        rested := 0, declined := 0, lastReason := none, pendingStart := none, currentSource := none,
        waiting := none })
    ∧ (∀ k, State.reset.slot k = { target := 0, startEnable := false, disarm := false, flag := false })
    ∧ (∀ i, State.reset.input i =
      { edgeMode := .off, role := .cause, level := 1, tenantMask := 0#4, sectorMask := 0#6 })
    ∧ State.reset.lines.holdMode = .off ∧ State.reset.lines.holdInvert = false
    ∧ State.reset.lines.restHold = false
    ∧ (∀ o, (State.reset.output o).source = .none)
    ∧ State.reset.stack.records = [] ∧ State.reset.stack.halt = none
    ∧ ∀ p, (State.reset.port p).inbound = [] ∧ (State.reset.port p).replies = [] ∧ (State.reset.port p).notices = []
      ∧ (State.reset.port p).overrun = false ∧ (State.reset.port p).overflow = false
      ∧ State.reset.ready p = true ∧ State.reset.attn p = false

/-- RESET_N returns every block to its reset values and empties every port, with READY deasserted until the end of
device reset (R181, R195); a select period in progress goes on, with a frame chosen in it out of its queue (R187), and
a write in progress no frame (R184). The
input lines keep their levels (the model's choice, log 10), and the entry counter its count (R90). RESTART, where the
fleet port takes it, does the same and places no reply (R194). That the period in progress outlives the reset is the
model's choice (log 13). -/
def Obligations.DeviceResetReturnsEveryBlock : Prop :=
  (∀ s : State, ∃ t, exec .deviceReset s = .next t ∧ t.table = State.reset.table
      ∧ t.ctrl = { State.reset.ctrl with bgd := s.ctrl.bgd }
      ∧ t.arb = { State.reset.arb with entryCounter := s.arb.entryCounter }
      ∧ t.timer = State.reset.timer ∧ t.rest = State.reset.rest
      ∧ t.lines = { State.reset.lines with ev := s.lines.ev, holdawk := s.lines.holdawk }
      ∧ t.stack = State.reset.stack ∧ t.pending = s.pending
      ∧ ((∀ p, (s.port p).selected = none) → t.ports = State.reset.ports)
      ∧ (∀ p, t.port p = { State.reset.port p with
          selected := (s.port p).selected.map (fun period =>
            { period with kind := match period.kind with
              | .undecided => .undecided
              | .read choice => .read { choice with stillQueued := false }
              | .write _ => .ignored
              | .ignored => .ignored }) })
      ∧ ∀ p, t.ready p = false ∧ t.attn p = false)
    ∧ (∀ s : State, TakesNow .fleet .restart [] s → exec (.restart .fleet) s = exec .deviceReset s)
    ∧ ∀ s : State, exec .endOfDeviceReset s = .next { s with resetting := false }

/-! ## Frames: arrival, the port's checks, the reply -/

/-- R186: a written frame is queued as received, or discarded with the overrun mark when the inbound queue holds 4
frames; READY is deasserted when the queue becomes full. -/
def Obligations.AWrittenFrameIsQueuedOrDiscarded : Prop :=
  ∀ (p : Port) (first : Byte) (rest : List Byte) (s : State),
    first ≠ 0x00#8 → s.resetting = false → (s.port p).selected = none →
      ∃ t, exec (.writeTransaction p (.whole (first :: rest))) s = .next t ∧ BlocksKept s t ∧ OtherPortsKept p s t
        ∧ t.pending = s.pending ∧ t.resetting = false
        ∧ (t.port p).replies = (s.port p).replies ∧ (t.port p).notices = (s.port p).notices
        ∧ (t.port p).overflow = (s.port p).overflow ∧ (t.port p).selected = none
        ∧ ((s.port p).inbound.length < 4 →
            (t.port p).inbound = (s.port p).inbound ++ [first :: rest] ∧ (t.port p).overrun = (s.port p).overrun
              ∧ t.ready p = decide ((s.port p).inbound.length < 3))
        ∧ (4 ≤ (s.port p).inbound.length →
            (t.port p).inbound = (s.port p).inbound ∧ (t.port p).overrun = true)

/-- The checks of R188 that do not depend on the port, 1 to 3, in their order, on any bytes. A frame that fails one is
answered UNKNOWN or CHECK, and a request of a kind that the port's role does not permit PERMISSION (R192): the reply is
the whole effect. -/
def Obligations.APortChecksAndTurnsAway : Prop :=
  (∀ frame : List Byte,
    let length := (frame.getD 1 0x00#8).toNat
    let wholeLength := 3 ≤ frame.length ∧ length ≤ 24 ∧ frame.length = length + 3
    let checked := crc8 frame.dropLast = frame.getLastD 0x00#8
    (¬ wholeLength → frameCheck frame = .unknown)
      ∧ (wholeLength → ¬ checked → frameCheck frame = .badCheckByte)
      ∧ (wholeLength → checked →
          (∀ k : RequestKind, frame.head? = some k.code → k.allowsLength length = false) →
            frameCheck frame = .unknown)
      ∧ ∀ k : RequestKind, wholeLength → checked → frame.head? = some k.code → k.allowsLength length = true →
          frameCheck frame = .passed k ((frame.drop 2).take length))
    ∧ ((∀ (p : Port) (frame : List Byte) (s : State), s.canTake p frame = true →
      (frameCheck frame = .unknown → exec (.unknownRequestFrame p frame) s =
        .next ((s.takeOut p frame).placeReply p { kind := frame.headD 0x00#8, status := .unknown, payload := [] }))
      ∧ (frameCheck frame = .badCheckByte → exec (.unknownRequestFrame p frame) s =
        .next ((s.takeOut p frame).placeReply p { kind := frame.headD 0x00#8, status := .check, payload := [] })))
    ∧ ∀ (i : Instr) (p : Port) (k : RequestKind) (payload : List Byte) (s : State),
        requestOf i = some (p, k, payload) → i.wellFormed = true → k.permitted p.role = false →
          TakesNow p k payload s → exec i s = .next (s.turnedAway p k payload .permission))

/-- No frame but PORT_RESET is taken while the reply queue has no free place (R188, R191), and none during device
reset; a command for such a taking changes nothing (the model's choice, log 2). A request row whose frame is not yet
queued stands for its arrival and its taking (the model's choice, log 1). -/
def Obligations.ATakingNeedsItsFrameAndAReplyPlace : Prop :=
  (∀ (i : Instr) (p : Port) (frame : List Byte) (s : State), takenFrame i = some (p, frame) → i ≠ .portReset p →
    4 ≤ (s.port p).replies.length ∨ s.resetting = true → exec i s = .next s)
    ∧ (∀ (p : Port) (s : State), s.resetting = true → exec (.portReset p) s = .next s)
    ∧ (∀ (i : Instr) (p : Port) (frame : List Byte) (s u : State), takenFrame i = some (p, frame) → i.wellFormed = true →
    s.resetting = false → (s.port p).inbound = [] → (s.port p).selected = none → (s.port p).replies.length < 4 →
      exec (.writeTransaction p (.whole frame)) s = .next u → exec i s = exec i u)

/-- Each taken request, but for RESTART and PORT_RESET, takes its frame from the inbound queue and places exactly one
reply with its kind, behind those already there; a status other than OK and STALE has no payload, and no other port
gets or loses a reply or a frame (R188, R189). -/
def Obligations.EachTakenRequestPlacesOneReply : Prop :=
  ∀ (i : Instr) (p : Port) (k : RequestKind) (payload : List Byte) (s : State),
    requestOf i = some (p, k, payload) → i.wellFormed = true → k ≠ .restart → k ≠ .portReset → TakesNow p k payload s →
      ∃ t r, exec i s = .next t ∧ (t.port p).replies = (s.port p).replies ++ [r] ∧ r.kind = k.code
        ∧ (r.status ≠ .ok → r.status ≠ .stale → r.payload = []) ∧ (r.status = .stale → r.payload.length = 3)
        ∧ (t.port p).inbound = (s.port p).inbound.tail
        ∧ ∀ q, q ≠ p → (t.port q).replies = (s.port q).replies ∧ (t.port q).inbound = (s.port q).inbound

/-- R190: a posted notice is placed, turns into OVERFLOW as the 16th, or is discarded under the overflow mark. -/
def Obligations.ANoticeIsPlacedOrOverflows : Prop :=
  ∀ (p : Port) (n : Notice) (s : State),
    BlocksKept s (s.post p n) ∧ OtherPortsKept p s (s.post p n)
      ∧ ((s.port p).overflow = true → (s.post p n).port p = s.port p)
      ∧ ((s.port p).overflow = false → (s.port p).notices.length < 15 →
          (s.post p n).port p = { s.port p with notices := (s.port p).notices ++ [n] })
      ∧ ((s.port p).overflow = false → (s.port p).notices.length = 15 →
          (s.post p n).port p = { s.port p with notices := (s.port p).notices ++ [.overflow], overflow := true })

/-- PORT_RESET (R193): it is taken without a free reply place; every frame, reply and notice of the port is discarded
and counted, both marks become no, and its own reply is the one frame left. No block and no other port changes. -/
def Obligations.PortResetEmptiesItsPort : Prop :=
  ∀ (p : Port) (s : State), s.frameAtFront p (requestFrame .portReset []) = true →
    ∃ t, exec (.portReset p) s = .next t ∧ BlocksKept s t ∧ OtherPortsKept p s t ∧ t.pending = s.pending
      ∧ t.resetting = s.resetting
      ∧ (t.port p).inbound = [] ∧ (t.port p).notices = [] ∧ (t.port p).overrun = false
      ∧ (t.port p).overflow = false
      ∧ (t.port p).replies =
        [{ kind := 0x3F#8, status := .ok,
           payload := [byteOf ((s.port p).inbound.length - 1), byteOf (s.port p).replies.length,
             byteOf (s.port p).notices.length, flagByte (s.port p).overrun] }]
      ∧ t.ready p = true ∧ t.attn p = true

/-- A whole read select period (R184, R187, R189, R190): it returns the oldest reply, else the oldest notice, else
EMPTY, behind the summary byte, and removes it if the master clocked it out whole. A reply read with its overrun
indicator yes clears the overrun mark, and OVERFLOW the overflow mark. The summary byte is that of the assertion of
select: after an assertion on its own, whatever the port holds by then, a read or a write goes as a whole period does,
behind the byte of the assertion, and a period with no byte has no effect. A PORT_RESET or a device reset between the
choice and the release leaves nothing to remove: the release changes no queue and no mark. A write may be clocked byte
by byte too: the bytes make one frame, which arrives at the release (R186). In device reset every byte clocked shifts
out 0x00, and a write is no frame and sets no mark; the bytes of a write clocked before the reset shifted out the
summary byte and 0x00. The moments of a period as commands of their own, that a frame chosen before a device reset goes
on after its end, and that a write cut by one is no frame after its end, are the model's log 13; the bytes are seen in
the model's own field `dataOut` (log 14). -/
def Obligations.AReadReturnsOneFrame : Prop :=
  (∀ (p : Port) (n : Nat) (s : State), s.resetting = false → (s.port p).selected = none → 1 ≤ n →
    ∃ t, exec (.readTransaction p (.whole n)) s = .next t ∧ BlocksKept s t ∧ OtherPortsKept p s t
      ∧ t.pending = s.pending ∧ t.resetting = false
      ∧ (∃ u, exec (.readTransaction p .opened) s = .next u ∧ exec (.readTransaction p (.released n)) u = .next t)
      ∧ (t.port p).inbound = (s.port p).inbound ∧ (t.port p).selected = none
      ∧ (∀ r rs, (s.port p).replies = r :: rs →
          let whole := decide ((r.frame (s.port p).overrun).length < n)
          (t.port p).dataOut
              = ((s.port p).summary :: r.frame (s.port p).overrun ++ List.replicate n 0x00#8).take n
            ∧ (t.port p).replies = (if whole then rs else r :: rs) ∧ (t.port p).notices = (s.port p).notices
            ∧ (t.port p).overrun = ((s.port p).overrun && !whole) ∧ (t.port p).overflow = (s.port p).overflow)
      ∧ (∀ m ms, (s.port p).replies = [] → (s.port p).notices = m :: ms →
          let whole := decide (m.frame.length < n)
          (t.port p).dataOut = ((s.port p).summary :: m.frame ++ List.replicate n 0x00#8).take n
            ∧ (t.port p).replies = [] ∧ (t.port p).notices = (if whole then ms else m :: ms)
            ∧ (t.port p).overrun = (s.port p).overrun
            ∧ (t.port p).overflow = ((s.port p).overflow && !(whole && m == .overflow)))
      ∧ ((s.port p).replies = [] → (s.port p).notices = [] →
          (t.port p).dataOut = ([(s.port p).summary, 0x03#8, 0x09#8] ++ List.replicate n 0x00#8).take n
            ∧ (t.port p).replies = [] ∧ (t.port p).notices = [] ∧ (t.port p).overrun = (s.port p).overrun
            ∧ (t.port p).overflow = (s.port p).overflow))
    ∧ (∀ (p : Port) (s : State), s.resetting = false → (s.port p).selected = none →
      exec (.readTransaction p .asserted) s = .next
        (s.setPort p
          { s.port p with selected := some { summary := (s.port p).summary, shifted := [], kind := .undecided } }))
    ∧ (∀ (p : Port) (summary : Byte) (s : State), s.resetting = false → (s.port p).selected = none →
      let asserted := s.setPort p
        { s.port p with selected := some { summary := summary, shifted := [], kind := .undecided } }
      exec (.readTransaction p (.released 0)) asserted = .next s
        ∧ (∀ n, 1 ≤ n → ∃ t u, exec (.readTransaction p (.whole n)) s = .next t
          ∧ exec (.readTransaction p (.released n)) asserted = .next (t.withSummary p summary)
          ∧ exec (.readTransaction p .opened) asserted = .next u
          ∧ exec (.readTransaction p (.released n)) u = .next (t.withSummary p summary)
          ∧ ∀ m, m ≤ n → ∃ v, exec (.readTransaction p (.clocked m)) asserted = .next v
            ∧ exec (.readTransaction p (.released n)) v = .next (t.withSummary p summary))
        ∧ ∀ (first : Byte) (rest : List Byte), first ≠ 0x00#8 →
          ∃ t, exec (.writeTransaction p (.whole (first :: rest))) s = .next t
            ∧ exec (.writeTransaction p (.whole (first :: rest))) asserted = .next (t.withSummary p summary)
            ∧ ∀ n, ∃ u, exec (.writeTransaction p (.clocked ((first :: rest).take n))) asserted = .next u
              ∧ exec (.writeTransaction p (.released ((first :: rest).drop n))) u = .next (t.withSummary p summary))
    ∧ (∀ (p : Port) (n : Nat) (summary : Byte) (choice : ReadChoice) (s : State), 1 ≤ n →
      (s.port p).selected = some { summary := summary, shifted := [summary], kind := .read choice } →
      let ended := fun (t : State) (bytes : List Byte) =>
        t.setPort p { t.port p with selected := none, dataOut := bytes.take n }
      let whole := summary :: choice.frame ++ List.replicate n 0x00#8
      (s.frameAtFront p (requestFrame .portReset []) = true →
        ∃ t, exec (.portReset p) s = .next t ∧ exec (.readTransaction p (.released n)) t = .next (ended t whole))
      ∧ ∃ t v, exec .deviceReset s = .next t
        ∧ exec (.readTransaction p (.released n)) t = .next (ended t (summary :: List.replicate n 0x00#8))
        ∧ exec .endOfDeviceReset t = .next v
        ∧ exec (.readTransaction p (.released n)) v = .next (ended v whole))
    ∧ (∀ (p : Port) (summary : Byte) (shifted frame bytes : List Byte) (s : State), shifted ≠ [] →
      (s.port p).selected = some { summary := summary, shifted := shifted, kind := .write frame } →
      let ended := fun t : State => t.setPort p
        { t.port p with selected := none, dataOut := shifted ++ List.replicate bytes.length 0x00#8 }
      (s.resetting = false → exec (.writeTransaction p (.released bytes)) s = .next
        (let t := ended s
         t.setPort p (if (s.port p).inbound.length < 4 then
            { t.port p with inbound := (s.port p).inbound ++ [frame ++ bytes] }
          else { t.port p with overrun := true })))
      ∧ ∃ t v, exec .deviceReset s = .next t ∧ exec (.writeTransaction p (.released bytes)) t = .next (ended t)
        ∧ exec .endOfDeviceReset t = .next v ∧ exec (.writeTransaction p (.released bytes)) v = .next (ended v))
    ∧ ∀ (p : Port) (s : State), s.resetting = true → (s.port p).selected = none →
      let zeros := fun n : Nat => s.setPort p { s.port p with dataOut := List.replicate n 0x00#8 }
      (∀ n, 1 ≤ n → exec (.readTransaction p (.whole n)) s = .next (zeros n)
        ∧ ∃ t u, exec (.readTransaction p .asserted) s = .next t
          ∧ exec (.readTransaction p (.released n)) t = .next (zeros n)
          ∧ exec (.readTransaction p .opened) t = .next u
          ∧ exec (.readTransaction p (.released n)) u = .next (zeros n))
      ∧ ∀ (first : Byte) (rest : List Byte), first ≠ 0x00#8 →
        exec (.writeTransaction p (.whole (first :: rest))) s = .next (zeros (rest.length + 1))

/-! ## Requests of the tenants -/

/-- R3, with the index check of the other requests that name a carrier on a tenant port: an index outside 0-47 is
answered RANGE, a carrier of another tenant PERMISSION, and nothing else happens. A VACANT record, having the shape of
R1, is owned by nobody. -/
def Obligations.ATenantNamesItsOwnCarriers : Prop :=
  (∀ (t : TenantId) (b level : Byte) (s : State), 48 ≤ b.toNat →
      (TakesNow (.tenant t) .offer [b] s →
        exec (.offer (.tenant t) b) s = .next (s.turnedAway (.tenant t) .offer [b] .range))
      ∧ (TakesNow (.tenant t) .withdraw [b] s →
        exec (.withdraw (.tenant t) b) s = .next (s.turnedAway (.tenant t) .withdraw [b] .range))
      ∧ (TakesNow (.tenant t) .drained [b] s →
        exec (.drained (.tenant t) b) s = .next (s.turnedAway (.tenant t) .drained [b] .range))
      ∧ (TakesNow (.tenant t) .live [b] s →
        exec (.live (.tenant t) b) s = .next (s.turnedAway (.tenant t) .live [b] .range))
      ∧ (TakesNow (.tenant t) .wake [b, level] s →
        exec (.wake (.tenant t) b level) s = .next (s.turnedAway (.tenant t) .wake [b, level] .range))
      ∧ (TakesNow (.tenant t) .hold [b, level] s →
        exec (.hold (.tenant t) b level) s = .next (s.turnedAway (.tenant t) .hold [b, level] .range))
      ∧ (TakesNow (.tenant t) .release [b] s →
        exec (.release (.tenant t) b) s = .next (s.turnedAway (.tenant t) .release [b] .range))
      ∧ (TakesNow (.tenant t) .readCarrier [b] s →
        exec (.readCarrier (.tenant t) b) s = .next (s.turnedAway (.tenant t) .readCarrier [b] .range)))
    ∧ (∀ (t : TenantId) (c : CarrierId) (level : Byte) (s : State), (s.carrier c).ownedBy t = false →
      (TakesNow (.tenant t) .offer [indexByte c] s →
        exec (.offer (.tenant t) (indexByte c)) s = .next (s.turnedAway (.tenant t) .offer [indexByte c] .permission))
      ∧ (TakesNow (.tenant t) .withdraw [indexByte c] s →
        exec (.withdraw (.tenant t) (indexByte c)) s =
          .next (s.turnedAway (.tenant t) .withdraw [indexByte c] .permission))
      ∧ (TakesNow (.tenant t) .drained [indexByte c] s →
        exec (.drained (.tenant t) (indexByte c)) s =
          .next (s.turnedAway (.tenant t) .drained [indexByte c] .permission))
      ∧ (TakesNow (.tenant t) .live [indexByte c] s →
        exec (.live (.tenant t) (indexByte c)) s = .next (s.turnedAway (.tenant t) .live [indexByte c] .permission))
      ∧ (1 ≤ level.toNat → level.toNat ≤ 7 → TakesNow (.tenant t) .wake [indexByte c, level] s →
        exec (.wake (.tenant t) (indexByte c) level) s =
          .next (s.turnedAway (.tenant t) .wake [indexByte c, level] .permission)))
    ∧ ∀ (t : TenantId) (c : CarrierId) (s : State), (s.carrier c).WellShaped → (s.carrier c).state = .vacant →
        (s.carrier c).ownedBy t = false

/-- OFFER (R6). -/
def Obligations.OfferRecordsTheOwnersConsent : Prop :=
  ∀ (t : TenantId) (c : CarrierId) (s : State),
    TakesNow (.tenant t) .offer [indexByte c] s → (s.carrier c).ownedBy t = true →
      exec (.offer (.tenant t) (indexByte c)) s = .next
        (if s.halted = true then s.turnedAway (.tenant t) .offer [indexByte c] .halted
        else if (s.carrier c).offered = true then s.turnedAway (.tenant t) .offer [indexByte c] .already
        else s.answered (.tenant t) .offer [indexByte c]
          (fun u => u.setCarrier c { s.carrier c with offered := true }) .ok [])

/-- WITHDRAW (R7): offered becomes no, and a drain is cancelled with reason WITHDRAWN. -/
def Obligations.WithdrawEndsTheConsent : Prop :=
  ∀ (t : TenantId) (c : CarrierId) (s : State),
    TakesNow (.tenant t) .withdraw [indexByte c] s → (s.carrier c).ownedBy t = true →
      exec (.withdraw (.tenant t) (indexByte c)) s = .next
          (if (s.carrier c).offered = false then s.turnedAway (.tenant t) .withdraw [indexByte c] .already
          else s.answered (.tenant t) .withdraw [indexByte c]
            (fun u =>
              if (s.carrier c).state = .draining then u.cancelAndOffer c .withdrawn
              else u.setCarrier c { s.carrier c with offered := false }) .ok [])
        ∧ ∀ u : State, u.carrier c = s.carrier c → (s.carrier c).state = .draining →
            (u.cancelAndOffer c .withdrawn).carrier c =
              { s.carrier c with state := .on, offered := false, drainDeadline := none, drainChannel := none }

/-- What a cancel does (R16): the record, DRAIN_CANCEL to the owner, DECLINED to the drain channel, and the offer of the
freed slot. That offer (R11) changes no branch, grant, window or fault, and of a port its notices alone; every carrier
is as it was, or was ON, offered and unclaimed and is DRAINING with a deadline of now plus the drain time (R9). No
tenant comes to hold more drains than before and than its limit (R10). The channels BLOCKED on the tenant are retried in
ascending number while it has a free slot, each with the entry at its pointer answered as a step's is (R11, R129), and
a channel left waiting on the tenant leaves it no free slot. -/
def Obligations.ACancelFreesASlotForAdmittedDrains : Prop :=
  (∀ (c : CarrierId) (pv : Provision) (k : ChannelId) (reason : CancelReason) (s : State),
    (s.carrier c).provision = some pv → (s.carrier c).state = .draining → (s.carrier c).drainChannel = some k →
      s.cancelAndOffer c reason =
        (((s.setCarrier c
            { s.carrier c with
              state := .on, drainDeadline := none, drainChannel := none,
              offered := (s.carrier c).offered && decide (reason ≠ .withdrawn ∧ reason ≠ .timeout) }).post
          (.tenant pv.owner) (.drainCancel c reason)).drainOutcome k .declined).offerSlots pv.owner)
    ∧ (∀ (t : TenantId) (s : State),
    OnlyPosts s (s.offerSlots t) ∧ (s.offerSlots t).ctrl = s.ctrl ∧ (s.offerSlots t).arb = s.arb
      ∧ (s.offerSlots t).timer = s.timer ∧ (s.offerSlots t).stack = s.stack
      ∧ (∀ c, KeptOrDrained s s.now (s.carrier c) ((s.offerSlots t).carrier c))
      ∧ ∀ t', (s.offerSlots t).drainingCount t' ≤ max (s.drainingCount t') (s.drainLimit t'))
    ∧ (∀ (t : TenantId) (s : State),
      s.offerSlots t = (List.finRange 8).foldl (fun u k =>
          if (u.channel k).state = .blocked ∧ (u.channel k).waiting = some t ∧ u.drainingCount t < u.drainLimit t then
            u.processEntry k
          else u) s
        ∧ ∀ k, ((s.offerSlots t).channel k).state = .blocked → ((s.offerSlots t).channel k).waiting = some t →
            (s.offerSlots t).drainLimit t ≤ (s.offerSlots t).drainingCount t)
    ∧ ∀ (k : ChannelId) (entry : Fin 256) (s : State), (s.channel k).pointer = entry.val →
      EntryAnswered k entry s (s.processEntry k)

/-- DRAINED (R14): RESTING, RESTED to the owner, the outcome RESTED, the offer of the slot, the settle test of the
branch. In any other state it is answered STATE. -/
def Obligations.DrainedRestsTheCarrier : Prop :=
  ∀ (t : TenantId) (c : CarrierId) (s : State),
    TakesNow (.tenant t) .drained [indexByte c] s → (s.carrier c).ownedBy t = true →
      ((s.carrier c).state ≠ .draining →
        exec (.drained (.tenant t) (indexByte c)) s = .next (s.turnedAway (.tenant t) .drained [indexByte c] .state))
      ∧ ∀ (pv : Provision) (k : ChannelId), (s.carrier c).provision = some pv → (s.carrier c).state = .draining →
          (s.carrier c).drainChannel = some k →
          exec (.drained (.tenant t) (indexByte c)) s = .next (s.answered (.tenant t) .drained [indexByte c]
            (fun u =>
              ((((u.setCarrier c
                  { s.carrier c with state := .resting, drainDeadline := none, drainChannel := none }).post
                (.tenant t) (.rested c)).drainOutcome k .rested).offerSlots t).settleTest pv.branch) .ok [])

/-- The settle test (R56, R58): a POWERED branch in FOLLOW whose members, at least one, are all RESTING enters SETTLING
outside SAFE_HALT; a linger of 0 expires at once. Otherwise nothing changes. And the reports of waking and raised
members (R61, R62), by the branch's state: POWERED and SETTLING answer with "powered", and each WAKING member not yet
unmuted is unmuted with a live deadline of now plus the live time, and UNMUTE with that deadline goes to its owner
(R20). -/
def Obligations.ABranchFollowsItsMembers : Prop :=
  (∀ (b : BranchId) (s : State),
    let met := (s.branch b).state = .powered ∧ (s.branch b).lineMode = .follow ∧ (s.branch b).members ≠ []
      ∧ (∀ c ∈ (s.branch b).members, (s.carrier c).state = .resting) ∧ s.halted = false
    (¬ met → s.settleTest b = s)
      ∧ (met → s.ctrl.linger ≠ 0 → s.settleTest b = s.setBranch b
          { state := .settling, lineMode := .follow, members := (s.branch b).members, raiseLevel := 0,
            lingerDeadline := some ((s.now + s.ctrl.linger) % 604800), lingerExpired := false, rampDeadline := none,
            wakeSeen := false, grant := .none })
      ∧ (met → s.ctrl.linger = 0 → s.lines.restHold = true → (s.settleTest b).branch b =
          { state := .settling, lineMode := .follow, members := (s.branch b).members, raiseLevel := 0,
            lingerDeadline := none, lingerExpired := true, rampDeadline := none, wakeSeen := false, grant := .none })
      ∧ (met → s.ctrl.linger = 0 → s.lines.restHold = false → (s.settleTest b).branch b =
          { state := .lowering, lineMode := .follow, members := (s.branch b).members, raiseLevel := 0,
            lingerDeadline := none, lingerExpired := false,
            rampDeadline := some ((s.now + s.ctrl.rampDown) % 604800), wakeSeen := false, grant := .none }))
    ∧ ((∀ (b : BranchId) (c : CarrierId) (s : State),
      (s.reportPowered b).carrier c =
          (if c ∈ (s.branch b).members ∧ (s.carrier c).state = .waking ∧ (s.carrier c).unmuteSent = false then
            { s.carrier c with unmuteSent := true, liveDeadline := some ((s.now + s.table.liveTime) % 604800) }
          else s.carrier c)
        ∧ (s.reportPowered b).ctrl = s.ctrl ∧ (s.reportPowered b).arb = s.arb)
    ∧ (∀ (b : BranchId) (s : State), (s.branch b).members.Pairwise (· < ·) →
      OnlyPosts s (s.reportPowered b)
        ∧ (∀ t, (s.reportPowered b).port (.tenant t) =
            (((s.branch b).members.filter (fun c =>
              (s.carrier c).state == .waking && !(s.carrier c).unmuteSent && (s.carrier c).ownedBy t)).map
              (fun c => Notice.unmute c ((s.now + s.table.liveTime) % 604800))).foldl PortState.post
              (s.port (.tenant t)))
        ∧ (s.reportPowered b).port .plant = s.port .plant ∧ (s.reportPowered b).port .fleet = s.port .fleet)
    ∧ ∀ (b : BranchId) (level : Nat) (s : State),
      ((s.branch b).state = .powered → s.memberWaking b level = s.reportPowered b)
      ∧ ((s.branch b).state = .settling → s.memberWaking b level =
          (s.setBranch b ((s.branch b).enter .powered)).reportPowered b)
      ∧ ((s.branch b).state = .lowering → s.memberWaking b level =
          s.setBranch b { s.branch b with wakeSeen := true })
      ∧ ((s.branch b).state = .dark → s.memberWaking b level = s.enterQueued b level)
      ∧ ((s.branch b).state = .raising → s.memberWaking b level =
            s.setBranch b { s.branch b with raiseLevel := max (s.branch b).raiseLevel level }
          ∧ s.memberRaised b level = s.memberWaking b level)
      ∧ ((s.branch b).state = .queued → level ≤ (s.branch b).raiseLevel →
          s.memberWaking b level = s ∧ s.memberRaised b level = s)
      ∧ ((s.branch b).state = .queued → (s.branch b).raiseLevel < level →
          s.memberRaised b level = s.memberWaking b level
          ∧ s.memberWaking b level =
            ((s.setBranch b { s.branch b with raiseLevel := level }).setArb
              { s.arb with queue := raiseEntry b level s.arb.queue }).considerGrants)
      ∧ ((s.branch b).state = .faulted → s.memberWaking b level = s ∧ s.memberRaised b level = s)
      ∧ ((s.branch b).state = .powered ∨ (s.branch b).state = .lowering → s.memberRaised b level = s))

/-- LIVE (R21): ON with the wake over and offered no, CARRIER_ON to the claimants other than the owner in the order of
R41, and the LIVE_TIMEOUT records of the carrier settled (R168). Otherwise STATE. -/
def Obligations.LiveBringsTheCarrierOn : Prop :=
  ∀ (t : TenantId) (c : CarrierId) (s : State),
    TakesNow (.tenant t) .live [indexByte c] s → (s.carrier c).ownedBy t = true →
      exec (.live (.tenant t) (indexByte c)) s = .next
        (if (s.carrier c).state = .waking ∧ (s.carrier c).unmuteSent = true then
          s.answered (.tenant t) .live [indexByte c]
            (fun u =>
              let on := u.setCarrier c
                { s.carrier c with
                  state := .on, wakeLevel := none, liveDeadline := none, unmuteSent := false, offered := false }
              let told := (allClaimants.filter
                (fun m => claims (s.carrier c).claims m && m != .tenant t)).foldl
                (fun v m => v.post m.port (.carrierOn c)) on
              told.setStack { s.stack with
                records := s.stack.records.map fun r =>
                  match r with
                  | .ofCarrier c' time settled => .ofCarrier c' time (settled || c' == c)
                  | .ofBranch kind b time snapshot => .ofBranch kind b time snapshot }) .ok []
        else s.turnedAway (.tenant t) .live [indexByte c] .state)

/-- WAKE (R88) in the states that have no drain to cancel, by the table of R18; the reply carries the outcome, the state
after, the quiet level and the wake level or pending wake. A DRAINING carrier's drain is cancelled with reason WAKE,
and the state byte of the reply is its state after the cancel and the offer of the freed slot: ON, or DRAINING again
where its own freed slot was given to a channel that waits on it. The level byte is then absent (log 17). -/
def Obligations.WakeActsByTheCarriersState : Prop :=
  (∀ (t : TenantId) (b level : Byte) (s : State), TakesNow (.tenant t) .wake [b, level] s →
      level.toNat = 0 ∨ 7 < level.toNat →
      exec (.wake (.tenant t) b level) s = .next (s.turnedAway (.tenant t) .wake [b, level] .range))
    ∧ ∀ (t : TenantId) (c : CarrierId) (level : Byte) (pv : Provision) (s : State),
      TakesNow (.tenant t) .wake [indexByte c, level] s → (s.carrier c).provision = some pv → pv.owner = t →
      1 ≤ level.toNat → level.toNat ≤ 7 →
      let quiet := s.quietLevel c
      let after := wakeTable (s.carrier c) quiet level.toNat
      ((s.carrier c).state ≠ .vacant → (s.carrier c).state ≠ .draining →
        exec (.wake (.tenant t) (indexByte c) level) s = .next (s.answered (.tenant t) .wake [indexByte c, level]
          (fun u => (u.setCarrier c after.2.1).reportTo pv.branch after.2.2) .ok
          [after.1.code, after.2.1.state.code, byteOf quiet,
            match after.2.1.state with
            | .waking => optionByte byteOf after.2.1.wakeLevel
            | .on => 0xFF#8
            | _ => byteOf after.2.1.pendingWake]))
      ∧ ((s.carrier c).state = .draining →
        let cancelled := (s.takeOut (.tenant t) (requestFrame .wake [indexByte c, level])).cancelAndOffer c .wake
        let state := (cancelled.carrier c).state
        (state = .on ∨ state = .draining)
          ∧ exec (.wake (.tenant t) (indexByte c) level) s = .next (s.answered (.tenant t) .wake [indexByte c, level]
            (fun u => u.cancelAndOffer c .wake) .ok [0x03#8, state.code, byteOf quiet, 0xFF#8]))

/-- A round of wakes (R81): each carrier the source reaches gets its wake under its own state, by the table of R18, and
every other carrier stays as it is; no branch changes before the round's end, and the reports then owed are those of
the table, in ascending carrier index. A drain is cancelled with reason WAKE, and DRAIN_CANCEL says so to its owner.
A round ends with the offers of the freed slots to each cancelled carrier's owner and then the reports to the Branch
Controller (R11, R19): that no freed slot is offered before the round's end, and that the offers come before the
reports, are the model's choice (log 7), and so is that every BARRED carrier reached is counted (log 16). -/
def Obligations.ARoundWakesEachCarrierByItsOwnState : Prop :=
  (∀ round : WakeRound,
      round.finish = round.reports.foldl (fun s report => s.memberReport report)
        (round.freed.foldl (fun s c =>
          match (s.carrier c).provision with
          | none => s
          | some pv => s.offerSlots pv.owner) round.state))
    ∧ ∀ (reaches : Carrier → Bool) (level : Nat) (s : State), 1 ≤ level → level ≤ 7 → reaches Carrier.vacant = false →
    CarriersShaped s →
      let round := s.wakeRound reaches level
      let result := fun c => wakeTable (s.carrier c) (s.quietLevel c) level
      round.state.ctrl = s.ctrl ∧ round.state.arb = s.arb
        ∧ (∀ c, reaches (s.carrier c) = false → round.state.carrier c = s.carrier c)
        ∧ (∀ c, reaches (s.carrier c) = true → (s.carrier c).state ≠ .draining →
            round.state.carrier c = (result c).2.1)
        ∧ (∀ c, reaches (s.carrier c) = true → (s.carrier c).state = .draining →
            round.state.carrier c = { s.carrier c with state := .on, drainDeadline := none, drainChannel := none })
        ∧ (∀ t, round.state.port (.tenant t) =
            ((carrierIds.filter (fun c =>
              reaches (s.carrier c) && (s.carrier c).state == .draining && (s.carrier c).ownedBy t)).map
              (fun c => Notice.drainCancel c .wake)).foldl PortState.post (s.port (.tenant t)))
        ∧ round.reports = carrierIds.filterMap (fun c =>
            if reaches (s.carrier c) = true then
              (result c).2.2.bind (fun report => (s.carrier c).provision.map (fun pv => report pv.branch))
            else none)
        ∧ round.freed = carrierIds.filter (fun c => reaches (s.carrier c) && (s.carrier c).state == .draining)
        ∧ round.woken = carrierIds.countP (fun c =>
            reaches (s.carrier c) && (s.carrier c).state == .resting && (result c).1 == .honoured)
        ∧ round.cancelled = carrierIds.countP (fun c => reaches (s.carrier c) && (s.carrier c).state == .draining)
        ∧ round.raised = carrierIds.countP (fun c =>
            reaches (s.carrier c) && (s.carrier c).state == .waking && (result c).1 == .honoured)
        ∧ round.pending = carrierIds.countP (fun c => reaches (s.carrier c) && (s.carrier c).state == .barred)

/-- HOLD (R34 to R36): the checks in their order; the claimant is added; a drain is cancelled with reason CLAIMED, and
in every other state the HOLD acts as a wake of its level (R18). The reply carries the outcome and the claim set. -/
def Obligations.HoldPlacesAClaim : Prop :=
  (∀ (set : BitVec 5) (m m' : Claimant), claims (addClaim set m) m' = (claims set m' || m' == m))
    ∧ (∀ (p : Port) (b level : Byte) (s : State), p ≠ .fleet → TakesNow p .hold [b, level] s →
      48 ≤ b.toNat ∨ level.toNat = 0 ∨ 7 < level.toNat →
      exec (.hold p b level) s = .next (s.turnedAway p .hold [b, level] .range))
    ∧ (∀ (p : Port) (m : Claimant) (c : CarrierId) (level : Byte) (s : State), claimantOf p = some m →
      TakesNow p .hold [indexByte c, level] s → 1 ≤ level.toNat → level.toNat ≤ 7 →
      ((s.carrier c).state = .vacant →
        exec (.hold p (indexByte c) level) s = .next (s.turnedAway p .hold [indexByte c, level] .state))
      ∧ ((s.carrier c).state ≠ .vacant → claims (s.carrier c).claims m = true →
        exec (.hold p (indexByte c) level) s = .next (s.turnedAway p .hold [indexByte c, level] .already)))
    ∧ ∀ (p : Port) (m : Claimant) (c : CarrierId) (level : Byte) (pv : Provision) (s : State),
      claimantOf p = some m → TakesNow p .hold [indexByte c, level] s → 1 ≤ level.toNat → level.toNat ≤ 7 →
      (s.carrier c).provision = some pv → (s.carrier c).state ≠ .vacant → claims (s.carrier c).claims m = false →
      let claimed := { s.carrier c with claims := addClaim (s.carrier c).claims m }
      let after := wakeTable claimed (s.quietLevel c) level.toNat
      exec (.hold p (indexByte c) level) s = .next
        (if (s.carrier c).state = .draining then
          s.answered p .hold [indexByte c, level]
            (fun u => (u.setCarrier c claimed).cancelAndOffer c .claimed) .ok [0x03#8, setByte claimed.claims]
        else
          s.answered p .hold [indexByte c, level]
            (fun u => (u.setCarrier c after.2.1).reportTo pv.branch after.2.2) .ok
            [after.1.code, setByte claimed.claims])

/-- RELEASE (R39): the checks in their order; the party's own claim is removed, and the reply carries the set left. -/
def Obligations.ReleaseRemovesTheClaim : Prop :=
  (∀ (set : BitVec 5) (m m' : Claimant), claims (dropClaim set m) m' = (claims set m' && m' != m))
    ∧ (∀ (p : Port) (b : Byte) (s : State), p ≠ .fleet → TakesNow p .release [b] s → 48 ≤ b.toNat →
      exec (.release p b) s = .next (s.turnedAway p .release [b] .range))
    ∧ ∀ (p : Port) (m : Claimant) (c : CarrierId) (s : State), claimantOf p = some m →
      TakesNow p .release [indexByte c] s →
      exec (.release p (indexByte c)) s = .next
        (if (s.carrier c).state = .vacant then s.turnedAway p .release [indexByte c] .state
        else if claims (s.carrier c).claims m = false then s.turnedAway p .release [indexByte c] .already
        else s.answered p .release [indexByte c]
          (fun u => u.setCarrier c { s.carrier c with claims := dropClaim (s.carrier c).claims m }) .ok
          [setByte (dropClaim (s.carrier c).claims m)])

/-! ## Branches and grants -/

/-- A branch that enters QUEUED takes its raise level and the next stamp to the place of R91, and the arbiter considers
grants (R60, R92); a raised entry moves to its place with its stamp (R93). How the arbiter considers grants (R94 to
R96): it stops when it has none to give; the head gets a NORMAL grant while
the normal holders are fewer than the budget, else the EMERGENCY grant at level 7 if nobody holds it; the branch is
RAISING with a ramp deadline of now plus the ramp-up limit, or POWERED with its grant released where its BGD is high
already (R65, R66); that what the arbiter then grants comes before the "powered" report is the model's choice (log 9).
Where it stops, no head is left that it could serve. SET_BUDGET (R97) takes 1-4, else RANGE; a higher budget lets the
arbiter consider grants, a lower one revokes none. -/
def Obligations.TheArbiterServesTheHead : Prop :=
  ((∀ (b : BranchId) (level : Nat) (s : State),
      s.enterQueued b level =
        ((s.setBranch b
          { state := .queued, lineMode := (s.branch b).lineMode, members := (s.branch b).members, raiseLevel := level,
            lingerDeadline := none, lingerExpired := false, rampDeadline := none, wakeSeen := false,
            grant := .none }).setArb
          { s.arb with
            queue := placeEntry { branch := b, level := level, stamp := s.arb.entryCounter } s.arb.queue,
            entryCounter := s.arb.entryCounter + 1 }).considerGrants)
    ∧ (∀ (e : QueueEntry) (queue : List QueueEntry), InQueueOrder queue → (∀ x ∈ queue, x.stamp ≠ e.stamp) →
      InQueueOrder (placeEntry e queue) ∧ List.Perm (placeEntry e queue) (e :: queue))
    ∧ ∀ (e : QueueEntry) (level : Nat) (queue : List QueueEntry), InQueueOrder queue →
      (queue.map (fun x => x.stamp)).Nodup → (queue.map (fun x => x.branch)).Nodup → e ∈ queue →
      InQueueOrder (raiseEntry e.branch level queue)
        ∧ List.Perm (raiseEntry e.branch level queue)
          ({ e with level := level } :: queue.filter (fun x => x.branch != e.branch)))
    ∧ ((∀ s : State, s.considerGrants.arb.nextGrant = none)
    ∧ (∀ s : State, s.arb.nextGrant = none ↔
        s.arb.queue = [] ∨ (s.arb.budget ≤ s.arb.normalHolders.length
          ∧ ∀ e ∈ s.arb.queue.head?, e.level = 7 → s.arb.emergencyHolder ≠ none))
    ∧ (∀ s : State, s.arb.nextGrant = none → s.considerGrants = s)
    ∧ ∀ (e : QueueEntry) (rest : List QueueEntry) (g : Grant) (s : State), s.arb.queue = e :: rest →
      (s.arb.normalHolders.length < s.arb.budget ∧ g = .normal)
        ∨ (s.arb.budget ≤ s.arb.normalHolders.length ∧ s.arb.emergencyHolder = none ∧ e.level = 7 ∧ g = .emergency) →
      let raising := (s.setArb (s.arb.give e.branch g)).setBranch e.branch
        { s.branch e.branch with
          state := .raising, lingerDeadline := none, lingerExpired := false, wakeSeen := false, grant := g,
          rampDeadline := some ((s.now + s.ctrl.rampUp) % 604800) }
      (s.arb.give e.branch g).queue = rest
        ∧ (s.bgd e.branch = false → s.considerGrants = raising.considerGrants)
        ∧ (s.bgd e.branch = true → s.considerGrants =
            ((((raising.setBranch e.branch ((raising.branch e.branch).enter .powered)).setArb
              (raising.arb.drop e.branch g)).considerGrants.reportPowered e.branch).settleTest e.branch).considerGrants))
    ∧ (∀ (budget : Byte) (s : State), TakesNow .plant .setBudget [budget] s →
    exec (.setBudget .plant budget) s = .next
      (if budget.toNat = 0 ∨ 4 < budget.toNat then s.turnedAway .plant .setBudget [budget] .range
      else s.answered .plant .setBudget [budget]
        (fun u =>
          let replaced := u.setArb { s.arb with budget := budget.toNat }
          if s.arb.budget < budget.toNat then replaced.considerGrants else replaced)
        .ok [byteOf s.arb.budget, byteOf s.arb.normalHolders.length]))

/-! ## Requests of the plant controller -/

/-- FORCE_WAKE (R89): the range and UNUSED checks; a level-7 round over the provisioned carriers of the scope, and its
four counts. The counts' reading for BARRED carriers already at 7 is the model's (log 16). -/
def Obligations.ForceWakeWakesItsScope : Prop :=
  (∀ (scope index : Byte) (s : State), TakesNow .plant .forceWake [scope, index] s →
      3 ≤ scope.toNat ∨ (scope.toNat = 1 ∧ 16 ≤ index.toNat) ∨ (scope.toNat = 2 ∧ 6 ≤ index.toNat) →
      exec (.forceWake .plant scope index) s = .next (s.turnedAway .plant .forceWake [scope, index] .range))
    ∧ (∀ (b : BranchId) (s : State), TakesNow .plant .forceWake [0x01#8, indexByte b] s →
      (s.branch b).state = .unused →
      exec (.forceWake .plant 0x01#8 (indexByte b)) s =
        .next (s.turnedAway .plant .forceWake [0x01#8, indexByte b] .state))
    ∧ ∀ (scope index : Byte) (named : Provision → Bool) (s : State), TakesNow .plant .forceWake [scope, index] s →
      (scope = 0x00#8 ∧ named = fun _ => true)
        ∨ (∃ b : BranchId, scope = 0x01#8 ∧ index = indexByte b ∧ (s.branch b).state ≠ .unused
          ∧ named = fun pv => pv.branch == b)
        ∨ (∃ sec : SectorId, scope = 0x02#8 ∧ index = indexByte sec ∧ named = fun pv => pv.sector == sec) →
      let round := (s.takeOut .plant (requestFrame .forceWake [scope, index])).wakeRound
        (fun r => r.provision.any named) 7
      exec (.forceWake .plant scope index) s = .next (s.answered .plant .forceWake [scope, index]
        (fun _ => round.finish) .ok
        [byteOf round.woken, byteOf round.cancelled, byteOf round.raised, byteOf round.pending])

/-- SET_RAMP (R72) and SET_TIMERS (R12): all values in range are replaced together, or none is. SET_DRAIN_LIMIT (R10): the
limit is replaced, and a higher one offers the freed slots (R11). -/
def Obligations.LimitsAndDurationsAreReplaced : Prop :=
  ((∀ (down up : Byte) (s : State), TakesNow .plant .setRamp [down, up] s →
      exec (.setRamp .plant down up) s = .next
        (if 1 ≤ down.toNat ∧ down.toNat ≤ 120 ∧ 1 ≤ up.toNat ∧ up.toNat ≤ 120 then
          s.answered .plant .setRamp [down, up]
            (fun u => { u with ctrl := { s.ctrl with rampDown := down.toNat, rampUp := up.toNat } }) .ok []
        else s.turnedAway .plant .setRamp [down, up] .range))
    ∧ ∀ (drain live linger : Half) (s : State),
      let payload := twoBytes drain.toNat ++ twoBytes live.toNat ++ twoBytes linger.toNat
      TakesNow .fleet .setTimers payload s →
      exec (.setTimers .fleet drain live linger) s = .next
        (if 10 ≤ drain.toNat ∧ drain.toNat ≤ 900 ∧ 5 ≤ live.toNat ∧ live.toNat ≤ 300 ∧ linger.toNat ≤ 3600 then
          s.answered .fleet .setTimers payload
            (fun u =>
              { u with table := { s.table with drainTime := drain.toNat, liveTime := live.toNat },
                       ctrl := { s.ctrl with linger := linger.toNat } }) .ok []
        else s.turnedAway .fleet .setTimers payload .range))
    ∧ ((∀ (t limit : Byte) (s : State), TakesNow .fleet .setDrainLimit [t, limit] s →
      4 ≤ t.toNat ∨ limit.toNat = 0 ∨ 8 < limit.toNat →
      exec (.setDrainLimit .fleet t limit) s = .next (s.turnedAway .fleet .setDrainLimit [t, limit] .range))
    ∧ ∀ (t : TenantId) (limit : Byte) (s : State), 1 ≤ limit.toNat → limit.toNat ≤ 8 →
      TakesNow .fleet .setDrainLimit [indexByte t, limit] s →
      exec (.setDrainLimit .fleet (indexByte t) limit) s =
        .next (s.answered .fleet .setDrainLimit [indexByte t, limit]
          (fun u =>
            let replaced := u.setDrainLimit t limit.toNat
            if s.drainLimit t < limit.toNat then replaced.offerSlots t else replaced) .ok []))

/-- PIN (R70) and UNPIN (R71): the checks, the line mode, and the effect by the branch's state. -/
def Obligations.PinAndUnpinSetTheLineMode : Prop :=
  (∀ (b : Byte) (s : State), 16 ≤ b.toNat →
      (TakesNow .plant .pin [b] s → exec (.pin .plant b) s = .next (s.turnedAway .plant .pin [b] .range))
      ∧ (TakesNow .plant .unpin [b] s → exec (.unpin .plant b) s = .next (s.turnedAway .plant .unpin [b] .range)))
    ∧ (∀ (b : BranchId) (s : State), TakesNow .plant .pin [indexByte b] s →
      let pinned := { s.branch b with lineMode := .pinned }
      exec (.pin .plant (indexByte b)) s = .next
        (if (s.branch b).state = .unused then s.turnedAway .plant .pin [indexByte b] .state
        else if (s.branch b).lineMode = .pinned then s.turnedAway .plant .pin [indexByte b] .already
        else s.answered .plant .pin [indexByte b]
          (fun u =>
            if (s.branch b).state = .settling then u.setBranch b (pinned.enter .powered)
            else if (s.branch b).state = .dark then (u.setBranch b pinned).enterQueued b 1
            else u.setBranch b pinned) .ok []))
    ∧ ∀ (b : BranchId) (s : State), TakesNow .plant .unpin [indexByte b] s →
      exec (.unpin .plant (indexByte b)) s = .next
        (if (s.branch b).state = .unused then s.turnedAway .plant .unpin [indexByte b] .state
        else if (s.branch b).lineMode = .follow then s.turnedAway .plant .unpin [indexByte b] .already
        else s.answered .plant .unpin [indexByte b]
          (fun u =>
            let following := u.setBranch b { s.branch b with lineMode := .follow }
            if (s.branch b).state = .powered then following.settleTest b else following) .ok [])

/-- RETURN_BRANCH (R76): OUT only. The branch leaves OUT; every BARRED member is RESTING, or WAKING at its pending wake
where that is honoured, RESTORED (carrier, branch) goes to its owner, and every other carrier keeps its state (R26).
After the RESTORED notices a tenant port gets UNMUTEs alone (R20), and the other two ports nothing. With no wake
honoured the branch is DARK in FOLLOW, and in PINNED it is QUEUED from DARK at level 1. -/
def Obligations.ReturnBranchRestoresItsMembers : Prop :=
  (∀ (b : Byte) (s : State), 16 ≤ b.toNat → TakesNow .plant .returnBranch [b] s →
      exec (.returnBranch .plant b) s = .next (s.turnedAway .plant .returnBranch [b] .range))
    ∧ (∀ (b : BranchId) (s : State), (s.branch b).state ≠ .out → TakesNow .plant .returnBranch [indexByte b] s →
      exec (.returnBranch .plant (indexByte b)) s =
        .next (s.turnedAway .plant .returnBranch [indexByte b] .state))
    ∧ ∀ (b : BranchId) (s : State), (s.branch b).state = .out → TakesNow .plant .returnBranch [indexByte b] s →
      ∃ u, exec (.returnBranch .plant (indexByte b)) s =
          .next (s.answered .plant .returnBranch [indexByte b] (fun _ => u) .ok [])
        ∧ OnlyPosts (s.takeOut .plant (requestFrame .returnBranch [indexByte b])) u
        ∧ (u.branch b).state ≠ .out ∧ (u.branch b).members = (s.branch b).members
        ∧ (u.branch b).lineMode = (s.branch b).lineMode
        ∧ u.timer = s.timer ∧ u.stack = s.stack
        ∧ (let taken := s.takeOut .plant (requestFrame .returnBranch [indexByte b])
          let restored := fun c => c ∈ (s.branch b).members ∧ (s.carrier c).state = .barred
          let honoured := fun c => (s.carrier c).pendingWake ≠ 0
            ∧ ((s.carrier c).pendingWake = 7 ∨ s.quietLevel c < (s.carrier c).pendingWake)
          (∀ c, restored c →
            (honoured c → KeptOrUnmuted
              { s.carrier c with
                state := .waking, wakeLevel := some (s.carrier c).pendingWake, pendingWake := 0, unmuteSent := false }
              (u.carrier c))
            ∧ (¬ honoured c → u.carrier c = { s.carrier c with state := .resting }))
          ∧ (∀ c, ¬ restored c → KeptOrUnmuted (s.carrier c) (u.carrier c))
          ∧ ((s.branch b).members.Pairwise (· < ·) → ∀ t, ∃ unmutes, UnmutesOnly unmutes
            ∧ u.port (.tenant t) =
              (((s.branch b).members.filter (fun c => (s.carrier c).state == .barred && (s.carrier c).ownedBy t)).map
                (fun c => Notice.restored c b) ++ unmutes).foldl PortState.post (taken.port (.tenant t)))
          ∧ u.port .plant = taken.port .plant ∧ u.port .fleet = taken.port .fleet
          ∧ ((∀ c, restored c → ¬ honoured c) →
            ((s.branch b).lineMode = .follow → u.branch b = (s.branch b).enter .dark ∧ u.arb = s.arb)
            ∧ ((s.branch b).lineMode = .pinned →
              ∃ v : State, u = v.enterQueued b 1 ∧ v.arb = s.arb ∧ v.branch b = (s.branch b).enter .dark))
          ∧ ((∃ c, restored c ∧ honoured c ∧ (s.carrier c).onBranch b = true) →
            (u.branch b).state = .queued ∨ (u.branch b).state = .raising ∨ (u.branch b).state = .powered))

/-- The checks of RESOLVE (R169), in their order; a RESOLVE that fails one changes nothing, and STALE carries the
record on top and the depth. -/
def Obligations.ResolveIsChecked : Prop :=
  (∀ (kind subject disposition : Byte) (s : State), TakesNow .plant .resolve [kind, subject, disposition] s →
      3 < kind.toNat ∨ 1 < disposition.toNat ∨ (kind.toNat < 3 ∧ 16 ≤ subject.toNat)
        ∨ (kind.toNat = 3 ∧ 48 ≤ subject.toNat) →
      exec (.resolve .plant kind subject disposition) s =
        .next (s.turnedAway .plant .resolve [kind, subject, disposition] .range))
    ∧ ∀ (f : Failure) (d : Disposition) (s : State),
      TakesNow .plant .resolve [f.kindCode, f.subjectCode, d.code] s →
      (s.stack.records = [] → exec (.resolve .plant f.kindCode f.subjectCode d.code) s =
        .next (s.turnedAway .plant .resolve [f.kindCode, f.subjectCode, d.code] .state))
      ∧ ∀ (top : FaultRecord) (below : List FaultRecord), s.stack.records = top :: below →
        (s.halted = true → exec (.resolve .plant f.kindCode f.subjectCode d.code) s =
          .next (s.turnedAway .plant .resolve [f.kindCode, f.subjectCode, d.code] .halted))
        ∧ (s.halted = false → top.failure ≠ f → exec (.resolve .plant f.kindCode f.subjectCode d.code) s =
          .next (s.answered .plant .resolve [f.kindCode, f.subjectCode, d.code] id .stale
            [top.failure.kindCode, top.failure.subjectCode, byteOf (below.length + 1)]))

/-- RESOLVE of the record on top (R170, R171): the record is removed, the disposition acts on its subject (R23, R74,
R75), and the reply carries the subject's state and the depth then left. A branch retired into OUT bars its members,
and BARRED goes to each one's owner (R25). -/
def Obligations.ResolveActsOnTheSubject : Prop :=
  ∀ (top : FaultRecord) (below : List FaultRecord) (d : Disposition) (s : State),
    let f := top.failure
    TakesNow .plant .resolve [f.kindCode, f.subjectCode, d.code] s → s.halted = false →
      s.stack.records = top :: below →
    let u := (s.takeOut .plant (requestFrame .resolve [f.kindCode, f.subjectCode, d.code])).setStack
      { records := below, halt := none }
    let done := fun v : State => exec (.resolve .plant f.kindCode f.subjectCode d.code) s =
      .next (s.answered .plant .resolve [f.kindCode, f.subjectCode, d.code] (fun _ => v) .ok
        [f.kindCode, f.subjectCode, d.code, v.subjectState f, byteOf v.stack.records.length])
    (∀ c time, top = .ofCarrier c time true → done u)
      ∧ (∀ c time pv, top = .ofCarrier c time false → (s.carrier c).provision = some pv →
        ((s.carrier c).state = .waking ∧ (s.carrier c).unmuteSent = true ∧ (s.branch pv.branch).state = .powered →
            (d = .retry → done ((u.setCarrier c
              { s.carrier c with liveDeadline := some ((s.now + s.table.liveTime) % 604800) }).post
              (.tenant pv.owner) (.unmute c ((s.now + s.table.liveTime) % 604800))))
            ∧ (d = .retire → done (u.comesLive c)))
        ∧ (¬ ((s.carrier c).state = .waking ∧ (s.carrier c).unmuteSent = true
            ∧ (s.branch pv.branch).state = .powered) → done u))
      ∧ (∀ b time snapshot, top = .ofBranch .rampDownStuck b time snapshot → (s.branch b).state = .faulted →
        (d = .retry → (s.branch b).lineMode = .follow → (∀ c ∈ (s.branch b).members, (s.carrier c).state = .resting) →
          done (u.setBranch b
            { (s.branch b).enter .lowering with rampDeadline := some ((s.now + s.ctrl.rampDown) % 604800) }))
        ∧ (d = .retry → (s.branch b).lineMode = .pinned ∨ (∃ c ∈ (s.branch b).members, (s.carrier c).state ≠ .resting) →
          s.bgd b = true →
          done (((u.setBranch b ((s.branch b).enter .powered)).reportPowered b).settleTest b))
        ∧ (d = .retire → s.bgd b = true →
          done ((u.setBranch b { (s.branch b).enter .powered with lineMode := .pinned }).reportPowered b))
        ∧ (d = .retry → (s.branch b).lineMode = .pinned ∨ (∃ c ∈ (s.branch b).members, (s.carrier c).state ≠ .resting) →
          s.bgd b = false → done ((u.setBranch b ((s.branch b).enter .powered)).losePower b))
        ∧ (d = .retire → s.bgd b = false →
          done ((u.setBranch b { (s.branch b).enter .powered with lineMode := .pinned }).losePower b)))
      ∧ (∀ b time snapshot, top = .ofBranch .powerLost b time snapshot → (s.branch b).state = .faulted → d = .retry →
        done (u.enterQueued b 7))
      ∧ (∀ b time snapshot, top = .ofBranch .rampUpFailed b time snapshot → (s.branch b).state = .faulted →
        d = .retry → done (u.enterQueued b (max 1 (s.highestWake b))))
      ∧ (∀ kind b time snapshot, top = .ofBranch kind b time snapshot → kind ≠ .rampDownStuck →
        (s.branch b).state = .faulted → d = .retire →
        ∃ v, done v ∧ OnlyPosts u v ∧ v.branch b = (s.branch b).enter .out
          ∧ (∀ c, v.carrier c =
              if c ∈ (s.branch b).members then
                match (s.carrier c).state with
                | .resting => { s.carrier c with state := .barred }
                | .waking =>
                  { s.carrier c with
                    state := .barred, pendingWake := (s.carrier c).wakeLevel.getD 0, wakeLevel := none,
                    liveDeadline := none, unmuteSent := false }
                | _ => s.carrier c
              else s.carrier c)
          ∧ ((s.branch b).members.Pairwise (· < ·) → ∀ t, v.port (.tenant t) =
              (((s.branch b).members.filter (fun c =>
                ((s.carrier c).state == .resting || (s.carrier c).state == .waking) && (s.carrier c).ownedBy t)).map
                (fun c => Notice.barred c b)).foldl PortState.post (u.port (.tenant t)))
          ∧ v.port .plant = u.port .plant ∧ v.port .fleet = u.port .fleet)

/-- HALT (R176) outside SAFE_HALT: the cause and time (R175), HALT first on every port (R177), every DRAINING carrier ON
with its offer kept, every RESTING one WAKING at level 7 and every BARRED one with pending wake 7 (R27), no branch
SETTLING or LOWERING (R77), every channel IDLE with no pending start and its tallies frozen but for a HALTED retry
(R140). It holds whatever order the blocks react in: that order is a free value (log 5). Halted, it is answered
ALREADY. -/
def Obligations.HaltStopsTheSite : Prop :=
  ∀ s : State, TakesNow .plant .halt [] s →
    (s.halted = true → exec (.halt .plant) s = .next (s.turnedAway .plant .halt [] .already))
    ∧ (s.halted = false → ∃ u, exec (.halt .plant) s = .next (s.answered .plant .halt [] (fun _ => u) .ok [])
      ∧ u.stack.halt = some { reason := .plant, time := s.recordedTime } ∧ u.stack.records = s.stack.records
      ∧ (∀ p, PostedTo ((s.port p).post (.halt .plant))
          { u.port p with inbound := (s.port p).inbound, dataOut := (s.port p).dataOut })
      ∧ (∀ c, (s.carrier c).state = .draining →
          u.carrier c = { s.carrier c with state := .on, drainDeadline := none, drainChannel := none })
      ∧ (∀ c, (s.carrier c).state = .resting → (u.carrier c).state = .waking ∧ (u.carrier c).wakeLevel = some 7
          ∧ (u.carrier c).pendingWake = 0 ∧ (u.carrier c).claims = (s.carrier c).claims
          ∧ (u.carrier c).offered = (s.carrier c).offered)
      ∧ (∀ c, (s.carrier c).state = .barred →
          u.carrier c = { s.carrier c with pendingWake := max (s.carrier c).pendingWake 7 })
      ∧ (∀ c, (s.carrier c).state = .on ∨ (s.carrier c).state = .vacant → u.carrier c = s.carrier c)
      ∧ (∀ b, (u.branch b).state ≠ .settling ∧ (u.branch b).state ≠ .lowering
          ∧ (u.branch b).members = (s.branch b).members)
      ∧ (∀ k, (u.channel k).state = .idle ∧ (u.channel k).quota = 0 ∧ (u.channel k).pendingStart = none
          ∧ ((s.channel k).state ≠ .blocked → (u.channel k).rested = (s.channel k).rested
            ∧ (u.channel k).declined = (s.channel k).declined ∧ (u.channel k).count = (s.channel k).count))
      ∧ u.timer = s.timer)

/-- SET_HOLD_MODE (R154) and CLEAR_HOLD (R156). That the reply's third byte is 1 for a hold in effect is the model's
choice (log 27). The hold recomputed from the line is in effect under an active level in
LEVEL, LATCH and WAKE. A hold that ends lowers every SETTLING branch whose linger has expired (R59) and changes no
other branch. -/
def Obligations.TheRestHoldFollowsItsMode : Prop :=
  (∀ (b : BranchId) (s : State), s.endRestHold.lines = { s.lines with restHold := false } ∧ s.endRestHold.branch b =
        if (s.branch b).state = .settling ∧ (s.branch b).lingerExpired = true then
          { (s.branch b).enter .lowering with rampDeadline := some ((s.now + s.ctrl.rampDown) % 604800) }
        else s.branch b)
    ∧ (∀ (mode invert : Byte) (s : State), TakesNow .plant .setHoldMode [mode, invert] s →
      3 < mode.toNat ∨ 1 < invert.toNat →
      exec (.setHoldMode .plant mode invert) s = .next (s.turnedAway .plant .setHoldMode [mode, invert] .range))
    ∧ (∀ (mode : HoldMode) (invert : Bool) (s : State),
      TakesNow .plant .setHoldMode [mode.code, flagByte invert] s →
      let hold := decide (mode ≠ .off) && (s.lines.holdawk != invert)
      exec (.setHoldMode .plant mode.code (flagByte invert)) s =
        .next (s.answered .plant .setHoldMode [mode.code, flagByte invert]
          (fun u =>
            let v := { u with lines := { s.lines with holdMode := mode, holdInvert := invert } }
            if s.lines.restHold = true ∧ hold = false then v.endRestHold else v.setRestHold hold)
          .ok [s.lines.holdMode.code, flagByte s.lines.holdInvert, flagByte hold]))
    ∧ ∀ s : State, TakesNow .plant .clearHold [] s → exec (.clearHold .plant) s = .next
        (if s.lines.restHold = false then s.turnedAway .plant .clearHold [] .already
        else if s.lines.holdMode = .latch then s.answered .plant .clearHold [] State.endRestHold .ok []
        else s.turnedAway .plant .clearHold [] .state)

/-- SET_OUTPUT (R159): the source is replaced, and a pulse in progress does not go over to the new source; the reply
carries the previous source. The line then follows the source (R159, R160). DONE_PULSE_END ends a pulse; when it comes
is the sender's (the model's choice, log 15). -/
def Obligations.SetOutputChoosesWhatALineShows : Prop :=
  (∀ (o source channel : Byte) (s : State), TakesNow .plant .setOutput [o, source, channel] s →
      4 ≤ o.toNat ∨ 5 < source.toNat ∨ (source.toNat = 5 ∧ 8 ≤ channel.toNat) →
      exec (.setOutput .plant o source channel) s =
        .next (s.turnedAway .plant .setOutput [o, source, channel] .range))
    ∧ (∀ (o : OutputId) (source : OutputSource) (channel : Byte) (s : State),
      TakesNow .plant .setOutput [indexByte o, source.code, channel] s →
      (∀ k, source = .done k → channel = indexByte k) →
      exec (.setOutput .plant (indexByte o) source.code channel) s =
        .next (s.answered .plant .setOutput [indexByte o, source.code, channel]
          (fun u => u.setOutput o { source := source, pulse := false }) .ok
          [(s.output o).source.code,
            match (s.output o).source with
            | .done k => indexByte k
            | _ => 0xFF#8]))
    ∧ (∀ (o : OutputId) (s : State),
      ((s.output o).source = .none → s.eo o = false) ∧ ((s.output o).source = .halt → s.eo o = s.halted)
      ∧ ((s.output o).source = .faults → s.eo o = decide (s.stack.records ≠ []))
      ∧ ((s.output o).source = .raising → (s.eo o = true ↔ ∃ b, (s.branch b).state = .raising))
      ∧ ((s.output o).source = .hold → s.eo o = s.lines.restHold)
      ∧ ∀ k, (s.output o).source = .done k → s.eo o = (s.output o).pulse)
    ∧ ∀ (o : OutputId) (s : State),
      exec (.donePulseEnd o) s = .next (s.setOutput o { s.output o with pulse := false })

/-- START_CHANNEL (R126) with the starts of R124 and R125: HALTED in SAFE_HALT; an IDLE channel steps with the quota of
its mode, or completes EMPTY at count 0; a busy one keeps the start as its one pending start. That the reply names the
pending source as replaced where it is the request's own, and so stays, is the model's choice (log 25). -/
def Obligations.StartChannelDeliversAStart : Prop :=
  (∀ (p : Port) (b : Byte) (s : State), p = .plant ∨ p = .fleet → 8 ≤ b.toNat → TakesNow p .startChannel [b] s →
      exec (.startChannel p b) s = .next (s.turnedAway p .startChannel [b] .range))
    ∧ ∀ (p : Port) (source : StartSource) (k : ChannelId) (s : State),
      (p = .plant ∧ source = .plantRequest) ∨ (p = .fleet ∧ source = .fleetRequest) →
      TakesNow p .startChannel [indexByte k] s →
      let ch := s.channel k
      (s.halted = true →
        exec (.startChannel p (indexByte k)) s = .next (s.turnedAway p .startChannel [indexByte k] .halted))
      ∧ (s.halted = false → ch.state = .idle → ch.count ≠ 0 →
        exec (.startChannel p (indexByte k)) s = .next (s.answered p .startChannel [indexByte k]
          (fun u => u.setChannel k
            { ch with
              state := .stepping, currentSource := some source, rested := 0, declined := 0, lastReason := none,
              quota := match ch.mode with
                | .one => 1
                | .all => ch.count
                | .group => ch.groupSize })
          .ok [0x00#8, ChannelState.stepping.code, byteOf ch.count, 0xFF#8]))
      ∧ (s.halted = false → ch.state = .idle → ch.count = 0 →
        exec (.startChannel p (indexByte k)) s = .next (s.answered p .startChannel [indexByte k]
          (fun u =>
            let started := { ch with
              currentSource := some source, rested := 0, declined := 0, lastReason := none, quota := 0,
              outstanding := 0 }
            let notice := Notice.channelDone k .empty 0 0 0 (some source)
            let told := if ch.completionNotice then
                ((u.setChannel k started).post .fleet notice).post .plant notice
              else u.setChannel k started
            { told with lines := { told.lines with
                outputs := told.lines.outputs.map (fun o => if o.source = .done k then { o with pulse := true } else o) } })
          .ok [0x02#8, ChannelState.idle.code, 0x00#8, 0xFF#8]))
      ∧ (s.halted = false → ch.state ≠ .idle →
        exec (.startChannel p (indexByte k)) s = .next (s.answered p .startChannel [indexByte k]
          (fun u => u.setChannel k { ch with pendingStart := some source })
          .ok [0x01#8, ch.state.code, byteOf ch.count, optionByte StartSource.code ch.pendingStart]))

/-! ## Requests of the fleet link -/

/-- PROVISION_BRANCH (R53) and DEPROVISION_BRANCH (R54). BEN stays asserted through both. -/
def Obligations.BranchesAreProvisionedAndDeprovisioned : Prop :=
  (∀ (b : Byte) (s : State), 16 ≤ b.toNat →
      (TakesNow .fleet .provisionBranch [b] s →
        exec (.provisionBranch .fleet b) s = .next (s.turnedAway .fleet .provisionBranch [b] .range))
      ∧ (TakesNow .fleet .deprovisionBranch [b] s →
        exec (.deprovisionBranch .fleet b) s = .next (s.turnedAway .fleet .deprovisionBranch [b] .range)))
    ∧ (∀ (b : BranchId) (s : State), TakesNow .fleet .provisionBranch [indexByte b] s →
      exec (.provisionBranch .fleet (indexByte b)) s = .next
        (if (s.branch b).state = .unused ∧ s.bgd b = true then
          s.answered .fleet .provisionBranch [indexByte b]
            (fun u => u.setBranch b
              { state := .powered, lineMode := .follow, members := [], raiseLevel := 0, lingerDeadline := none,
                lingerExpired := false, rampDeadline := none, wakeSeen := false, grant := .none }) .ok []
        else s.turnedAway .fleet .provisionBranch [indexByte b] .state))
    ∧ (∀ (b : BranchId) (s : State), TakesNow .fleet .deprovisionBranch [indexByte b] s →
      exec (.deprovisionBranch .fleet (indexByte b)) s = .next
        (if (s.branch b).state = .powered ∧ (s.branch b).members = [] then
          s.answered .fleet .deprovisionBranch [indexByte b]
            (fun u => u.setBranch b
              { state := .unused, lineMode := .follow, members := [], raiseLevel := 0, lingerDeadline := none,
                lingerExpired := false, rampDeadline := none, wakeSeen := false, grant := .none }) .ok []
        else s.turnedAway .fleet .deprovisionBranch [indexByte b] .state))
    ∧ BranchState.ben .unused = true ∧ BranchState.ben .powered = true

/-- PROVISION_CARRIER (R4): the checks in their order; the carrier is ON with the fields given, and stands in its branch's
member list. DEPROVISION_CARRIER (R5): only an ON carrier; its record is VACANT, its branch has lost the member and
tests the settle conditions. -/
def Obligations.CarriersAreProvisionedAndDeprovisioned : Prop :=
  ((∀ (c owner sector branch layer window : Byte) (s : State),
      TakesNow .fleet .provisionCarrier [c, owner, sector, branch, layer, window] s →
      48 ≤ c.toNat ∨ 4 ≤ owner.toNat ∨ 6 ≤ sector.toNat ∨ 16 ≤ branch.toNat ∨ 2 ≤ layer.toNat
        ∨ (8 ≤ window.toNat ∧ window.toNat ≠ 255) →
      exec (.provisionCarrier .fleet c owner sector branch layer window) s =
        .next (s.turnedAway .fleet .provisionCarrier [c, owner, sector, branch, layer, window] .range))
    ∧ ∀ (c : CarrierId) (pv : Provision) (s : State),
      let window := optionByte indexByte pv.window
      let payload := [indexByte c, indexByte pv.owner, indexByte pv.sector, indexByte pv.branch, pv.layer.code, window]
      TakesNow .fleet .provisionCarrier payload s →
      exec (.provisionCarrier .fleet (indexByte c) (indexByte pv.owner) (indexByte pv.sector) (indexByte pv.branch)
          pv.layer.code window) s = .next
        (if (s.carrier c).state ≠ .vacant ∨ (s.branch pv.branch).state ≠ .powered then
          s.turnedAway .fleet .provisionCarrier payload .state
        else if 6 ≤ (s.branch pv.branch).members.length then s.turnedAway .fleet .provisionCarrier payload .full
        else s.answered .fleet .provisionCarrier payload
          (fun u =>
            (u.setCarrier c
              { state := .on, provision := some pv, offered := false, claims := 0#5, pendingWake := 0,
                wakeLevel := none, unmuteSent := false, drainDeadline := none, liveDeadline := none,
                drainChannel := none }).setBranch pv.branch
              { s.branch pv.branch with members := insertIndex c (s.branch pv.branch).members }) .ok [])
      ∧ ∀ l : List CarrierId, l.Pairwise (· < ·) →
          (insertIndex c l).Pairwise (· < ·) ∧ ∀ d, d ∈ insertIndex c l ↔ d = c ∨ d ∈ l)
    ∧ ((∀ (b : Byte) (s : State), 48 ≤ b.toNat → TakesNow .fleet .deprovisionCarrier [b] s →
      exec (.deprovisionCarrier .fleet b) s = .next (s.turnedAway .fleet .deprovisionCarrier [b] .range))
    ∧ ∀ (c : CarrierId) (s : State), TakesNow .fleet .deprovisionCarrier [indexByte c] s →
      ((s.carrier c).state ≠ .on → exec (.deprovisionCarrier .fleet (indexByte c)) s =
        .next (s.turnedAway .fleet .deprovisionCarrier [indexByte c] .state))
      ∧ ∀ pv, (s.carrier c).provision = some pv → (s.carrier c).state = .on →
        exec (.deprovisionCarrier .fleet (indexByte c)) s = .next
          (s.answered .fleet .deprovisionCarrier [indexByte c]
            (fun u =>
              ((u.setCarrier c
                  { state := .vacant, provision := none, offered := false, claims := 0#5, pendingWake := 0,
                    wakeLevel := none, unmuteSent := false, drainDeadline := none, liveDeadline := none,
                    drainChannel := none }).setBranch pv.branch
                { s.branch pv.branch with
                  members := (s.branch pv.branch).members.filter (fun d => d != c) }).settleTest pv.branch) .ok []))

/-- SET_FLOOR (R46, R47): the floor is replaced; the reply carries the previous floor, the two counts and the number
woken. A higher floor wakes RESTING COVERAGE carriers of the pair at level 7, and only them, in ascending index, until
the ON and WAKING carriers of the pair reach the floor or no RESTING one is left. Every other carrier keeps its record,
but that a WAKING one may be unmuted where the arbiter's work has its branch powered (R20). -/
def Obligations.SetFloorBringsTheFloorWithinReach : Prop :=
  (∀ (t sec floor : Byte) (s : State), TakesNow .fleet .setFloor [t, sec, floor] s →
      4 ≤ t.toNat ∨ 6 ≤ sec.toNat ∨ 6 < floor.toNat →
      exec (.setFloor .fleet t sec floor) s = .next (s.turnedAway .fleet .setFloor [t, sec, floor] .range))
    ∧ ∀ (t : TenantId) (sec : SectorId) (floor : Byte) (s : State), floor.toNat ≤ 6 →
      TakesNow .fleet .setFloor [indexByte t, indexByte sec, floor] s →
      ∃ u woken, exec (.setFloor .fleet (indexByte t) (indexByte sec) floor) s =
          .next (s.answered .fleet .setFloor [indexByte t, indexByte sec, floor] (fun _ => u) .ok
            [byteOf (s.floorOf t sec), byteOf (u.onCount t sec), byteOf (u.wakingCount t sec), byteOf woken])
        ∧ u.floorOf t sec = floor.toNat
        ∧ (∀ t' sec', (t', sec') ≠ (t, sec) → u.floorOf t' sec' = s.floorOf t' sec')
        ∧ (floor.toNat ≤ s.floorOf t sec → woken = 0 ∧
            u = (s.takeOut .fleet (requestFrame .setFloor [indexByte t, indexByte sec, floor])).setFloorOf t sec
              floor.toNat)
        ∧ (s.floorOf t sec < floor.toNat →
            u.onCount t sec = s.onCount t sec ∧ u.wakingCount t sec = s.wakingCount t sec + woken
            ∧ (u.onCount t sec + u.wakingCount t sec ≤ max floor.toNat (s.onCount t sec + s.wakingCount t sec))
            ∧ (u.onCount t sec + u.wakingCount t sec < floor.toNat →
                ∀ c, (u.carrier c).coverageOf t sec = true → (u.carrier c).state ≠ .resting)
            ∧ (∀ c, (s.carrier c).state = .resting →
                (u.carrier c = s.carrier c)
                ∨ ((s.carrier c).coverageOf t sec = true ∧ (u.carrier c).state = .waking
                  ∧ (u.carrier c).wakeLevel = some 7 ∧ (u.carrier c).pendingWake = 0))
            ∧ (∀ c, (s.carrier c).state ≠ .resting ∨ (s.carrier c).coverageOf t sec = false →
                KeptOrUnmuted (s.carrier c) (u.carrier c))
            ∧ ∀ c c', c < c' → (s.carrier c).state = .resting → (s.carrier c').state = .resting →
                (s.carrier c).coverageOf t sec = true → (u.carrier c').state = .waking →
                (u.carrier c).state = .waking)

/-- SET_TIME (R100) and the advance of site time (R99). A recompute takes the windows in ascending number, each with its
open event, its close event or nothing, as its state and its active set say (R103). Every window is then as its active
set places the new second (R102). SET_TIME marks time valid, moves every deadline by the step and changes nothing else
before its recompute; of the time already held, with time-valid yes, it changes nothing (log 28). That site time does
not advance during device reset is the model's choice (log 2, with log 12). -/
def Obligations.SiteTimeAdvancesAndSteps : Prop :=
  (∀ (second : Triple) (s : State), TakesNow .fleet .setTime (threeBytes second.toNat) s → 604800 ≤ second.toNat →
      exec (.setTime .fleet second) s = .next (s.turnedAway .fleet .setTime (threeBytes second.toNat) .range))
    ∧ (∀ (second : Triple) (s : State), TakesNow .fleet .setTime (threeBytes second.toNat) s → second.toNat = s.now →
      s.now < 604800 → s.timer.timeValid = true →
      exec (.setTime .fleet second) s = .next (s.answered .fleet .setTime (threeBytes second.toNat) id .ok
        (threeBytes s.now ++ [flagByte true])))
    ∧ (∀ (second : Triple) (s : State), TakesNow .fleet .setTime (threeBytes second.toNat) s → second.toNat < 604800 →
      second.toNat ≠ s.now ∨ s.timer.timeValid = false →
      let move := fun d : Option Nat => d.map (fun d => (d + second.toNat + 604800 - s.now) % 604800)
      let taken := s.takeOut .fleet (requestFrame .setTime (threeBytes second.toNat))
      ∃ (carriers : Vector Carrier 48) (branches : Vector Branch 16),
        let stepped := { taken with
          timer := { s.timer with siteTime := second.toNat, timeValid := true }
          table := { s.table with carriers := carriers }
          ctrl := { s.ctrl with branches := branches } }
        (∀ c, stepped.carrier c =
            { s.carrier c with drainDeadline := move (s.carrier c).drainDeadline,
                               liveDeadline := move (s.carrier c).liveDeadline })
        ∧ (∀ b, stepped.branch b =
            { s.branch b with lingerDeadline := move (s.branch b).lingerDeadline,
                              rampDeadline := move (s.branch b).rampDeadline })
        ∧ exec (.setTime .fleet second) s = .next (s.answered .fleet .setTime (threeBytes second.toNat)
            (fun _ => stepped.recompute) .ok (threeBytes s.now ++ [flagByte s.timer.timeValid]))
        ∧ ∀ w, (stepped.recompute.window w).state = .isOpen ↔ (s.window w).active.openAt second.toNat = true)
    ∧ (∀ s : State, s.recompute = ([0, 1, 2, 3, 4, 5, 6, 7] : List WindowId).foldl (fun u w =>
        let evaluated := u.timer.timeValid && (u.window w).active.openAt u.now
        if (u.window w).state = .closed ∧ evaluated = true then u.openEvent w
        else if (u.window w).state = .isOpen ∧ evaluated = false then u.closeEvent w
        else u) s)
    ∧ (∀ s : State, s.resetting = true → exec .siteTimeAdvance s = .next s)
    ∧ ∀ s : State, s.resetting = false →
      ∃ t, exec .siteTimeAdvance s = .next t ∧ t = (s.setSiteTime ((s.now + 1) % 604800)).recompute
        ∧ t.now = (s.now + 1) % 604800 ∧ t.timer.timeValid = s.timer.timeValid
        ∧ OnlyPosts s t
        ∧ ∀ w, (t.window w).state = .isOpen ↔
            (s.timer.timeValid = true ∧ (s.window w).active.openAt ((s.now + 1) % 604800) = true)

/-- The open and close events of a window (R105, R107): a window opens with its set's quiet level, and closes with its
pending swap made. A close posts WINDOW CLOSED to the fleet port, and after it CHANNEL_DONE notices alone (R135; the
order of the two kinds in both events is log 24). It leaves no carrier bound to the window DRAINING or RESTING, and the
others bound to it as they were, but for an unmute (R107, R86, R20). Of the SETTLING branches, one with a woken carrier
is POWERED (R61), and of the rest those whose linger expired under a hold in mode LATCH are LOWERING (R59, R156). -/
def Obligations.WindowEventsActOnTheirWindow : Prop :=
  (∀ (w : WindowId) (s : State),
      s.openEvent w = ((s.setWindow w { s.window w with state := .isOpen }).causeOccurs (windowSlot w)).post .fleet
          (.windowOpened w s.now (s.window w).active.quiet)
        ∧ ∀ c, (s.openEvent w).carrier c = s.carrier c)
    ∧ ∀ (w : WindowId) (s : State),
      (s.closeEvent w).window w =
          (if (s.window w).swapPending = true then
            { active := (s.window w).shadow, shadow := (s.window w).shadow, state := .closed, swapPending := false }
          else { s.window w with state := .closed })
        ∧ (∀ w', w' ≠ w → (s.closeEvent w).window w' = s.window w')
        ∧ ((s.closeEvent w).lines.restHold = (s.lines.restHold && decide (s.lines.holdMode ≠ .latch)))
        ∧ (∃ dones, DonesOnly dones ∧ (s.closeEvent w).port .fleet =
            dones.foldl PortState.post ((s.port .fleet).post (.windowClosed w s.now (s.window w).swapPending)))
        ∧ (∀ c, (s.carrier c).boundTo w = true →
          ((s.carrier c).state = .draining → (s.closeEvent w).carrier c =
            { s.carrier c with state := .on, drainDeadline := none, drainChannel := none })
          ∧ ((s.carrier c).state = .resting → ((s.closeEvent w).carrier c).state = .waking
            ∧ ((s.closeEvent w).carrier c).wakeLevel = some (max 1 (s.carrier c).pendingWake)
            ∧ ((s.closeEvent w).carrier c).pendingWake = 0)
          ∧ ((s.carrier c).state ≠ .draining → (s.carrier c).state ≠ .resting →
            KeptOrUnmuted (s.carrier c) ((s.closeEvent w).carrier c)))
        ∧ ∀ b, (s.branch b).state = .settling → b ∉ s.arb.queue.map (fun e => e.branch) →
          let woken := ∃ c, (s.carrier c).boundTo w = true ∧ (s.carrier c).state = .resting
            ∧ (s.carrier c).onBranch b = true
          (woken → (s.closeEvent w).branch b = (s.branch b).enter .powered)
          ∧ (¬ woken → s.lines.holdMode = .latch → s.lines.restHold = true → (s.branch b).lingerExpired = true →
            (s.closeEvent w).branch b =
              { (s.branch b).enter .lowering with rampDeadline := some ((s.now + s.ctrl.rampDown) % 604800) })
          ∧ (¬ woken → s.lines.holdMode ≠ .latch ∨ s.lines.restHold = false ∨ (s.branch b).lingerExpired = false →
            (s.closeEvent w).branch b = s.branch b)

/-- WRITE_WINDOW (R109) and COMMIT_WINDOW (R110). -/
def Obligations.WindowSetsAreWrittenAndCommitted : Prop :=
  (∀ (w enabled : Byte) (openSecond closeSecond : Triple) (dayMask quiet : Byte) (s : State),
      let payload := [w, enabled] ++ threeBytes openSecond.toNat ++ threeBytes closeSecond.toNat ++ [dayMask, quiet]
      TakesNow .fleet .writeWindow payload s →
      8 ≤ w.toNat ∨ 2 ≤ enabled.toNat ∨ 86400 ≤ openSecond.toNat ∨ 86400 ≤ closeSecond.toNat ∨ 128 ≤ dayMask.toNat
        ∨ 7 < quiet.toNat ∨ (enabled.toNat = 1 ∧ openSecond = closeSecond) →
      exec (.writeWindow .fleet w enabled openSecond closeSecond dayMask quiet) s =
        .next (s.turnedAway .fleet .writeWindow payload .range))
    ∧ (∀ (w : WindowId) (ws : WindowSet) (openSecond closeSecond : Triple) (s : State),
      let payload := [indexByte w, flagByte ws.enabled] ++ threeBytes openSecond.toNat ++ threeBytes closeSecond.toNat
        ++ [setByte ws.dayMask, byteOf ws.quiet]
      TakesNow .fleet .writeWindow payload s → ws.WellFormed → openSecond.toNat = ws.openSecond →
      closeSecond.toNat = ws.closeSecond →
      exec (.writeWindow .fleet (indexByte w) (flagByte ws.enabled) openSecond closeSecond (setByte ws.dayMask)
          (byteOf ws.quiet)) s =
        .next (s.answered .fleet .writeWindow payload (fun u => u.setWindow w { s.window w with shadow := ws }) .ok []))
    ∧ (∀ (w : Byte) (s : State), 8 ≤ w.toNat → TakesNow .fleet .commitWindow [w] s →
      exec (.commitWindow .fleet w) s = .next (s.turnedAway .fleet .commitWindow [w] .range))
    ∧ ∀ (w : WindowId) (s : State), TakesNow .fleet .commitWindow [indexByte w] s →
      exec (.commitWindow .fleet (indexByte w)) s = .next
        (if (s.window w).state = .closed then
          s.answered .fleet .commitWindow [indexByte w]
            (fun u => u.setWindow w { s.window w with active := (s.window w).shadow }) .ok [0x00#8]
        else
          s.answered .fleet .commitWindow [indexByte w]
            (fun u => u.setWindow w { s.window w with swapPending := true }) .ok [0x01#8])

/-- WRITE_CHANNEL (R121, R122): the codings, the five legal pairs with their span checks, BUSY, and the record it leaves.
Outstanding drains are not among the fields the rule sets (log 18). -/
def Obligations.WriteChannelReplacesThePlan : Prop :=
  (∀ (k mode pointerMode base count groupSize linkEnable linkTarget notice : Byte) (s : State),
      let payload := [k, mode, pointerMode, base, count, groupSize, linkEnable, linkTarget, notice]
      TakesNow .fleet .writeChannel payload s →
      8 ≤ k.toNat ∨ 3 ≤ mode.toNat ∨ 3 ≤ pointerMode.toNat ∨ groupSize.toNat = 0 ∨ 16 < groupSize.toNat
        ∨ 2 ≤ linkEnable.toNat ∨ 8 ≤ linkTarget.toNat ∨ 2 ≤ notice.toNat
        ∨ (mode.toNat = 0 ∧ pointerMode.toNat = 2) ∨ (mode.toNat = 1 ∧ pointerMode.toNat ≠ 0)
        ∨ (mode.toNat = 2 ∧ pointerMode.toNat = 1)
        ∨ (count.toNat ≠ 0
          ∧ ((mode.toNat ≤ 1 ∧ pointerMode.toNat = 0 ∧ 256 < base.toNat + count.toNat)
            ∨ (mode.toNat = 2 ∧ pointerMode.toNat = 0 ∧ 256 < base.toNat + count.toNat * groupSize.toNat)
            ∨ (mode.toNat = 2 ∧ pointerMode.toNat = 2 ∧ 256 < base.toNat + groupSize.toNat))) →
      exec (.writeChannel .fleet k mode pointerMode base count groupSize linkEnable linkTarget notice) s =
        .next (s.turnedAway .fleet .writeChannel payload .range))
    ∧ ∀ (k : ChannelId) (mode : ChannelMode) (pointerMode : PointerMode) (base count groupSize : Byte)
        (link : Bool) (target : ChannelId) (notice : Bool) (s : State),
      let payload := [indexByte k, mode.code, pointerMode.code, base, count, groupSize, flagByte link, indexByte target,
        flagByte notice]
      TakesNow .fleet .writeChannel payload s → 1 ≤ groupSize.toNat → groupSize.toNat ≤ 16 →
      (mode = .one ∧ pointerMode = .advance ∧ (count.toNat = 0 ∨ base.toNat + count.toNat ≤ 256))
        ∨ (mode = .one ∧ pointerMode = .hold)
        ∨ (mode = .all ∧ pointerMode = .advance ∧ (count.toNat = 0 ∨ base.toNat + count.toNat ≤ 256))
        ∨ (mode = .group ∧ pointerMode = .advance
          ∧ (count.toNat = 0 ∨ base.toNat + count.toNat * groupSize.toNat ≤ 256))
        ∨ (mode = .group ∧ pointerMode = .rewind ∧ (count.toNat = 0 ∨ base.toNat + groupSize.toNat ≤ 256)) →
      exec (.writeChannel .fleet (indexByte k) mode.code pointerMode.code base count groupSize (flagByte link)
          (indexByte target) (flagByte notice)) s = .next
        (if (s.channel k).state = .idle ∧ (s.channel k).pendingStart = none then
          s.answered .fleet .writeChannel payload
            (fun u => u.setChannel k
              { s.channel k with
                mode := mode, pointerMode := pointerMode, base := base.toNat, count := count.toNat,
                groupSize := groupSize.toNat, linkEnable := link, linkTarget := target, completionNotice := notice,
                pointer := base.toNat, quota := 0, rested := 0, declined := 0, lastReason := none,
                currentSource := none }) .ok []
        else s.turnedAway .fleet .writeChannel payload .busy)

/-- WRITE_LIST (R117): n of 1-16 that is the number of values, a span inside the list, and values that are carriers or
NONE; the entries of the span take the values, and every other entry is as it was. -/
def Obligations.WriteListReplacesEntries : Prop :=
  (∀ (first n : Byte) (values : List Byte) (s : State), TakesNow .fleet .writeList (first :: n :: values) s →
      1 ≤ values.length → values.length ≤ 16 →
      n.toNat ≠ values.length ∨ 256 < first.toNat + n.toNat ∨ (∃ v ∈ values, 48 ≤ v.toNat ∧ v.toNat ≠ 255) →
      exec (.writeList .fleet first n values) s =
        .next (s.turnedAway .fleet .writeList (first :: n :: values) .range))
    ∧ ∀ (first n : Byte) (values : List Byte) (entries : List (Option CarrierId)) (s : State),
      TakesNow .fleet .writeList (first :: n :: values) s → 1 ≤ values.length → values.length ≤ 16 →
      n.toNat = values.length → first.toNat + n.toNat ≤ 256 → values = entries.map (optionByte indexByte) →
      ∃ list : Vector (Option CarrierId) 256,
        exec (.writeList .fleet first n values) s = .next (s.answered .fleet .writeList (first :: n :: values)
          (fun u => { u with rest := { s.rest with list := list } }) .ok [])
        ∧ ∀ e : Fin 256, list[e.val] =
            if h : first.toNat ≤ e.val ∧ e.val - first.toNat < entries.length then entries[e.val - first.toNat]'h.2
            else s.rest.list[e.val]

/-- CLEAR_CAUSE (R150), and MAP_CAUSE (R149, R151): the slot's three fields are replaced and the flag is kept; a turn of
start enable to yes under a set flag, outside SAFE_HALT, delivers the cause's start to the new target. SET_INPUT
(R152): every field is checked and stored in either role; the reply carries the previous setting and the line's level.
That a set flag and a high line are 1 in the replies is the model's choice (log 27). -/
def Obligations.TheCauseUnitIsSet : Prop :=
  ((∀ (k : Byte) (s : State), 16 ≤ k.toNat → TakesNow .fleet .clearCause [k] s →
      exec (.clearCause .fleet k) s = .next (s.turnedAway .fleet .clearCause [k] .range))
    ∧ (∀ (k : SlotId) (s : State), TakesNow .fleet .clearCause [indexByte k] s →
      exec (.clearCause .fleet (indexByte k)) s = .next
        (if (s.slot k).flag = false then s.turnedAway .fleet .clearCause [indexByte k] .already
        else s.answered .fleet .clearCause [indexByte k]
          (fun u => u.setSlot k { s.slot k with flag := false }) .ok []))
    ∧ (∀ (k target enable disarm : Byte) (s : State), TakesNow .fleet .mapCause [k, target, enable, disarm] s →
      16 ≤ k.toNat ∨ 8 ≤ target.toNat ∨ 2 ≤ enable.toNat ∨ 2 ≤ disarm.toNat →
      exec (.mapCause .fleet k target enable disarm) s =
        .next (s.turnedAway .fleet .mapCause [k, target, enable, disarm] .range))
    ∧ ∀ (k : SlotId) (target : ChannelId) (enable disarm : Bool) (s : State),
      let payload := [indexByte k, indexByte target, flagByte enable, flagByte disarm]
      TakesNow .fleet .mapCause payload s →
      let old := s.slot k
      let reply := fun flag => [indexByte old.target, flagByte old.startEnable, flagByte old.disarm, flagByte flag]
      let mapped := (s.takeOut .fleet (requestFrame .mapCause payload)).setSlot k
        { old with target := target, startEnable := enable, disarm := disarm }
      (old.startEnable = true ∨ enable = false ∨ old.flag = false ∨ s.halted = true →
        exec (.mapCause .fleet (indexByte k) (indexByte target) (flagByte enable) (flagByte disarm)) s =
          .next (s.answered .fleet .mapCause payload (fun _ => mapped) .ok (reply old.flag)))
      ∧ (old.startEnable = false → enable = true → old.flag = true → s.halted = false →
        exec (.mapCause .fleet (indexByte k) (indexByte target) (flagByte enable) (flagByte disarm)) s =
          .next (s.answered .fleet .mapCause payload (fun _ => mapped.deliverStart target (.cause k)) .ok
            (reply (decide ((s.channel target).state ≠ .idle))))))
    ∧ ((∀ (i edge role level tenants sectors : Byte) (s : State),
      TakesNow .fleet .setInput [i, edge, role, level, tenants, sectors] s →
      8 ≤ i.toNat ∨ 4 ≤ edge.toNat ∨ 2 ≤ role.toNat ∨ level.toNat = 0 ∨ 7 < level.toNat ∨ 16 ≤ tenants.toNat
        ∨ 64 ≤ sectors.toNat →
      exec (.setInput .fleet i edge role level tenants sectors) s =
        .next (s.turnedAway .fleet .setInput [i, edge, role, level, tenants, sectors] .range))
    ∧ ∀ (i : InputId) (setting : InputSetting) (s : State),
      let payload := [indexByte i, setting.edgeMode.code, setting.role.code, byteOf setting.level,
        setByte setting.tenantMask, setByte setting.sectorMask]
      TakesNow .fleet .setInput payload s → 1 ≤ setting.level → setting.level ≤ 7 →
      exec (.setInput .fleet (indexByte i) setting.edgeMode.code setting.role.code (byteOf setting.level)
          (setByte setting.tenantMask) (setByte setting.sectorMask)) s =
        .next (s.answered .fleet .setInput payload (fun u => u.setInput i setting) .ok
          [(s.input i).edgeMode.code, (s.input i).role.code, byteOf (s.input i).level,
            setByte (s.input i).tenantMask, setByte (s.input i).sectorMask, flagByte (s.ev i)]))

/-! ## Reads -/

/-- The bytes of the seven images (R201), and that the seven reads change nothing but the port they are taken on and
carry them; an index out of range is answered RANGE, and a depth the stack does not reach STATE (R31, R79, R114, R142,
R161, R174, R182). Four codings are the model's choices: the halt state byte, which is a free value (log 6), the window
state byte (log 19), the snapshot count of a format CARRIER record (log 26), and the value 1 for set, high, asserted,
held and in effect (log 27). -/
def Obligations.ReadsCarryTheImageAndChangeNothing : Prop :=
  (∀ s : State,
    let lost := fun f : Failure =>
      match f with
      | .rampDownStuck b => [0x00#8, indexByte b]
      | .rampUpFailed b => [0x01#8, indexByte b]
      | .powerLost b => [0x02#8, indexByte b]
      | .liveTimeout c => [0x03#8, indexByte c]
    let windowSet := fun ws : WindowSet =>
      [flagByte ws.enabled] ++ threeBytes ws.openSecond ++ threeBytes ws.closeSecond
        ++ [setByte ws.dayMask, byteOf ws.quiet]
    let bit := fun (place : Nat) (set : Bool) => if set then 2 ^ place else 0
    haltStateCode true ∈ [0x00#8, 0x01#8] ∧ haltStateCode false ∈ [0x00#8, 0x01#8]
      ∧ haltStateCode true ≠ haltStateCode false
      ∧ s.siteImage = threeBytes s.now ++ [flagByte s.timer.timeValid, haltStateCode s.halted]
        ++ (match s.stack.halt with
          | none => [0xFF#8, 0xFF#8, 0xFF#8, 0xFF#8, 0xFF#8, 0xFF#8]
          | some halt =>
            (match halt.reason with
            | .doubleFault f => 0x00#8 :: lost f
            | .plant => [0x01#8, 0xFF#8, 0xFF#8]) ++ optionSecond halt.time)
        ++ [byteOf s.arb.budget, byteOf s.arb.normalHolders.length, flagByte s.arb.emergencyHolder.isSome,
          byteOf s.arb.queue.length, flagByte s.lines.restHold, byteOf s.stack.records.length]
      ∧ (∀ c, s.carrierImage c = [indexByte c, (s.carrier c).state.code]
        ++ (match (s.carrier c).provision with
          | none => [0xFF#8, 0xFF#8, 0xFF#8, 0xFF#8, 0xFF#8]
          | some pv => [indexByte pv.owner, indexByte pv.sector, indexByte pv.branch, pv.layer.code,
              optionByte indexByte pv.window])
        ++ [flagByte (s.carrier c).offered, setByte (s.carrier c).claims, byteOf (s.carrier c).pendingWake,
          optionByte byteOf (s.carrier c).wakeLevel, flagByte (s.carrier c).unmuteSent]
        ++ optionSecond (s.carrier c).drainDeadline ++ optionSecond (s.carrier c).liveDeadline
        ++ [optionByte indexByte (s.carrier c).drainChannel]
        ++ (match (s.carrier c).provision with
          | none => [0xFF#8, 0xFF#8]
          | some pv => [byteOf (s.drainingCount pv.owner), byteOf (s.drainLimit pv.owner)]))
      ∧ (∀ b, s.branchImage b =
        [indexByte b, (s.branch b).state.code, (s.branch b).lineMode.code, byteOf (s.branch b).members.length]
        ++ (List.range 6).map (fun i => optionByte indexByte (s.branch b).members[i]?)
        ++ [byteOf (s.branch b).raiseLevel] ++ optionSecond (s.branch b).lingerDeadline
        ++ [flagByte (s.branch b).lingerExpired] ++ optionSecond (s.branch b).rampDeadline
        ++ [flagByte (s.branch b).wakeSeen, (s.branch b).grant.code, flagByte (s.ben b), flagByte (s.bgd b)]
        ++ twoBytes s.ctrl.linger ++ [byteOf s.ctrl.rampDown, byteOf s.ctrl.rampUp])
      ∧ (∀ w, s.windowImage w =
        [indexByte w, if (s.window w).state = .isOpen then 0x00#8 else 0x01#8, flagByte (s.window w).swapPending]
        ++ windowSet (s.window w).active ++ windowSet (s.window w).shadow
        ++ threeBytes s.now ++ [flagByte s.timer.timeValid])
      ∧ (∀ k, let ch := s.channel k
        s.channelImage k =
        [indexByte k, ch.mode.code, ch.pointerMode.code, byteOf ch.base, byteOf ch.count, byteOf ch.groupSize,
          flagByte ch.linkEnable, indexByte ch.linkTarget, flagByte ch.completionNotice, ch.state.code]
        ++ twoBytes ch.pointer
        ++ [byteOf ch.quota, byteOf ch.outstanding, byteOf ch.rested, byteOf ch.declined,
          optionByte DeclineReason.code ch.lastReason, if ch.pendingStart = none then 0x00#8 else 0x01#8,
          optionByte StartSource.code ch.pendingStart, optionByte StartSource.code ch.currentSource,
          if ch.state = .blocked then optionByte indexByte ch.waiting else 0xFF#8])
      ∧ s.causesImage =
        slotIds.map (fun k => byteOf ((s.slot k).target.val + bit 3 (s.slot k).startEnable
          + bit 4 (s.slot k).disarm + bit 5 (s.slot k).flag))
        ++ inputIds.flatMap (fun i =>
          [byteOf ((s.input i).edgeMode.code.toNat + (s.input i).role.code.toNat * 4 + bit 3 (s.ev i)
            + (s.input i).level * 16), setByte (s.input i).tenantMask, setByte (s.input i).sectorMask])
        ++ [byteOf (s.lines.holdMode.code.toNat + bit 2 s.lines.holdInvert + bit 3 s.lines.holdawk
            + bit 4 s.lines.restHold)]
        ++ outputIds.map (fun o => byteOf ((match (s.output o).source with
            | .none => 0
            | .halt => 1
            | .faults => 2
            | .raising => 3
            | .hold => 4
            | .done k => 5 + k.val * 8) + bit 6 (s.eo o)))
      ∧ (∀ depth kind b time snapshot, s.faultImage depth (.ofBranch kind b time snapshot) =
        [byteOf s.stack.records.length, byteOf depth,
          match kind with
          | .rampDownStuck => 0x00#8
          | .rampUpFailed => 0x01#8
          | .powerLost => 0x02#8,
          0x00#8, indexByte b] ++ optionSecond time ++ [0xFF#8, byteOf snapshot.length]
        ++ (List.range 6).flatMap (fun i =>
          match snapshot[i]? with
          | none => [0xFF#8, 0xFF#8]
          | some member => [indexByte member.1, member.2.code]))
      ∧ ∀ depth c time settled, s.faultImage depth (.ofCarrier c time settled) =
        [byteOf s.stack.records.length, byteOf depth, 0x03#8, 0x01#8, indexByte c] ++ optionSecond time
        ++ [flagByte settled, 0x00#8] ++ List.replicate 12 0xFF#8)
    ∧ ∀ (p : Port) (s : State),
    (TakesNow p .readSite [] s →
      exec (.readSite p) s = .next (s.answered p .readSite [] id .ok s.siteImage))
    ∧ (∀ c : CarrierId, TakesNow p .readCarrier [indexByte c] s →
      exec (.readCarrier p (indexByte c)) s =
        .next (s.answered p .readCarrier [indexByte c] id .ok (s.carrierImage c)))
    ∧ (∀ b : BranchId, TakesNow p .readBranch [indexByte b] s →
      exec (.readBranch p (indexByte b)) s = .next (s.answered p .readBranch [indexByte b] id .ok (s.branchImage b)))
    ∧ (∀ w : WindowId, TakesNow p .readWindow [indexByte w] s →
      exec (.readWindow p (indexByte w)) s = .next (s.answered p .readWindow [indexByte w] id .ok (s.windowImage w)))
    ∧ (p.role ≠ .tenant →
      (∀ k : ChannelId, TakesNow p .readChannel [indexByte k] s →
        exec (.readChannel p (indexByte k)) s =
          .next (s.answered p .readChannel [indexByte k] id .ok (s.channelImage k)))
      ∧ (TakesNow p .readCauses [] s →
        exec (.readCauses p) s = .next (s.answered p .readCauses [] id .ok s.causesImage))
      ∧ (∀ depth : Byte, depth.toNat ≤ 7 → TakesNow p .readFaults [depth] s →
        (∀ r, s.stack.records[depth.toNat]? = some r → exec (.readFaults p depth) s =
          .next (s.answered p .readFaults [depth] id .ok (s.faultImage depth.toNat r)))
        ∧ (s.stack.records.length ≤ depth.toNat → exec (.readFaults p depth) s =
          .next (s.turnedAway p .readFaults [depth] .state)))
      ∧ (∀ depth : Byte, 7 < depth.toNat → TakesNow p .readFaults [depth] s → exec (.readFaults p depth) s =
        .next (s.turnedAway p .readFaults [depth] .range))
      ∧ (∀ k : Byte, 8 ≤ k.toNat → TakesNow p .readChannel [k] s → exec (.readChannel p k) s =
        .next (s.turnedAway p .readChannel [k] .range)))
    ∧ (∀ c : Byte, 48 ≤ c.toNat → TakesNow p .readCarrier [c] s → exec (.readCarrier p c) s =
        .next (s.turnedAway p .readCarrier [c] .range))
    ∧ (∀ b : Byte, 16 ≤ b.toNat → TakesNow p .readBranch [b] s → exec (.readBranch p b) s =
        .next (s.turnedAway p .readBranch [b] .range))
    ∧ (∀ w : Byte, 8 ≤ w.toNat → TakesNow p .readWindow [w] s → exec (.readWindow p w) s =
        .next (s.turnedAway p .readWindow [w] .range))
    ∧ ∀ k payload status reply, TakesNow p k payload s →
        BlocksKept s (s.answered p k payload id status reply)
          ∧ OtherPortsKept p s (s.answered p k payload id status reply)

/-! ## Deadlines -/

/-- The drain deadline (R15) and the live deadline (R22) of a carrier, when due: the drain is cancelled with reason
TIMEOUT; the wake goes on with no live deadline, and outside SAFE_HALT a LIVE_TIMEOUT record is pushed on a stack with
room, with FAULT to the plant port (R164). With no deadline due nothing happens (the model's choice, log 2). When a
deadline is due, and at which second its event is taken, is the model's reading of R13 and R99 (log 3). -/
def Obligations.CarrierDeadlinesExpire : Prop :=
  (∀ (c : CarrierId) (d : Nat) (s : State), (s.carrier c).drainDeadline = some d → (s.carrier c).state = .draining →
      exec (.drainDeadlineExpiry c) s =
        .next (if s.now = d ∨ (s.now + 1) % 604800 = d then
          ((s.setSiteTime d).cancelAndOffer c .timeout).setSiteTime s.now else s))
    ∧ (∀ (c : CarrierId) (s : State), (s.carrier c).drainDeadline = none ∨ (s.carrier c).state ≠ .draining →
      exec (.drainDeadlineExpiry c) s = .next s)
    ∧ (∀ (c : CarrierId) (s : State), (s.carrier c).liveDeadline = none ∨ (s.carrier c).state ≠ .waking →
      exec (.liveDeadlineExpiry c) s = .next s)
    ∧ ∀ (c : CarrierId) (d : Nat) (s : State), (s.carrier c).liveDeadline = some d → (s.carrier c).state = .waking →
      (s.now ≠ d → (s.now + 1) % 604800 ≠ d → exec (.liveDeadlineExpiry c) s = .next s)
      ∧ (s.now = d ∨ (s.now + 1) % 604800 = d →
        let passed := s.setCarrier c { s.carrier c with liveDeadline := none }
        let time := if s.timer.timeValid = true then some d else none
        (s.halted = true → exec (.liveDeadlineExpiry c) s = .next passed)
        ∧ (s.halted = false → s.stack.records.length < 8 →
          exec (.liveDeadlineExpiry c) s = .next ((passed.setStack
            { s.stack with records := .ofCarrier c time false :: s.stack.records }).post .plant
              (.fault (.liveTimeout c))))
        ∧ (s.halted = false → 8 ≤ s.stack.records.length →
          ∃ t, exec (.liveDeadlineExpiry c) s = .next t ∧ t.stack.records = s.stack.records
            ∧ t.stack.halt = some { reason := .doubleFault (.liveTimeout c), time := time }
            ∧ ((s.carrier c).unmuteSent = true → t.carrier c = { s.carrier c with liveDeadline := none })))

/-- The linger deadline (R58) and the two ramp deadlines (R64, R67) of a branch, when due: a lowering begins, or the
branch waits for the end of the rest hold; a branch that failed to ramp is FAULTED with BEN asserted, a failed raise
has released its grant, and outside SAFE_HALT the failure's record is pushed on a stack with room, with the members and
their states. With no deadline due nothing happens (the model's choice, log 2; when it is due, log 3). -/
def Obligations.BranchDeadlinesExpire : Prop :=
  (∀ (b : BranchId) (s : State),
      ((s.branch b).lingerDeadline = none ∨ (s.branch b).state ≠ .settling →
        exec (.lingerDeadlineExpiry b) s = .next s)
      ∧ ((s.branch b).rampDeadline = none ∨ (s.branch b).state ≠ .lowering →
        exec (.rampDownDeadlineExpiry b) s = .next s)
      ∧ ((s.branch b).rampDeadline = none ∨ (s.branch b).state ≠ .raising →
        exec (.rampUpDeadlineExpiry b) s = .next s))
    ∧ (∀ (b : BranchId) (d : Nat) (s : State), (s.branch b).rampDeadline = some d → s.now ≠ d →
      (s.now + 1) % 604800 ≠ d →
      exec (.rampDownDeadlineExpiry b) s = .next s ∧ exec (.rampUpDeadlineExpiry b) s = .next s)
    ∧ (∀ (b : BranchId) (d : Nat) (s : State), (s.branch b).lingerDeadline = some d → (s.branch b).state = .settling →
      exec (.lingerDeadlineExpiry b) s = .next
        (if s.now = d ∨ (s.now + 1) % 604800 = d then
          if s.lines.restHold = true then
            s.setBranch b { s.branch b with lingerDeadline := none, lingerExpired := true }
          else s.setBranch b
            { (s.branch b).enter .lowering with rampDeadline := some ((d + s.ctrl.rampDown) % 604800) }
        else s))
    ∧ ∀ (b : BranchId) (d : Nat) (s : State), (s.branch b).rampDeadline = some d →
      s.now = d ∨ (s.now + 1) % 604800 = d →
      let snapshot := (s.branch b).members.map (fun c => (c, (s.carrier c).state))
      let time := if s.timer.timeValid = true then some d else none
      ((s.branch b).state = .lowering →
        (s.halted = true → exec (.rampDownDeadlineExpiry b) s =
          .next (s.setBranch b ((s.branch b).enter .faulted)))
        ∧ (s.halted = false → s.stack.records.length < 8 → exec (.rampDownDeadlineExpiry b) s =
          .next (((s.setBranch b ((s.branch b).enter .faulted)).setStack
            { s.stack with records := .ofBranch .rampDownStuck b time snapshot :: s.stack.records }).post .plant
              (.fault (.rampDownStuck b))))
        ∧ (s.halted = false → 8 ≤ s.stack.records.length →
          ∃ t, exec (.rampDownDeadlineExpiry b) s = .next t ∧ t.stack.records = s.stack.records
            ∧ t.stack.halt = some { reason := .doubleFault (.rampDownStuck b), time := time }
            ∧ (b ∉ s.arb.queue.map (fun e => e.branch) → (t.branch b).state = .faulted)))
      ∧ ((s.branch b).state = .raising → b ∉ s.arb.queue.map (fun e => e.branch) →
        (b ∈ s.arb.normalHolders → (s.branch b).grant = .normal) →
        ∃ t, exec (.rampUpDeadlineExpiry b) s = .next t ∧ (t.branch b).state = .faulted ∧ t.ben b = true
          ∧ (t.branch b).grant = .none ∧ (t.branch b).rampDeadline = none ∧ (t.branch b).raiseLevel = 0
          ∧ b ∉ t.arb.normalHolders ∧ (s.arb.emergencyHolder = some b → (s.branch b).grant = .emergency →
              t.arb.emergencyHolder ≠ some b)
          ∧ (s.halted = true → t.stack = s.stack)
          ∧ (s.halted = false → s.stack.records.length < 8 →
              t.stack = { s.stack with records := .ofBranch .rampUpFailed b time snapshot :: s.stack.records })
          ∧ (s.halted = false → 8 ≤ s.stack.records.length → t.stack.records = s.stack.records
              ∧ t.stack.halt = some { reason := .doubleFault (.rampUpFailed b), time := time }))

/-! ## Site lines -/

/-- BGD_FALL and BGD_RISE (R51): a line already at the level has no edge (the model's choice, log 2). A fall makes a
LOWERING branch DARK, and QUEUED again where a member is WAKING, a wake was seen or the branch is PINNED (R63); a
POWERED or SETTLING branch is FAULTED, its ON and DRAINING members are WAKING at level 7 not unmuted, its WAKING
members lose their UNMUTE, its RESTING members and every claim set and offer stay (R24, R68), and outside SAFE_HALT
POWER_LOST is pushed. Each owner gets DRAIN_CANCEL (POWER_LOST) for each of its drains that ends, among the DRAINs of
slots freed within the event, and then BRANCH_DOWN for each of its members; what a double fault's halt posts comes
after. A rise makes a RAISING branch POWERED and releases its grant (R66). In every other state an
edge changes the line's level alone. -/
def Obligations.PowerGoodEdgesActOnTheBranch : Prop :=
  (∀ (b : BranchId) (s : State),
      (s.bgd b = false → exec (.bgdFall b) s = .next s) ∧ (s.bgd b = true → exec (.bgdRise b) s = .next s))
    ∧ (∀ (b : BranchId) (s : State), s.bgd b = true →
      ((s.branch b).state ∉ [BranchState.lowering, .powered, .settling] →
        exec (.bgdFall b) s = .next (s.setBgd b false))
      ∧ ((s.branch b).state = .lowering →
        let waking := ∃ c ∈ (s.branch b).members, (s.carrier c).state = .waking
        let again := waking ∨ (s.branch b).wakeSeen = true ∨ (s.branch b).lineMode = .pinned
        let dark := (s.setBgd b false).setBranch b ((s.branch b).enter .dark)
        (again → exec (.bgdFall b) s = .next (dark.enterQueued b (max 1 (s.highestWake b))))
        ∧ (¬ again → exec (.bgdFall b) s = .next dark))
      ∧ ((s.branch b).state = .powered ∨ (s.branch b).state = .settling → b ∉ s.arb.queue.map (fun e => e.branch) →
        ∃ t, exec (.bgdFall b) s = .next t ∧ t.bgd b = false ∧ t.timer = s.timer ∧ OnlyPosts s t
          ∧ t.branch b = (s.branch b).enter .faulted ∧ t.ben b = true
          ∧ (s.halted = true ∨ s.stack.records.length < 8 → ∀ c ∈ (s.branch b).members,
              ((s.carrier c).state = .on ∨ (s.carrier c).state = .draining → t.carrier c =
                { s.carrier c with
                  state := .waking, wakeLevel := some 7, unmuteSent := false, drainDeadline := none,
                  liveDeadline := none, drainChannel := none })
              ∧ ((s.carrier c).state = .waking →
                t.carrier c = { s.carrier c with unmuteSent := false, liveDeadline := none })
              ∧ ((s.carrier c).state = .resting → t.carrier c = s.carrier c))
          ∧ ((s.branch b).members.Pairwise (· < ·) → ∀ tenant, ∃ drains cancelled after,
            let own := (s.branch b).members.filter (fun c => (s.carrier c).ownedBy tenant)
            List.Sublist cancelled own
              ∧ (∀ c ∈ own, (s.carrier c).state = .draining → c ∈ cancelled)
              ∧ (∀ c ∈ cancelled, (s.carrier c).state = .draining
                ∨ ((s.carrier c).state = .on ∧ ∃ deadline, Notice.drain c deadline ∈ drains))
              ∧ drains.filter (fun n => !n.isDrain) = cancelled.map (fun c => Notice.drainCancel c .powerLost)
              ∧ (s.halted = true ∨ s.stack.records.length < 8 → after = [])
              ∧ t.port (.tenant tenant) = (drains ++ own.map (fun c => Notice.branchDown c b) ++ after).foldl
                  PortState.post (s.port (.tenant tenant)))
          ∧ (s.halted = false → s.stack.records.length < 8 → ∃ dones, DonesOnly dones
            ∧ t.port .plant = (dones ++ [Notice.fault (.powerLost b)]).foldl PortState.post (s.port .plant))
          ∧ (s.halted = true → t.stack = s.stack)
          ∧ (s.halted = false → s.stack.records.length < 8 → t.stack = { s.stack with
              records := .ofBranch .powerLost b s.recordedTime
                ((s.branch b).members.map (fun c => (c, (s.carrier c).state))) :: s.stack.records })
          ∧ (s.halted = false → 8 ≤ s.stack.records.length → t.stack.records = s.stack.records
              ∧ t.stack.halt = some { reason := .doubleFault (.powerLost b), time := s.recordedTime })))
    ∧ ∀ (b : BranchId) (s : State), s.bgd b = false →
      ((s.branch b).state ≠ .raising → exec (.bgdRise b) s = .next (s.setBgd b true))
      ∧ ((s.branch b).state = .raising →
        exec (.bgdRise b) s = .next
          ((((((s.setBgd b true).setBranch b ((s.branch b).enter .powered)).setArb
            (s.arb.drop b (s.branch b).grant)).considerGrants).reportPowered b).settleTest b))

/-- A cause that occurs (R145, R146, R151): its flag is set; with start enable no, CAUSE goes to the fleet port where
the flag was clear; with start enable yes, outside SAFE_HALT, a start goes to the target, and the flag is clear at the
end exactly where the target was IDLE and took the start (R147). -/
def Obligations.ACauseSetsItsFlagAndStartsItsTarget : Prop :=
  ∀ (k : SlotId) (s : State),
    let slot := s.slot k
    let flagged := s.setSlot k { slot with flag := true }
    (slot.startEnable = false → slot.flag = true → s.causeOccurs k = flagged)
      ∧ (slot.startEnable = false → slot.flag = false →
          s.causeOccurs k = flagged.post .fleet (.cause k s.now))
      ∧ (slot.startEnable = true → s.halted = true → s.causeOccurs k = flagged)
      ∧ (slot.startEnable = true → s.halted = false → (s.channel slot.target).state ≠ .idle →
          s.causeOccurs k = flagged.setChannel slot.target
            { s.channel slot.target with pendingStart := some (.cause k) })
      ∧ (slot.startEnable = true → s.halted = false → (s.channel slot.target).state = .idle →
          (s.channel slot.target).count ≠ 0 →
          s.causeOccurs k = (s.setChannel slot.target
            { s.channel slot.target with
              state := .stepping, currentSource := some (.cause k), rested := 0, declined := 0, lastReason := none,
              quota := (s.channel slot.target).startQuota }).setSlot k { slot with flag := false })
      ∧ (slot.startEnable = true → s.halted = false → (s.channel slot.target).state = .idle →
          (s.channel slot.target).count = 0 →
          ((s.causeOccurs k).slot k) = { slot with flag := false, startEnable := !slot.disarm }
            ∧ ((s.causeOccurs k).channel slot.target).state = .idle
            ∧ ((s.causeOccurs k).channel slot.target).currentSource = some (.cause k))

/-- EV_EDGE (R153): which changes count, and what a counted one does by the input's role. HOLDAWK_EDGE (R155, R158): what
an active and an inactive edge do in each mode. A line already at the level has no edge (the model's choice, log 2). -/
def Obligations.InputEdgesActByRoleAndMode : Prop :=
  (∀ (i : InputId) (high : Bool) (s : State), s.ev i = high → exec (.evEdge i high) s = .next s)
    ∧ (∀ (i : InputId) (high : Bool) (s : State), s.ev i = !high →
      let changed := s.setEv i high
      let mode := (s.input i).edgeMode
      let counted := mode = .both ∨ (mode = .rising ∧ high = true) ∨ (mode = .falling ∧ high = false)
      (¬ counted → exec (.evEdge i high) s = .next changed)
      ∧ (counted → (s.input i).role = .cause →
        exec (.evEdge i high) s = .next (changed.causeOccurs ⟨8 + i.val, Nat.add_lt_add_left i.isLt 8⟩))
      ∧ (counted → (s.input i).role = .wake →
        exec (.evEdge i high) s = .next (changed.wakeRound
          (fun r => (r.state == .resting || r.state == .draining) && r.provision.any (fun pv =>
            (s.input i).tenantMask.getLsbD pv.owner.val && (s.input i).sectorMask.getLsbD pv.sector.val))
          (s.input i).level).finish))
    ∧ (∀ (high : Bool) (s : State), s.lines.holdawk = high → exec (.holdawkEdge high) s = .next s)
    ∧ ∀ (high : Bool) (s : State), s.lines.holdawk = !high →
      let changed := { s with lines := { s.lines with holdawk := high } }
      let held := changed.setRestHold true
      let released := if s.lines.restHold = true then changed.endRestHold else changed
      let active := high ≠ s.lines.holdInvert
      (s.lines.holdMode = .off → exec (.holdawkEdge high) s = .next changed)
      ∧ (s.lines.holdMode = .level → active → exec (.holdawkEdge high) s = .next held)
      ∧ (s.lines.holdMode = .level → ¬ active → exec (.holdawkEdge high) s = .next released)
      ∧ (s.lines.holdMode = .latch → active → exec (.holdawkEdge high) s = .next held)
      ∧ (s.lines.holdMode = .latch → ¬ active → exec (.holdawkEdge high) s = .next changed)
      ∧ (s.lines.holdMode = .wake → active → exec (.holdawkEdge high) s = .next
          (held.wakeRound (fun r => r.state == .resting || r.state == .draining) 7).finish)
      ∧ (s.lines.holdMode = .wake → ¬ active → exec (.holdawkEdge high) s = .next released)

/-! ## Rest Channels -/

/-- The conditions of a drain start (R8, R44), in the order of Table 1-2. -/
def Obligations.ADrainStartsUnderTheNineConditions : Prop :=
  ∀ (c : CarrierId) (s : State),
    (s.halted = true → s.drainAnswer c = .declined .halted)
    ∧ (s.halted = false → (s.carrier c).state = .vacant → s.drainAnswer c = .declined .vacant)
    ∧ ∀ pv, (s.carrier c).provision = some pv → s.halted = false → (s.carrier c).state ≠ .vacant →
      s.drainAnswer c =
        if (s.carrier c).state ≠ .on then .declined .notOn
        else if (s.carrier c).offered = false then .declined .notOffered
        else if (s.carrier c).claims ≠ 0#5 then .declined .claimed
        else if pv.window.any (fun w => (s.window w).state == .closed) then .declined .windowShut
        else if s.lines.restHold = true then .declined .held
        else if pv.layer = .coverage ∧ s.onCount pv.owner pv.sector ≤ s.floorOf pv.owner pv.sector then .declined .floor
        else if s.drainLimit pv.owner ≤ s.drainingCount pv.owner then .limit pv.owner
        else .started

/-- CHANNEL_STEP (R127, R9, R129): a STEPPING channel outside SAFE_HALT reads the entry at its pointer. NONE and a
decline are counted, a started drain is DRAINING with DRAIN to its owner, and LIMIT leaves the channel BLOCKED in its
place. No other channel state takes a step; a command for one changes nothing (the model's choice, log 2). -/
def Obligations.AChannelStepProcessesOneEntry : Prop :=
  (∀ (k : ChannelId) (s : State), (s.channel k).state ≠ .stepping ∨ s.halted = true →
      exec (.channelStep k) s = .next s)
    ∧ ∀ (k : ChannelId) (entry : Fin 256) (s : State), (s.channel k).state = .stepping → s.halted = false →
      (s.channel k).pointer = entry.val →
      let ch := s.channel k
      let declined := fun reason => s.entryProcessed k { ch with declined := ch.declined + 1, lastReason := some reason }
      (s.rest.list[entry.val] = none → exec (.channelStep k) s = .next (declined .noEntry))
      ∧ ∀ c, s.rest.list[entry.val] = some c →
        (∀ reason, s.drainAnswer c = .declined reason → exec (.channelStep k) s = .next (declined reason))
        ∧ (∀ t, s.drainAnswer c = .limit t →
            exec (.channelStep k) s = .next (s.setChannel k { ch with state := .blocked, waiting := some t }))
        ∧ (∀ pv, (s.carrier c).provision = some pv → s.drainAnswer c = .started →
            exec (.channelStep k) s = .next
              (((s.setCarrier c
                  { s.carrier c with
                    state := .draining, drainDeadline := some ((s.now + s.table.drainTime) % 604800),
                    drainChannel := some k }).post (.tenant pv.owner)
                (.drain c ((s.now + s.table.drainTime) % 604800))).entryProcessed k
                { ch with outstanding := ch.outstanding + 1 }))

/-- R128: quota, count and pointer after a processed entry, in the five legal pairs of R122; then AWAITING once the quota
is spent. R132 and R135: an outcome in SAFE_HALT or in IDLE changes nothing; otherwise outstanding drains fall by one
and the outcome is counted. A start completes where its channel is AWAITING with no drain outstanding, outside
SAFE_HALT: the channel is IDLE with its tallies kept, CHANNEL_DONE goes to the fleet and plant ports where the
completion notice is yes, the cause that started it is disarmed at count 0 (R148), and the outputs following the
channel begin a pulse (R160). Then, at count 0, the link start is delivered to the target (R138), and then the pending
start is taken (R135). A start delivered to a busy channel becomes its one pending start (R125); one taken in IDLE
clears the flag of its cause (R147) and steps, or closes EMPTY with no link at count 0 (R124). -/
def Obligations.EntriesAndOutcomesMoveTheChannel : Prop :=
  (∀ (k : ChannelId) (ch : Channel) (s : State),
    let quota := ch.quota - 1
    let moved := fun count pointer =>
      (s.setChannel k
        { ch with quota := quota, waiting := none, count := count, pointer := pointer,
                  state := if quota = 0 then .awaiting else .stepping }).completeIfDone k
    (ch.mode = .one ∨ ch.mode = .all → ch.pointerMode = .advance →
        s.entryProcessed k ch = moved (ch.count - 1) (ch.pointer + 1))
      ∧ (ch.mode = .one → ch.pointerMode = .hold → s.entryProcessed k ch = moved (ch.count - 1) ch.pointer)
      ∧ (ch.mode = .group → ch.pointerMode = .advance →
          s.entryProcessed k ch = moved (if quota = 0 then ch.count - 1 else ch.count) (ch.pointer + 1))
      ∧ (ch.mode = .group → ch.pointerMode = .rewind →
          s.entryProcessed k ch = moved (if quota = 0 then ch.count - 1 else ch.count)
            (if quota = 0 then ch.pointer + 1 - ch.groupSize else ch.pointer + 1)))
    ∧ ((∀ (k : ChannelId) (o : DrainOutcome) (s : State), s.halted = true ∨ (s.channel k).state = .idle →
      s.drainOutcome k o = s)
    ∧ (∀ (k : ChannelId) (s : State), s.halted = false → (s.channel k).state ≠ .idle →
      let ch := s.channel k
      s.drainOutcome k .rested =
          (s.setChannel k { ch with outstanding := ch.outstanding - 1, rested := ch.rested + 1 }).completeIfDone k
        ∧ s.drainOutcome k .declined =
          (s.setChannel k { ch with outstanding := ch.outstanding - 1, declined := ch.declined + 1 }).completeIfDone k)
    ∧ (∀ (k : ChannelId) (s : State), s.halted = true ∨ (s.channel k).state ≠ .awaiting ∨ (s.channel k).outstanding ≠ 0 →
      s.completeIfDone k = s)
    ∧ (∀ (k : ChannelId) (s : State), s.halted = false → (s.channel k).state = .awaiting →
      (s.channel k).outstanding = 0 →
      let ch := s.channel k
      ∃ closed : State, StartCloses k ch .done s closed ∧
        let linked := if ch.count = 0 ∧ ch.linkEnable = true then closed.deliverStart ch.linkTarget (.link k) else closed
        s.completeIfDone k =
          match (linked.channel k).pendingStart with
          | none => linked
          | some source => (linked.setChannel k { linked.channel k with pendingStart := none }).takeStart k source)
    ∧ ∀ (k : ChannelId) (source : StartSource) (s : State),
      let ch := s.channel k
      let started := { ch with currentSource := some source, rested := 0, declined := 0, lastReason := none }
      (ch.state = .idle → s.deliverStart k source = s.takeStart k source)
        ∧ (ch.state ≠ .idle → s.deliverStart k source = s.setChannel k { ch with pendingStart := some source })
        ∧ (ch.count ≠ 0 → s.takeStart k source =
          (s.setChannel k
            { started with
              state := .stepping,
              quota := match ch.mode with
                | .one => 1
                | .all => ch.count
                | .group => ch.groupSize }).startTaken source)
        ∧ (ch.count = 0 → StartCloses k started .empty (s.startTaken source) (s.takeStart k source)))

/-! ## Invariants -/

/-- The properties below hold right after device reset. -/
def Obligations.TheInvariantsHoldAtReset : Prop :=
  PortsBounded State.reset ∧ StackBounded State.reset ∧ HaltQuiet State.reset ∧ DrainingConsents State.reset
    ∧ CarriersShaped State.reset ∧ BranchesShaped State.reset ∧ HoldersShaped State.reset ∧ QueueShaped State.reset
    ∧ WindowsShaped State.reset ∧ ChannelsShaped State.reset ∧ NoGrantWaits State.reset

/-- The queues of a port keep their sizes, and OVERFLOW stands last exactly while the overflow mark is yes (R183,
R190). -/
def Obligations.PortsStayBounded : Prop := KeptByEveryStep PortsBounded

/-- R166: the stack never holds more than 8 records, and no record is added while halted. -/
def Obligations.TheStackStaysBoundedAndIsFrozenInAHalt : Prop :=
  KeptByEveryStep StackBounded
    ∧ ∀ s t : State, s.halted = true → step s = .next t →
        t.stack.records = [] ∨ ∃ settle : FaultRecord → FaultRecord,
          t.stack.records = s.stack.records.map settle ∧ ∀ r, (settle r).failure = r.failure

/-- R178: in SAFE_HALT no carrier is DRAINING, no branch SETTLING or LOWERING, and every channel is IDLE. -/
def Obligations.AHaltStaysQuiet : Prop := KeptByEveryStep HaltQuiet

/-- A DRAINING carrier stays offered and unclaimed (R7, R33). -/
def Obligations.DrainingCarriersStayConsented : Prop := KeptByEveryStep DrainingConsents

/-- The fields of a carrier record stay as R1 ties them to its state. -/
def Obligations.CarrierRecordsStayShaped : Prop := KeptByEveryStep CarriersShaped

/-- Site time stays a site second, and the window records stay in the ranges of R101: swap pending only while OPEN, and no
window OPEN while time is not valid (R102). -/
def Obligations.WindowsStayShaped : Prop := KeptByEveryStep WindowsShaped

/-- The channel records stay as R119 ties them to their state, and outside SAFE_HALT what is left of a span lies inside
the Rest List (R122) and an IDLE channel has no drain outstanding; with R178, which every step keeps beside it. -/
def Obligations.ChannelsStayShaped : Prop := KeptByEveryStep (fun s => HaltQuiet s ∧ ChannelsShaped s)

/-- After every event, no branch waits at the head of the raise queue that the arbiter could serve (R93, R94). With the
carrier records shaped as R1 gives, the branch records stay as R50 ties them to their state and to their members, the
holders of grants stay the RAISING branches (R90, R95), and the raise queue holds each QUEUED branch once, at its raise
level, in the order of R91. -/
def Obligations.NoServableHeadWaits : Prop :=
  KeptByEveryStep NoGrantWaits
    ∧ KeptByEveryStep (fun s => CarriersShaped s ∧ BranchesShaped s ∧ HoldersShaped s ∧ QueueShaped s)

/-! ## Encoding -/

/-- The frame of a request passes the port's checks and names the request's own command, for every well-formed request
and every value of its operands (R188, R198, R199). -/
def Obligations.RequestFramesNameTheirCommand : Prop :=
  ∀ (i : Instr) (p : Port) (k : RequestKind) (payload : List Byte), requestOf i = some (p, k, payload) →
    i.wellFormed = true → commandOfFrame p (requestFrame k payload) = i

end
end

