-- ==== Sys2Proof/Laws/State.lean ====
section
/-!
SUPPORT. What each named update of State leaves alone, field by field and getter by getter (true by rfl), and what it
puts where it writes. No later proof unfolds a record update.
-/
namespace Sys2Proof.Machine
open Sys2Proof

/-! ### setCarrier -/

@[simp] theorem setCarrier_table_floors (s : State) (c : CarrierId) (r : Carrier) : (s.setCarrier c r).table.floors = s.table.floors := rfl
@[simp] theorem setCarrier_table_drainLimits (s : State) (c : CarrierId) (r : Carrier) : (s.setCarrier c r).table.drainLimits = s.table.drainLimits := rfl
@[simp] theorem setCarrier_table_drainTime (s : State) (c : CarrierId) (r : Carrier) : (s.setCarrier c r).table.drainTime = s.table.drainTime := rfl
@[simp] theorem setCarrier_table_liveTime (s : State) (c : CarrierId) (r : Carrier) : (s.setCarrier c r).table.liveTime = s.table.liveTime := rfl
@[simp] theorem setCarrier_ctrl (s : State) (c : CarrierId) (r : Carrier) : (s.setCarrier c r).ctrl = s.ctrl := rfl
@[simp] theorem setCarrier_arb (s : State) (c : CarrierId) (r : Carrier) : (s.setCarrier c r).arb = s.arb := rfl
@[simp] theorem setCarrier_timer (s : State) (c : CarrierId) (r : Carrier) : (s.setCarrier c r).timer = s.timer := rfl
@[simp] theorem setCarrier_rest (s : State) (c : CarrierId) (r : Carrier) : (s.setCarrier c r).rest = s.rest := rfl
@[simp] theorem setCarrier_lines (s : State) (c : CarrierId) (r : Carrier) : (s.setCarrier c r).lines = s.lines := rfl
@[simp] theorem setCarrier_stack (s : State) (c : CarrierId) (r : Carrier) : (s.setCarrier c r).stack = s.stack := rfl
@[simp] theorem setCarrier_ports (s : State) (c : CarrierId) (r : Carrier) : (s.setCarrier c r).ports = s.ports := rfl
@[simp] theorem setCarrier_resetting (s : State) (c : CarrierId) (r : Carrier) : (s.setCarrier c r).resetting = s.resetting := rfl
@[simp] theorem setCarrier_haltDraws (s : State) (c : CarrierId) (r : Carrier) : (s.setCarrier c r).haltDraws = s.haltDraws := rfl
@[simp] theorem setCarrier_pending (s : State) (c : CarrierId) (r : Carrier) : (s.setCarrier c r).pending = s.pending := rfl
@[simp] theorem setCarrier_floorOf (s : State) (c : CarrierId) (r : Carrier) (x : TenantId) (y : SectorId) : (s.setCarrier c r).floorOf x y = s.floorOf x y := rfl
@[simp] theorem setCarrier_drainLimit (s : State) (c : CarrierId) (r : Carrier) (x : TenantId) : (s.setCarrier c r).drainLimit x = s.drainLimit x := rfl
@[simp] theorem setCarrier_branch (s : State) (c : CarrierId) (r : Carrier) (x : BranchId) : (s.setCarrier c r).branch x = s.branch x := rfl
@[simp] theorem setCarrier_bgd_get (s : State) (c : CarrierId) (r : Carrier) (x : BranchId) : (s.setCarrier c r).bgd x = s.bgd x := rfl
@[simp] theorem setCarrier_window (s : State) (c : CarrierId) (r : Carrier) (x : WindowId) : (s.setCarrier c r).window x = s.window x := rfl
@[simp] theorem setCarrier_now (s : State) (c : CarrierId) (r : Carrier) : (s.setCarrier c r).now = s.now := rfl
@[simp] theorem setCarrier_recordedTime (s : State) (c : CarrierId) (r : Carrier) : (s.setCarrier c r).recordedTime = s.recordedTime := rfl
@[simp] theorem setCarrier_channel (s : State) (c : CarrierId) (r : Carrier) (x : ChannelId) : (s.setCarrier c r).channel x = s.channel x := rfl
@[simp] theorem setCarrier_slot (s : State) (c : CarrierId) (r : Carrier) (x : SlotId) : (s.setCarrier c r).slot x = s.slot x := rfl
@[simp] theorem setCarrier_input (s : State) (c : CarrierId) (r : Carrier) (x : InputId) : (s.setCarrier c r).input x = s.input x := rfl
@[simp] theorem setCarrier_ev_get (s : State) (c : CarrierId) (r : Carrier) (x : InputId) : (s.setCarrier c r).ev x = s.ev x := rfl
@[simp] theorem setCarrier_output (s : State) (c : CarrierId) (r : Carrier) (x : OutputId) : (s.setCarrier c r).output x = s.output x := rfl
@[simp] theorem setCarrier_halted (s : State) (c : CarrierId) (r : Carrier) : (s.setCarrier c r).halted = s.halted := rfl
@[simp] theorem setCarrier_port (s : State) (c : CarrierId) (r : Carrier) (x : Port) : (s.setCarrier c r).port x = s.port x := rfl

/-! ### setFloorOf -/

@[simp] theorem setFloorOf_table_carriers (s : State) (t : TenantId) (sec : SectorId) (n : Nat) : (s.setFloorOf t sec n).table.carriers = s.table.carriers := rfl
@[simp] theorem setFloorOf_table_drainLimits (s : State) (t : TenantId) (sec : SectorId) (n : Nat) : (s.setFloorOf t sec n).table.drainLimits = s.table.drainLimits := rfl
@[simp] theorem setFloorOf_table_drainTime (s : State) (t : TenantId) (sec : SectorId) (n : Nat) : (s.setFloorOf t sec n).table.drainTime = s.table.drainTime := rfl
@[simp] theorem setFloorOf_table_liveTime (s : State) (t : TenantId) (sec : SectorId) (n : Nat) : (s.setFloorOf t sec n).table.liveTime = s.table.liveTime := rfl
@[simp] theorem setFloorOf_ctrl (s : State) (t : TenantId) (sec : SectorId) (n : Nat) : (s.setFloorOf t sec n).ctrl = s.ctrl := rfl
@[simp] theorem setFloorOf_arb (s : State) (t : TenantId) (sec : SectorId) (n : Nat) : (s.setFloorOf t sec n).arb = s.arb := rfl
@[simp] theorem setFloorOf_timer (s : State) (t : TenantId) (sec : SectorId) (n : Nat) : (s.setFloorOf t sec n).timer = s.timer := rfl
@[simp] theorem setFloorOf_rest (s : State) (t : TenantId) (sec : SectorId) (n : Nat) : (s.setFloorOf t sec n).rest = s.rest := rfl
@[simp] theorem setFloorOf_lines (s : State) (t : TenantId) (sec : SectorId) (n : Nat) : (s.setFloorOf t sec n).lines = s.lines := rfl
@[simp] theorem setFloorOf_stack (s : State) (t : TenantId) (sec : SectorId) (n : Nat) : (s.setFloorOf t sec n).stack = s.stack := rfl
@[simp] theorem setFloorOf_ports (s : State) (t : TenantId) (sec : SectorId) (n : Nat) : (s.setFloorOf t sec n).ports = s.ports := rfl
@[simp] theorem setFloorOf_resetting (s : State) (t : TenantId) (sec : SectorId) (n : Nat) : (s.setFloorOf t sec n).resetting = s.resetting := rfl
@[simp] theorem setFloorOf_haltDraws (s : State) (t : TenantId) (sec : SectorId) (n : Nat) : (s.setFloorOf t sec n).haltDraws = s.haltDraws := rfl
@[simp] theorem setFloorOf_pending (s : State) (t : TenantId) (sec : SectorId) (n : Nat) : (s.setFloorOf t sec n).pending = s.pending := rfl
@[simp] theorem setFloorOf_carrier (s : State) (t : TenantId) (sec : SectorId) (n : Nat) (x : CarrierId) : (s.setFloorOf t sec n).carrier x = s.carrier x := rfl
@[simp] theorem setFloorOf_drainLimit (s : State) (t : TenantId) (sec : SectorId) (n : Nat) (x : TenantId) : (s.setFloorOf t sec n).drainLimit x = s.drainLimit x := rfl
@[simp] theorem setFloorOf_branch (s : State) (t : TenantId) (sec : SectorId) (n : Nat) (x : BranchId) : (s.setFloorOf t sec n).branch x = s.branch x := rfl
@[simp] theorem setFloorOf_bgd_get (s : State) (t : TenantId) (sec : SectorId) (n : Nat) (x : BranchId) : (s.setFloorOf t sec n).bgd x = s.bgd x := rfl
@[simp] theorem setFloorOf_window (s : State) (t : TenantId) (sec : SectorId) (n : Nat) (x : WindowId) : (s.setFloorOf t sec n).window x = s.window x := rfl
@[simp] theorem setFloorOf_now (s : State) (t : TenantId) (sec : SectorId) (n : Nat) : (s.setFloorOf t sec n).now = s.now := rfl
@[simp] theorem setFloorOf_recordedTime (s : State) (t : TenantId) (sec : SectorId) (n : Nat) : (s.setFloorOf t sec n).recordedTime = s.recordedTime := rfl
@[simp] theorem setFloorOf_channel (s : State) (t : TenantId) (sec : SectorId) (n : Nat) (x : ChannelId) : (s.setFloorOf t sec n).channel x = s.channel x := rfl
@[simp] theorem setFloorOf_slot (s : State) (t : TenantId) (sec : SectorId) (n : Nat) (x : SlotId) : (s.setFloorOf t sec n).slot x = s.slot x := rfl
@[simp] theorem setFloorOf_input (s : State) (t : TenantId) (sec : SectorId) (n : Nat) (x : InputId) : (s.setFloorOf t sec n).input x = s.input x := rfl
@[simp] theorem setFloorOf_ev_get (s : State) (t : TenantId) (sec : SectorId) (n : Nat) (x : InputId) : (s.setFloorOf t sec n).ev x = s.ev x := rfl
@[simp] theorem setFloorOf_output (s : State) (t : TenantId) (sec : SectorId) (n : Nat) (x : OutputId) : (s.setFloorOf t sec n).output x = s.output x := rfl
@[simp] theorem setFloorOf_halted (s : State) (t : TenantId) (sec : SectorId) (n : Nat) : (s.setFloorOf t sec n).halted = s.halted := rfl
@[simp] theorem setFloorOf_port (s : State) (t : TenantId) (sec : SectorId) (n : Nat) (x : Port) : (s.setFloorOf t sec n).port x = s.port x := rfl

/-! ### setDrainLimit -/

@[simp] theorem setDrainLimit_table_carriers (s : State) (t : TenantId) (n : Nat) : (s.setDrainLimit t n).table.carriers = s.table.carriers := rfl
@[simp] theorem setDrainLimit_table_floors (s : State) (t : TenantId) (n : Nat) : (s.setDrainLimit t n).table.floors = s.table.floors := rfl
@[simp] theorem setDrainLimit_table_drainTime (s : State) (t : TenantId) (n : Nat) : (s.setDrainLimit t n).table.drainTime = s.table.drainTime := rfl
@[simp] theorem setDrainLimit_table_liveTime (s : State) (t : TenantId) (n : Nat) : (s.setDrainLimit t n).table.liveTime = s.table.liveTime := rfl
@[simp] theorem setDrainLimit_ctrl (s : State) (t : TenantId) (n : Nat) : (s.setDrainLimit t n).ctrl = s.ctrl := rfl
@[simp] theorem setDrainLimit_arb (s : State) (t : TenantId) (n : Nat) : (s.setDrainLimit t n).arb = s.arb := rfl
@[simp] theorem setDrainLimit_timer (s : State) (t : TenantId) (n : Nat) : (s.setDrainLimit t n).timer = s.timer := rfl
@[simp] theorem setDrainLimit_rest (s : State) (t : TenantId) (n : Nat) : (s.setDrainLimit t n).rest = s.rest := rfl
@[simp] theorem setDrainLimit_lines (s : State) (t : TenantId) (n : Nat) : (s.setDrainLimit t n).lines = s.lines := rfl
@[simp] theorem setDrainLimit_stack (s : State) (t : TenantId) (n : Nat) : (s.setDrainLimit t n).stack = s.stack := rfl
@[simp] theorem setDrainLimit_ports (s : State) (t : TenantId) (n : Nat) : (s.setDrainLimit t n).ports = s.ports := rfl
@[simp] theorem setDrainLimit_resetting (s : State) (t : TenantId) (n : Nat) : (s.setDrainLimit t n).resetting = s.resetting := rfl
@[simp] theorem setDrainLimit_haltDraws (s : State) (t : TenantId) (n : Nat) : (s.setDrainLimit t n).haltDraws = s.haltDraws := rfl
@[simp] theorem setDrainLimit_pending (s : State) (t : TenantId) (n : Nat) : (s.setDrainLimit t n).pending = s.pending := rfl
@[simp] theorem setDrainLimit_carrier (s : State) (t : TenantId) (n : Nat) (x : CarrierId) : (s.setDrainLimit t n).carrier x = s.carrier x := rfl
@[simp] theorem setDrainLimit_floorOf (s : State) (t : TenantId) (n : Nat) (x : TenantId) (y : SectorId) : (s.setDrainLimit t n).floorOf x y = s.floorOf x y := rfl
@[simp] theorem setDrainLimit_branch (s : State) (t : TenantId) (n : Nat) (x : BranchId) : (s.setDrainLimit t n).branch x = s.branch x := rfl
@[simp] theorem setDrainLimit_bgd_get (s : State) (t : TenantId) (n : Nat) (x : BranchId) : (s.setDrainLimit t n).bgd x = s.bgd x := rfl
@[simp] theorem setDrainLimit_window (s : State) (t : TenantId) (n : Nat) (x : WindowId) : (s.setDrainLimit t n).window x = s.window x := rfl
@[simp] theorem setDrainLimit_now (s : State) (t : TenantId) (n : Nat) : (s.setDrainLimit t n).now = s.now := rfl
@[simp] theorem setDrainLimit_recordedTime (s : State) (t : TenantId) (n : Nat) : (s.setDrainLimit t n).recordedTime = s.recordedTime := rfl
@[simp] theorem setDrainLimit_channel (s : State) (t : TenantId) (n : Nat) (x : ChannelId) : (s.setDrainLimit t n).channel x = s.channel x := rfl
@[simp] theorem setDrainLimit_slot (s : State) (t : TenantId) (n : Nat) (x : SlotId) : (s.setDrainLimit t n).slot x = s.slot x := rfl
@[simp] theorem setDrainLimit_input (s : State) (t : TenantId) (n : Nat) (x : InputId) : (s.setDrainLimit t n).input x = s.input x := rfl
@[simp] theorem setDrainLimit_ev_get (s : State) (t : TenantId) (n : Nat) (x : InputId) : (s.setDrainLimit t n).ev x = s.ev x := rfl
@[simp] theorem setDrainLimit_output (s : State) (t : TenantId) (n : Nat) (x : OutputId) : (s.setDrainLimit t n).output x = s.output x := rfl
@[simp] theorem setDrainLimit_halted (s : State) (t : TenantId) (n : Nat) : (s.setDrainLimit t n).halted = s.halted := rfl
@[simp] theorem setDrainLimit_port (s : State) (t : TenantId) (n : Nat) (x : Port) : (s.setDrainLimit t n).port x = s.port x := rfl

/-! ### setBranch -/

@[simp] theorem setBranch_table (s : State) (b : BranchId) (r : Branch) : (s.setBranch b r).table = s.table := rfl
@[simp] theorem setBranch_ctrl_linger (s : State) (b : BranchId) (r : Branch) : (s.setBranch b r).ctrl.linger = s.ctrl.linger := rfl
@[simp] theorem setBranch_ctrl_rampDown (s : State) (b : BranchId) (r : Branch) : (s.setBranch b r).ctrl.rampDown = s.ctrl.rampDown := rfl
@[simp] theorem setBranch_ctrl_rampUp (s : State) (b : BranchId) (r : Branch) : (s.setBranch b r).ctrl.rampUp = s.ctrl.rampUp := rfl
@[simp] theorem setBranch_ctrl_bgd (s : State) (b : BranchId) (r : Branch) : (s.setBranch b r).ctrl.bgd = s.ctrl.bgd := rfl
@[simp] theorem setBranch_arb (s : State) (b : BranchId) (r : Branch) : (s.setBranch b r).arb = s.arb := rfl
@[simp] theorem setBranch_timer (s : State) (b : BranchId) (r : Branch) : (s.setBranch b r).timer = s.timer := rfl
@[simp] theorem setBranch_rest (s : State) (b : BranchId) (r : Branch) : (s.setBranch b r).rest = s.rest := rfl
@[simp] theorem setBranch_lines (s : State) (b : BranchId) (r : Branch) : (s.setBranch b r).lines = s.lines := rfl
@[simp] theorem setBranch_stack (s : State) (b : BranchId) (r : Branch) : (s.setBranch b r).stack = s.stack := rfl
@[simp] theorem setBranch_ports (s : State) (b : BranchId) (r : Branch) : (s.setBranch b r).ports = s.ports := rfl
@[simp] theorem setBranch_resetting (s : State) (b : BranchId) (r : Branch) : (s.setBranch b r).resetting = s.resetting := rfl
@[simp] theorem setBranch_haltDraws (s : State) (b : BranchId) (r : Branch) : (s.setBranch b r).haltDraws = s.haltDraws := rfl
@[simp] theorem setBranch_pending (s : State) (b : BranchId) (r : Branch) : (s.setBranch b r).pending = s.pending := rfl
@[simp] theorem setBranch_carrier (s : State) (b : BranchId) (r : Branch) (x : CarrierId) : (s.setBranch b r).carrier x = s.carrier x := rfl
@[simp] theorem setBranch_floorOf (s : State) (b : BranchId) (r : Branch) (x : TenantId) (y : SectorId) : (s.setBranch b r).floorOf x y = s.floorOf x y := rfl
@[simp] theorem setBranch_drainLimit (s : State) (b : BranchId) (r : Branch) (x : TenantId) : (s.setBranch b r).drainLimit x = s.drainLimit x := rfl
@[simp] theorem setBranch_bgd_get (s : State) (b : BranchId) (r : Branch) (x : BranchId) : (s.setBranch b r).bgd x = s.bgd x := rfl
@[simp] theorem setBranch_window (s : State) (b : BranchId) (r : Branch) (x : WindowId) : (s.setBranch b r).window x = s.window x := rfl
@[simp] theorem setBranch_now (s : State) (b : BranchId) (r : Branch) : (s.setBranch b r).now = s.now := rfl
@[simp] theorem setBranch_recordedTime (s : State) (b : BranchId) (r : Branch) : (s.setBranch b r).recordedTime = s.recordedTime := rfl
@[simp] theorem setBranch_channel (s : State) (b : BranchId) (r : Branch) (x : ChannelId) : (s.setBranch b r).channel x = s.channel x := rfl
@[simp] theorem setBranch_slot (s : State) (b : BranchId) (r : Branch) (x : SlotId) : (s.setBranch b r).slot x = s.slot x := rfl
@[simp] theorem setBranch_input (s : State) (b : BranchId) (r : Branch) (x : InputId) : (s.setBranch b r).input x = s.input x := rfl
@[simp] theorem setBranch_ev_get (s : State) (b : BranchId) (r : Branch) (x : InputId) : (s.setBranch b r).ev x = s.ev x := rfl
@[simp] theorem setBranch_output (s : State) (b : BranchId) (r : Branch) (x : OutputId) : (s.setBranch b r).output x = s.output x := rfl
@[simp] theorem setBranch_halted (s : State) (b : BranchId) (r : Branch) : (s.setBranch b r).halted = s.halted := rfl
@[simp] theorem setBranch_port (s : State) (b : BranchId) (r : Branch) (x : Port) : (s.setBranch b r).port x = s.port x := rfl

/-! ### setBgd -/

@[simp] theorem setBgd_table (s : State) (b : BranchId) (high : Bool) : (s.setBgd b high).table = s.table := rfl
@[simp] theorem setBgd_ctrl_branches (s : State) (b : BranchId) (high : Bool) : (s.setBgd b high).ctrl.branches = s.ctrl.branches := rfl
@[simp] theorem setBgd_ctrl_linger (s : State) (b : BranchId) (high : Bool) : (s.setBgd b high).ctrl.linger = s.ctrl.linger := rfl
@[simp] theorem setBgd_ctrl_rampDown (s : State) (b : BranchId) (high : Bool) : (s.setBgd b high).ctrl.rampDown = s.ctrl.rampDown := rfl
@[simp] theorem setBgd_ctrl_rampUp (s : State) (b : BranchId) (high : Bool) : (s.setBgd b high).ctrl.rampUp = s.ctrl.rampUp := rfl
@[simp] theorem setBgd_arb (s : State) (b : BranchId) (high : Bool) : (s.setBgd b high).arb = s.arb := rfl
@[simp] theorem setBgd_timer (s : State) (b : BranchId) (high : Bool) : (s.setBgd b high).timer = s.timer := rfl
@[simp] theorem setBgd_rest (s : State) (b : BranchId) (high : Bool) : (s.setBgd b high).rest = s.rest := rfl
@[simp] theorem setBgd_lines (s : State) (b : BranchId) (high : Bool) : (s.setBgd b high).lines = s.lines := rfl
@[simp] theorem setBgd_stack (s : State) (b : BranchId) (high : Bool) : (s.setBgd b high).stack = s.stack := rfl
@[simp] theorem setBgd_ports (s : State) (b : BranchId) (high : Bool) : (s.setBgd b high).ports = s.ports := rfl
@[simp] theorem setBgd_resetting (s : State) (b : BranchId) (high : Bool) : (s.setBgd b high).resetting = s.resetting := rfl
@[simp] theorem setBgd_haltDraws (s : State) (b : BranchId) (high : Bool) : (s.setBgd b high).haltDraws = s.haltDraws := rfl
@[simp] theorem setBgd_pending (s : State) (b : BranchId) (high : Bool) : (s.setBgd b high).pending = s.pending := rfl
@[simp] theorem setBgd_carrier (s : State) (b : BranchId) (high : Bool) (x : CarrierId) : (s.setBgd b high).carrier x = s.carrier x := rfl
@[simp] theorem setBgd_floorOf (s : State) (b : BranchId) (high : Bool) (x : TenantId) (y : SectorId) : (s.setBgd b high).floorOf x y = s.floorOf x y := rfl
@[simp] theorem setBgd_drainLimit (s : State) (b : BranchId) (high : Bool) (x : TenantId) : (s.setBgd b high).drainLimit x = s.drainLimit x := rfl
@[simp] theorem setBgd_branch (s : State) (b : BranchId) (high : Bool) (x : BranchId) : (s.setBgd b high).branch x = s.branch x := rfl
@[simp] theorem setBgd_window (s : State) (b : BranchId) (high : Bool) (x : WindowId) : (s.setBgd b high).window x = s.window x := rfl
@[simp] theorem setBgd_now (s : State) (b : BranchId) (high : Bool) : (s.setBgd b high).now = s.now := rfl
@[simp] theorem setBgd_recordedTime (s : State) (b : BranchId) (high : Bool) : (s.setBgd b high).recordedTime = s.recordedTime := rfl
@[simp] theorem setBgd_channel (s : State) (b : BranchId) (high : Bool) (x : ChannelId) : (s.setBgd b high).channel x = s.channel x := rfl
@[simp] theorem setBgd_slot (s : State) (b : BranchId) (high : Bool) (x : SlotId) : (s.setBgd b high).slot x = s.slot x := rfl
@[simp] theorem setBgd_input (s : State) (b : BranchId) (high : Bool) (x : InputId) : (s.setBgd b high).input x = s.input x := rfl
@[simp] theorem setBgd_ev_get (s : State) (b : BranchId) (high : Bool) (x : InputId) : (s.setBgd b high).ev x = s.ev x := rfl
@[simp] theorem setBgd_output (s : State) (b : BranchId) (high : Bool) (x : OutputId) : (s.setBgd b high).output x = s.output x := rfl
@[simp] theorem setBgd_halted (s : State) (b : BranchId) (high : Bool) : (s.setBgd b high).halted = s.halted := rfl
@[simp] theorem setBgd_port (s : State) (b : BranchId) (high : Bool) (x : Port) : (s.setBgd b high).port x = s.port x := rfl

/-! ### setArb -/

@[simp] theorem setArb_table (s : State) (a : Arbiter) : (s.setArb a).table = s.table := rfl
@[simp] theorem setArb_ctrl (s : State) (a : Arbiter) : (s.setArb a).ctrl = s.ctrl := rfl
@[simp] theorem setArb_timer (s : State) (a : Arbiter) : (s.setArb a).timer = s.timer := rfl
@[simp] theorem setArb_rest (s : State) (a : Arbiter) : (s.setArb a).rest = s.rest := rfl
@[simp] theorem setArb_lines (s : State) (a : Arbiter) : (s.setArb a).lines = s.lines := rfl
@[simp] theorem setArb_stack (s : State) (a : Arbiter) : (s.setArb a).stack = s.stack := rfl
@[simp] theorem setArb_ports (s : State) (a : Arbiter) : (s.setArb a).ports = s.ports := rfl
@[simp] theorem setArb_resetting (s : State) (a : Arbiter) : (s.setArb a).resetting = s.resetting := rfl
@[simp] theorem setArb_haltDraws (s : State) (a : Arbiter) : (s.setArb a).haltDraws = s.haltDraws := rfl
@[simp] theorem setArb_pending (s : State) (a : Arbiter) : (s.setArb a).pending = s.pending := rfl
@[simp] theorem setArb_carrier (s : State) (a : Arbiter) (x : CarrierId) : (s.setArb a).carrier x = s.carrier x := rfl
@[simp] theorem setArb_floorOf (s : State) (a : Arbiter) (x : TenantId) (y : SectorId) : (s.setArb a).floorOf x y = s.floorOf x y := rfl
@[simp] theorem setArb_drainLimit (s : State) (a : Arbiter) (x : TenantId) : (s.setArb a).drainLimit x = s.drainLimit x := rfl
@[simp] theorem setArb_branch (s : State) (a : Arbiter) (x : BranchId) : (s.setArb a).branch x = s.branch x := rfl
@[simp] theorem setArb_bgd_get (s : State) (a : Arbiter) (x : BranchId) : (s.setArb a).bgd x = s.bgd x := rfl
@[simp] theorem setArb_window (s : State) (a : Arbiter) (x : WindowId) : (s.setArb a).window x = s.window x := rfl
@[simp] theorem setArb_now (s : State) (a : Arbiter) : (s.setArb a).now = s.now := rfl
@[simp] theorem setArb_recordedTime (s : State) (a : Arbiter) : (s.setArb a).recordedTime = s.recordedTime := rfl
@[simp] theorem setArb_channel (s : State) (a : Arbiter) (x : ChannelId) : (s.setArb a).channel x = s.channel x := rfl
@[simp] theorem setArb_slot (s : State) (a : Arbiter) (x : SlotId) : (s.setArb a).slot x = s.slot x := rfl
@[simp] theorem setArb_input (s : State) (a : Arbiter) (x : InputId) : (s.setArb a).input x = s.input x := rfl
@[simp] theorem setArb_ev_get (s : State) (a : Arbiter) (x : InputId) : (s.setArb a).ev x = s.ev x := rfl
@[simp] theorem setArb_output (s : State) (a : Arbiter) (x : OutputId) : (s.setArb a).output x = s.output x := rfl
@[simp] theorem setArb_halted (s : State) (a : Arbiter) : (s.setArb a).halted = s.halted := rfl
@[simp] theorem setArb_port (s : State) (a : Arbiter) (x : Port) : (s.setArb a).port x = s.port x := rfl

/-! ### setWindow -/

@[simp] theorem setWindow_table (s : State) (w : WindowId) (r : Window) : (s.setWindow w r).table = s.table := rfl
@[simp] theorem setWindow_ctrl (s : State) (w : WindowId) (r : Window) : (s.setWindow w r).ctrl = s.ctrl := rfl
@[simp] theorem setWindow_arb (s : State) (w : WindowId) (r : Window) : (s.setWindow w r).arb = s.arb := rfl
@[simp] theorem setWindow_timer_siteTime (s : State) (w : WindowId) (r : Window) : (s.setWindow w r).timer.siteTime = s.timer.siteTime := rfl
@[simp] theorem setWindow_timer_timeValid (s : State) (w : WindowId) (r : Window) : (s.setWindow w r).timer.timeValid = s.timer.timeValid := rfl
@[simp] theorem setWindow_rest (s : State) (w : WindowId) (r : Window) : (s.setWindow w r).rest = s.rest := rfl
@[simp] theorem setWindow_lines (s : State) (w : WindowId) (r : Window) : (s.setWindow w r).lines = s.lines := rfl
@[simp] theorem setWindow_stack (s : State) (w : WindowId) (r : Window) : (s.setWindow w r).stack = s.stack := rfl
@[simp] theorem setWindow_ports (s : State) (w : WindowId) (r : Window) : (s.setWindow w r).ports = s.ports := rfl
@[simp] theorem setWindow_resetting (s : State) (w : WindowId) (r : Window) : (s.setWindow w r).resetting = s.resetting := rfl
@[simp] theorem setWindow_haltDraws (s : State) (w : WindowId) (r : Window) : (s.setWindow w r).haltDraws = s.haltDraws := rfl
@[simp] theorem setWindow_pending (s : State) (w : WindowId) (r : Window) : (s.setWindow w r).pending = s.pending := rfl
@[simp] theorem setWindow_carrier (s : State) (w : WindowId) (r : Window) (x : CarrierId) : (s.setWindow w r).carrier x = s.carrier x := rfl
@[simp] theorem setWindow_floorOf (s : State) (w : WindowId) (r : Window) (x : TenantId) (y : SectorId) : (s.setWindow w r).floorOf x y = s.floorOf x y := rfl
@[simp] theorem setWindow_drainLimit (s : State) (w : WindowId) (r : Window) (x : TenantId) : (s.setWindow w r).drainLimit x = s.drainLimit x := rfl
@[simp] theorem setWindow_branch (s : State) (w : WindowId) (r : Window) (x : BranchId) : (s.setWindow w r).branch x = s.branch x := rfl
@[simp] theorem setWindow_bgd_get (s : State) (w : WindowId) (r : Window) (x : BranchId) : (s.setWindow w r).bgd x = s.bgd x := rfl
@[simp] theorem setWindow_now (s : State) (w : WindowId) (r : Window) : (s.setWindow w r).now = s.now := rfl
@[simp] theorem setWindow_recordedTime (s : State) (w : WindowId) (r : Window) : (s.setWindow w r).recordedTime = s.recordedTime := rfl
@[simp] theorem setWindow_channel (s : State) (w : WindowId) (r : Window) (x : ChannelId) : (s.setWindow w r).channel x = s.channel x := rfl
@[simp] theorem setWindow_slot (s : State) (w : WindowId) (r : Window) (x : SlotId) : (s.setWindow w r).slot x = s.slot x := rfl
@[simp] theorem setWindow_input (s : State) (w : WindowId) (r : Window) (x : InputId) : (s.setWindow w r).input x = s.input x := rfl
@[simp] theorem setWindow_ev_get (s : State) (w : WindowId) (r : Window) (x : InputId) : (s.setWindow w r).ev x = s.ev x := rfl
@[simp] theorem setWindow_output (s : State) (w : WindowId) (r : Window) (x : OutputId) : (s.setWindow w r).output x = s.output x := rfl
@[simp] theorem setWindow_halted (s : State) (w : WindowId) (r : Window) : (s.setWindow w r).halted = s.halted := rfl
@[simp] theorem setWindow_port (s : State) (w : WindowId) (r : Window) (x : Port) : (s.setWindow w r).port x = s.port x := rfl

/-! ### setSiteTime -/

@[simp] theorem setSiteTime_table (s : State) (n : Nat) : (s.setSiteTime n).table = s.table := rfl
@[simp] theorem setSiteTime_ctrl (s : State) (n : Nat) : (s.setSiteTime n).ctrl = s.ctrl := rfl
@[simp] theorem setSiteTime_arb (s : State) (n : Nat) : (s.setSiteTime n).arb = s.arb := rfl
@[simp] theorem setSiteTime_timer_timeValid (s : State) (n : Nat) : (s.setSiteTime n).timer.timeValid = s.timer.timeValid := rfl
@[simp] theorem setSiteTime_timer_windows (s : State) (n : Nat) : (s.setSiteTime n).timer.windows = s.timer.windows := rfl
@[simp] theorem setSiteTime_rest (s : State) (n : Nat) : (s.setSiteTime n).rest = s.rest := rfl
@[simp] theorem setSiteTime_lines (s : State) (n : Nat) : (s.setSiteTime n).lines = s.lines := rfl
@[simp] theorem setSiteTime_stack (s : State) (n : Nat) : (s.setSiteTime n).stack = s.stack := rfl
@[simp] theorem setSiteTime_ports (s : State) (n : Nat) : (s.setSiteTime n).ports = s.ports := rfl
@[simp] theorem setSiteTime_resetting (s : State) (n : Nat) : (s.setSiteTime n).resetting = s.resetting := rfl
@[simp] theorem setSiteTime_haltDraws (s : State) (n : Nat) : (s.setSiteTime n).haltDraws = s.haltDraws := rfl
@[simp] theorem setSiteTime_pending (s : State) (n : Nat) : (s.setSiteTime n).pending = s.pending := rfl
@[simp] theorem setSiteTime_carrier (s : State) (n : Nat) (x : CarrierId) : (s.setSiteTime n).carrier x = s.carrier x := rfl
@[simp] theorem setSiteTime_floorOf (s : State) (n : Nat) (x : TenantId) (y : SectorId) : (s.setSiteTime n).floorOf x y = s.floorOf x y := rfl
@[simp] theorem setSiteTime_drainLimit (s : State) (n : Nat) (x : TenantId) : (s.setSiteTime n).drainLimit x = s.drainLimit x := rfl
@[simp] theorem setSiteTime_branch (s : State) (n : Nat) (x : BranchId) : (s.setSiteTime n).branch x = s.branch x := rfl
@[simp] theorem setSiteTime_bgd_get (s : State) (n : Nat) (x : BranchId) : (s.setSiteTime n).bgd x = s.bgd x := rfl
@[simp] theorem setSiteTime_window (s : State) (n : Nat) (x : WindowId) : (s.setSiteTime n).window x = s.window x := rfl
@[simp] theorem setSiteTime_channel (s : State) (n : Nat) (x : ChannelId) : (s.setSiteTime n).channel x = s.channel x := rfl
@[simp] theorem setSiteTime_slot (s : State) (n : Nat) (x : SlotId) : (s.setSiteTime n).slot x = s.slot x := rfl
@[simp] theorem setSiteTime_input (s : State) (n : Nat) (x : InputId) : (s.setSiteTime n).input x = s.input x := rfl
@[simp] theorem setSiteTime_ev_get (s : State) (n : Nat) (x : InputId) : (s.setSiteTime n).ev x = s.ev x := rfl
@[simp] theorem setSiteTime_output (s : State) (n : Nat) (x : OutputId) : (s.setSiteTime n).output x = s.output x := rfl
@[simp] theorem setSiteTime_halted (s : State) (n : Nat) : (s.setSiteTime n).halted = s.halted := rfl
@[simp] theorem setSiteTime_port (s : State) (n : Nat) (x : Port) : (s.setSiteTime n).port x = s.port x := rfl

/-! ### setChannel -/

@[simp] theorem setChannel_table (s : State) (k : ChannelId) (r : Channel) : (s.setChannel k r).table = s.table := rfl
@[simp] theorem setChannel_ctrl (s : State) (k : ChannelId) (r : Channel) : (s.setChannel k r).ctrl = s.ctrl := rfl
@[simp] theorem setChannel_arb (s : State) (k : ChannelId) (r : Channel) : (s.setChannel k r).arb = s.arb := rfl
@[simp] theorem setChannel_timer (s : State) (k : ChannelId) (r : Channel) : (s.setChannel k r).timer = s.timer := rfl
@[simp] theorem setChannel_rest_list (s : State) (k : ChannelId) (r : Channel) : (s.setChannel k r).rest.list = s.rest.list := rfl
@[simp] theorem setChannel_lines (s : State) (k : ChannelId) (r : Channel) : (s.setChannel k r).lines = s.lines := rfl
@[simp] theorem setChannel_stack (s : State) (k : ChannelId) (r : Channel) : (s.setChannel k r).stack = s.stack := rfl
@[simp] theorem setChannel_ports (s : State) (k : ChannelId) (r : Channel) : (s.setChannel k r).ports = s.ports := rfl
@[simp] theorem setChannel_resetting (s : State) (k : ChannelId) (r : Channel) : (s.setChannel k r).resetting = s.resetting := rfl
@[simp] theorem setChannel_haltDraws (s : State) (k : ChannelId) (r : Channel) : (s.setChannel k r).haltDraws = s.haltDraws := rfl
@[simp] theorem setChannel_pending (s : State) (k : ChannelId) (r : Channel) : (s.setChannel k r).pending = s.pending := rfl
@[simp] theorem setChannel_carrier (s : State) (k : ChannelId) (r : Channel) (x : CarrierId) : (s.setChannel k r).carrier x = s.carrier x := rfl
@[simp] theorem setChannel_floorOf (s : State) (k : ChannelId) (r : Channel) (x : TenantId) (y : SectorId) : (s.setChannel k r).floorOf x y = s.floorOf x y := rfl
@[simp] theorem setChannel_drainLimit (s : State) (k : ChannelId) (r : Channel) (x : TenantId) : (s.setChannel k r).drainLimit x = s.drainLimit x := rfl
@[simp] theorem setChannel_branch (s : State) (k : ChannelId) (r : Channel) (x : BranchId) : (s.setChannel k r).branch x = s.branch x := rfl
@[simp] theorem setChannel_bgd_get (s : State) (k : ChannelId) (r : Channel) (x : BranchId) : (s.setChannel k r).bgd x = s.bgd x := rfl
@[simp] theorem setChannel_window (s : State) (k : ChannelId) (r : Channel) (x : WindowId) : (s.setChannel k r).window x = s.window x := rfl
@[simp] theorem setChannel_now (s : State) (k : ChannelId) (r : Channel) : (s.setChannel k r).now = s.now := rfl
@[simp] theorem setChannel_recordedTime (s : State) (k : ChannelId) (r : Channel) : (s.setChannel k r).recordedTime = s.recordedTime := rfl
@[simp] theorem setChannel_slot (s : State) (k : ChannelId) (r : Channel) (x : SlotId) : (s.setChannel k r).slot x = s.slot x := rfl
@[simp] theorem setChannel_input (s : State) (k : ChannelId) (r : Channel) (x : InputId) : (s.setChannel k r).input x = s.input x := rfl
@[simp] theorem setChannel_ev_get (s : State) (k : ChannelId) (r : Channel) (x : InputId) : (s.setChannel k r).ev x = s.ev x := rfl
@[simp] theorem setChannel_output (s : State) (k : ChannelId) (r : Channel) (x : OutputId) : (s.setChannel k r).output x = s.output x := rfl
@[simp] theorem setChannel_halted (s : State) (k : ChannelId) (r : Channel) : (s.setChannel k r).halted = s.halted := rfl
@[simp] theorem setChannel_port (s : State) (k : ChannelId) (r : Channel) (x : Port) : (s.setChannel k r).port x = s.port x := rfl

/-! ### setSlot -/

@[simp] theorem setSlot_table (s : State) (k : SlotId) (r : CauseSlot) : (s.setSlot k r).table = s.table := rfl
@[simp] theorem setSlot_ctrl (s : State) (k : SlotId) (r : CauseSlot) : (s.setSlot k r).ctrl = s.ctrl := rfl
@[simp] theorem setSlot_arb (s : State) (k : SlotId) (r : CauseSlot) : (s.setSlot k r).arb = s.arb := rfl
@[simp] theorem setSlot_timer (s : State) (k : SlotId) (r : CauseSlot) : (s.setSlot k r).timer = s.timer := rfl
@[simp] theorem setSlot_rest (s : State) (k : SlotId) (r : CauseSlot) : (s.setSlot k r).rest = s.rest := rfl
@[simp] theorem setSlot_lines_inputs (s : State) (k : SlotId) (r : CauseSlot) : (s.setSlot k r).lines.inputs = s.lines.inputs := rfl
@[simp] theorem setSlot_lines_ev (s : State) (k : SlotId) (r : CauseSlot) : (s.setSlot k r).lines.ev = s.lines.ev := rfl
@[simp] theorem setSlot_lines_holdMode (s : State) (k : SlotId) (r : CauseSlot) : (s.setSlot k r).lines.holdMode = s.lines.holdMode := rfl
@[simp] theorem setSlot_lines_holdInvert (s : State) (k : SlotId) (r : CauseSlot) : (s.setSlot k r).lines.holdInvert = s.lines.holdInvert := rfl
@[simp] theorem setSlot_lines_holdawk (s : State) (k : SlotId) (r : CauseSlot) : (s.setSlot k r).lines.holdawk = s.lines.holdawk := rfl
@[simp] theorem setSlot_lines_restHold (s : State) (k : SlotId) (r : CauseSlot) : (s.setSlot k r).lines.restHold = s.lines.restHold := rfl
@[simp] theorem setSlot_lines_outputs (s : State) (k : SlotId) (r : CauseSlot) : (s.setSlot k r).lines.outputs = s.lines.outputs := rfl
@[simp] theorem setSlot_stack (s : State) (k : SlotId) (r : CauseSlot) : (s.setSlot k r).stack = s.stack := rfl
@[simp] theorem setSlot_ports (s : State) (k : SlotId) (r : CauseSlot) : (s.setSlot k r).ports = s.ports := rfl
@[simp] theorem setSlot_resetting (s : State) (k : SlotId) (r : CauseSlot) : (s.setSlot k r).resetting = s.resetting := rfl
@[simp] theorem setSlot_haltDraws (s : State) (k : SlotId) (r : CauseSlot) : (s.setSlot k r).haltDraws = s.haltDraws := rfl
@[simp] theorem setSlot_pending (s : State) (k : SlotId) (r : CauseSlot) : (s.setSlot k r).pending = s.pending := rfl
@[simp] theorem setSlot_carrier (s : State) (k : SlotId) (r : CauseSlot) (x : CarrierId) : (s.setSlot k r).carrier x = s.carrier x := rfl
@[simp] theorem setSlot_floorOf (s : State) (k : SlotId) (r : CauseSlot) (x : TenantId) (y : SectorId) : (s.setSlot k r).floorOf x y = s.floorOf x y := rfl
@[simp] theorem setSlot_drainLimit (s : State) (k : SlotId) (r : CauseSlot) (x : TenantId) : (s.setSlot k r).drainLimit x = s.drainLimit x := rfl
@[simp] theorem setSlot_branch (s : State) (k : SlotId) (r : CauseSlot) (x : BranchId) : (s.setSlot k r).branch x = s.branch x := rfl
@[simp] theorem setSlot_bgd_get (s : State) (k : SlotId) (r : CauseSlot) (x : BranchId) : (s.setSlot k r).bgd x = s.bgd x := rfl
@[simp] theorem setSlot_window (s : State) (k : SlotId) (r : CauseSlot) (x : WindowId) : (s.setSlot k r).window x = s.window x := rfl
@[simp] theorem setSlot_now (s : State) (k : SlotId) (r : CauseSlot) : (s.setSlot k r).now = s.now := rfl
@[simp] theorem setSlot_recordedTime (s : State) (k : SlotId) (r : CauseSlot) : (s.setSlot k r).recordedTime = s.recordedTime := rfl
@[simp] theorem setSlot_channel (s : State) (k : SlotId) (r : CauseSlot) (x : ChannelId) : (s.setSlot k r).channel x = s.channel x := rfl
@[simp] theorem setSlot_input (s : State) (k : SlotId) (r : CauseSlot) (x : InputId) : (s.setSlot k r).input x = s.input x := rfl
@[simp] theorem setSlot_ev_get (s : State) (k : SlotId) (r : CauseSlot) (x : InputId) : (s.setSlot k r).ev x = s.ev x := rfl
@[simp] theorem setSlot_output (s : State) (k : SlotId) (r : CauseSlot) (x : OutputId) : (s.setSlot k r).output x = s.output x := rfl
@[simp] theorem setSlot_halted (s : State) (k : SlotId) (r : CauseSlot) : (s.setSlot k r).halted = s.halted := rfl
@[simp] theorem setSlot_port (s : State) (k : SlotId) (r : CauseSlot) (x : Port) : (s.setSlot k r).port x = s.port x := rfl

/-! ### setInput -/

@[simp] theorem setInput_table (s : State) (i : InputId) (r : InputSetting) : (s.setInput i r).table = s.table := rfl
@[simp] theorem setInput_ctrl (s : State) (i : InputId) (r : InputSetting) : (s.setInput i r).ctrl = s.ctrl := rfl
@[simp] theorem setInput_arb (s : State) (i : InputId) (r : InputSetting) : (s.setInput i r).arb = s.arb := rfl
@[simp] theorem setInput_timer (s : State) (i : InputId) (r : InputSetting) : (s.setInput i r).timer = s.timer := rfl
@[simp] theorem setInput_rest (s : State) (i : InputId) (r : InputSetting) : (s.setInput i r).rest = s.rest := rfl
@[simp] theorem setInput_lines_slots (s : State) (i : InputId) (r : InputSetting) : (s.setInput i r).lines.slots = s.lines.slots := rfl
@[simp] theorem setInput_lines_ev (s : State) (i : InputId) (r : InputSetting) : (s.setInput i r).lines.ev = s.lines.ev := rfl
@[simp] theorem setInput_lines_holdMode (s : State) (i : InputId) (r : InputSetting) : (s.setInput i r).lines.holdMode = s.lines.holdMode := rfl
@[simp] theorem setInput_lines_holdInvert (s : State) (i : InputId) (r : InputSetting) : (s.setInput i r).lines.holdInvert = s.lines.holdInvert := rfl
@[simp] theorem setInput_lines_holdawk (s : State) (i : InputId) (r : InputSetting) : (s.setInput i r).lines.holdawk = s.lines.holdawk := rfl
@[simp] theorem setInput_lines_restHold (s : State) (i : InputId) (r : InputSetting) : (s.setInput i r).lines.restHold = s.lines.restHold := rfl
@[simp] theorem setInput_lines_outputs (s : State) (i : InputId) (r : InputSetting) : (s.setInput i r).lines.outputs = s.lines.outputs := rfl
@[simp] theorem setInput_stack (s : State) (i : InputId) (r : InputSetting) : (s.setInput i r).stack = s.stack := rfl
@[simp] theorem setInput_ports (s : State) (i : InputId) (r : InputSetting) : (s.setInput i r).ports = s.ports := rfl
@[simp] theorem setInput_resetting (s : State) (i : InputId) (r : InputSetting) : (s.setInput i r).resetting = s.resetting := rfl
@[simp] theorem setInput_haltDraws (s : State) (i : InputId) (r : InputSetting) : (s.setInput i r).haltDraws = s.haltDraws := rfl
@[simp] theorem setInput_pending (s : State) (i : InputId) (r : InputSetting) : (s.setInput i r).pending = s.pending := rfl
@[simp] theorem setInput_carrier (s : State) (i : InputId) (r : InputSetting) (x : CarrierId) : (s.setInput i r).carrier x = s.carrier x := rfl
@[simp] theorem setInput_floorOf (s : State) (i : InputId) (r : InputSetting) (x : TenantId) (y : SectorId) : (s.setInput i r).floorOf x y = s.floorOf x y := rfl
@[simp] theorem setInput_drainLimit (s : State) (i : InputId) (r : InputSetting) (x : TenantId) : (s.setInput i r).drainLimit x = s.drainLimit x := rfl
@[simp] theorem setInput_branch (s : State) (i : InputId) (r : InputSetting) (x : BranchId) : (s.setInput i r).branch x = s.branch x := rfl
@[simp] theorem setInput_bgd_get (s : State) (i : InputId) (r : InputSetting) (x : BranchId) : (s.setInput i r).bgd x = s.bgd x := rfl
@[simp] theorem setInput_window (s : State) (i : InputId) (r : InputSetting) (x : WindowId) : (s.setInput i r).window x = s.window x := rfl
@[simp] theorem setInput_now (s : State) (i : InputId) (r : InputSetting) : (s.setInput i r).now = s.now := rfl
@[simp] theorem setInput_recordedTime (s : State) (i : InputId) (r : InputSetting) : (s.setInput i r).recordedTime = s.recordedTime := rfl
@[simp] theorem setInput_channel (s : State) (i : InputId) (r : InputSetting) (x : ChannelId) : (s.setInput i r).channel x = s.channel x := rfl
@[simp] theorem setInput_slot (s : State) (i : InputId) (r : InputSetting) (x : SlotId) : (s.setInput i r).slot x = s.slot x := rfl
@[simp] theorem setInput_ev_get (s : State) (i : InputId) (r : InputSetting) (x : InputId) : (s.setInput i r).ev x = s.ev x := rfl
@[simp] theorem setInput_output (s : State) (i : InputId) (r : InputSetting) (x : OutputId) : (s.setInput i r).output x = s.output x := rfl
@[simp] theorem setInput_halted (s : State) (i : InputId) (r : InputSetting) : (s.setInput i r).halted = s.halted := rfl
@[simp] theorem setInput_port (s : State) (i : InputId) (r : InputSetting) (x : Port) : (s.setInput i r).port x = s.port x := rfl

/-! ### setEv -/

@[simp] theorem setEv_table (s : State) (i : InputId) (high : Bool) : (s.setEv i high).table = s.table := rfl
@[simp] theorem setEv_ctrl (s : State) (i : InputId) (high : Bool) : (s.setEv i high).ctrl = s.ctrl := rfl
@[simp] theorem setEv_arb (s : State) (i : InputId) (high : Bool) : (s.setEv i high).arb = s.arb := rfl
@[simp] theorem setEv_timer (s : State) (i : InputId) (high : Bool) : (s.setEv i high).timer = s.timer := rfl
@[simp] theorem setEv_rest (s : State) (i : InputId) (high : Bool) : (s.setEv i high).rest = s.rest := rfl
@[simp] theorem setEv_lines_slots (s : State) (i : InputId) (high : Bool) : (s.setEv i high).lines.slots = s.lines.slots := rfl
@[simp] theorem setEv_lines_inputs (s : State) (i : InputId) (high : Bool) : (s.setEv i high).lines.inputs = s.lines.inputs := rfl
@[simp] theorem setEv_lines_holdMode (s : State) (i : InputId) (high : Bool) : (s.setEv i high).lines.holdMode = s.lines.holdMode := rfl
@[simp] theorem setEv_lines_holdInvert (s : State) (i : InputId) (high : Bool) : (s.setEv i high).lines.holdInvert = s.lines.holdInvert := rfl
@[simp] theorem setEv_lines_holdawk (s : State) (i : InputId) (high : Bool) : (s.setEv i high).lines.holdawk = s.lines.holdawk := rfl
@[simp] theorem setEv_lines_restHold (s : State) (i : InputId) (high : Bool) : (s.setEv i high).lines.restHold = s.lines.restHold := rfl
@[simp] theorem setEv_lines_outputs (s : State) (i : InputId) (high : Bool) : (s.setEv i high).lines.outputs = s.lines.outputs := rfl
@[simp] theorem setEv_stack (s : State) (i : InputId) (high : Bool) : (s.setEv i high).stack = s.stack := rfl
@[simp] theorem setEv_ports (s : State) (i : InputId) (high : Bool) : (s.setEv i high).ports = s.ports := rfl
@[simp] theorem setEv_resetting (s : State) (i : InputId) (high : Bool) : (s.setEv i high).resetting = s.resetting := rfl
@[simp] theorem setEv_haltDraws (s : State) (i : InputId) (high : Bool) : (s.setEv i high).haltDraws = s.haltDraws := rfl
@[simp] theorem setEv_pending (s : State) (i : InputId) (high : Bool) : (s.setEv i high).pending = s.pending := rfl
@[simp] theorem setEv_carrier (s : State) (i : InputId) (high : Bool) (x : CarrierId) : (s.setEv i high).carrier x = s.carrier x := rfl
@[simp] theorem setEv_floorOf (s : State) (i : InputId) (high : Bool) (x : TenantId) (y : SectorId) : (s.setEv i high).floorOf x y = s.floorOf x y := rfl
@[simp] theorem setEv_drainLimit (s : State) (i : InputId) (high : Bool) (x : TenantId) : (s.setEv i high).drainLimit x = s.drainLimit x := rfl
@[simp] theorem setEv_branch (s : State) (i : InputId) (high : Bool) (x : BranchId) : (s.setEv i high).branch x = s.branch x := rfl
@[simp] theorem setEv_bgd_get (s : State) (i : InputId) (high : Bool) (x : BranchId) : (s.setEv i high).bgd x = s.bgd x := rfl
@[simp] theorem setEv_window (s : State) (i : InputId) (high : Bool) (x : WindowId) : (s.setEv i high).window x = s.window x := rfl
@[simp] theorem setEv_now (s : State) (i : InputId) (high : Bool) : (s.setEv i high).now = s.now := rfl
@[simp] theorem setEv_recordedTime (s : State) (i : InputId) (high : Bool) : (s.setEv i high).recordedTime = s.recordedTime := rfl
@[simp] theorem setEv_channel (s : State) (i : InputId) (high : Bool) (x : ChannelId) : (s.setEv i high).channel x = s.channel x := rfl
@[simp] theorem setEv_slot (s : State) (i : InputId) (high : Bool) (x : SlotId) : (s.setEv i high).slot x = s.slot x := rfl
@[simp] theorem setEv_input (s : State) (i : InputId) (high : Bool) (x : InputId) : (s.setEv i high).input x = s.input x := rfl
@[simp] theorem setEv_output (s : State) (i : InputId) (high : Bool) (x : OutputId) : (s.setEv i high).output x = s.output x := rfl
@[simp] theorem setEv_halted (s : State) (i : InputId) (high : Bool) : (s.setEv i high).halted = s.halted := rfl
@[simp] theorem setEv_port (s : State) (i : InputId) (high : Bool) (x : Port) : (s.setEv i high).port x = s.port x := rfl

/-! ### setOutput -/

@[simp] theorem setOutput_table (s : State) (o : OutputId) (r : Output) : (s.setOutput o r).table = s.table := rfl
@[simp] theorem setOutput_ctrl (s : State) (o : OutputId) (r : Output) : (s.setOutput o r).ctrl = s.ctrl := rfl
@[simp] theorem setOutput_arb (s : State) (o : OutputId) (r : Output) : (s.setOutput o r).arb = s.arb := rfl
@[simp] theorem setOutput_timer (s : State) (o : OutputId) (r : Output) : (s.setOutput o r).timer = s.timer := rfl
@[simp] theorem setOutput_rest (s : State) (o : OutputId) (r : Output) : (s.setOutput o r).rest = s.rest := rfl
@[simp] theorem setOutput_lines_slots (s : State) (o : OutputId) (r : Output) : (s.setOutput o r).lines.slots = s.lines.slots := rfl
@[simp] theorem setOutput_lines_inputs (s : State) (o : OutputId) (r : Output) : (s.setOutput o r).lines.inputs = s.lines.inputs := rfl
@[simp] theorem setOutput_lines_ev (s : State) (o : OutputId) (r : Output) : (s.setOutput o r).lines.ev = s.lines.ev := rfl
@[simp] theorem setOutput_lines_holdMode (s : State) (o : OutputId) (r : Output) : (s.setOutput o r).lines.holdMode = s.lines.holdMode := rfl
@[simp] theorem setOutput_lines_holdInvert (s : State) (o : OutputId) (r : Output) : (s.setOutput o r).lines.holdInvert = s.lines.holdInvert := rfl
@[simp] theorem setOutput_lines_holdawk (s : State) (o : OutputId) (r : Output) : (s.setOutput o r).lines.holdawk = s.lines.holdawk := rfl
@[simp] theorem setOutput_lines_restHold (s : State) (o : OutputId) (r : Output) : (s.setOutput o r).lines.restHold = s.lines.restHold := rfl
@[simp] theorem setOutput_stack (s : State) (o : OutputId) (r : Output) : (s.setOutput o r).stack = s.stack := rfl
@[simp] theorem setOutput_ports (s : State) (o : OutputId) (r : Output) : (s.setOutput o r).ports = s.ports := rfl
@[simp] theorem setOutput_resetting (s : State) (o : OutputId) (r : Output) : (s.setOutput o r).resetting = s.resetting := rfl
@[simp] theorem setOutput_haltDraws (s : State) (o : OutputId) (r : Output) : (s.setOutput o r).haltDraws = s.haltDraws := rfl
@[simp] theorem setOutput_pending (s : State) (o : OutputId) (r : Output) : (s.setOutput o r).pending = s.pending := rfl
@[simp] theorem setOutput_carrier (s : State) (o : OutputId) (r : Output) (x : CarrierId) : (s.setOutput o r).carrier x = s.carrier x := rfl
@[simp] theorem setOutput_floorOf (s : State) (o : OutputId) (r : Output) (x : TenantId) (y : SectorId) : (s.setOutput o r).floorOf x y = s.floorOf x y := rfl
@[simp] theorem setOutput_drainLimit (s : State) (o : OutputId) (r : Output) (x : TenantId) : (s.setOutput o r).drainLimit x = s.drainLimit x := rfl
@[simp] theorem setOutput_branch (s : State) (o : OutputId) (r : Output) (x : BranchId) : (s.setOutput o r).branch x = s.branch x := rfl
@[simp] theorem setOutput_bgd_get (s : State) (o : OutputId) (r : Output) (x : BranchId) : (s.setOutput o r).bgd x = s.bgd x := rfl
@[simp] theorem setOutput_window (s : State) (o : OutputId) (r : Output) (x : WindowId) : (s.setOutput o r).window x = s.window x := rfl
@[simp] theorem setOutput_now (s : State) (o : OutputId) (r : Output) : (s.setOutput o r).now = s.now := rfl
@[simp] theorem setOutput_recordedTime (s : State) (o : OutputId) (r : Output) : (s.setOutput o r).recordedTime = s.recordedTime := rfl
@[simp] theorem setOutput_channel (s : State) (o : OutputId) (r : Output) (x : ChannelId) : (s.setOutput o r).channel x = s.channel x := rfl
@[simp] theorem setOutput_slot (s : State) (o : OutputId) (r : Output) (x : SlotId) : (s.setOutput o r).slot x = s.slot x := rfl
@[simp] theorem setOutput_input (s : State) (o : OutputId) (r : Output) (x : InputId) : (s.setOutput o r).input x = s.input x := rfl
@[simp] theorem setOutput_ev_get (s : State) (o : OutputId) (r : Output) (x : InputId) : (s.setOutput o r).ev x = s.ev x := rfl
@[simp] theorem setOutput_halted (s : State) (o : OutputId) (r : Output) : (s.setOutput o r).halted = s.halted := rfl
@[simp] theorem setOutput_port (s : State) (o : OutputId) (r : Output) (x : Port) : (s.setOutput o r).port x = s.port x := rfl

/-! ### setRestHold -/

@[simp] theorem setRestHold_table (s : State) (h : Bool) : (s.setRestHold h).table = s.table := rfl
@[simp] theorem setRestHold_ctrl (s : State) (h : Bool) : (s.setRestHold h).ctrl = s.ctrl := rfl
@[simp] theorem setRestHold_arb (s : State) (h : Bool) : (s.setRestHold h).arb = s.arb := rfl
@[simp] theorem setRestHold_timer (s : State) (h : Bool) : (s.setRestHold h).timer = s.timer := rfl
@[simp] theorem setRestHold_rest (s : State) (h : Bool) : (s.setRestHold h).rest = s.rest := rfl
@[simp] theorem setRestHold_lines_slots (s : State) (h : Bool) : (s.setRestHold h).lines.slots = s.lines.slots := rfl
@[simp] theorem setRestHold_lines_inputs (s : State) (h : Bool) : (s.setRestHold h).lines.inputs = s.lines.inputs := rfl
@[simp] theorem setRestHold_lines_ev (s : State) (h : Bool) : (s.setRestHold h).lines.ev = s.lines.ev := rfl
@[simp] theorem setRestHold_lines_holdMode (s : State) (h : Bool) : (s.setRestHold h).lines.holdMode = s.lines.holdMode := rfl
@[simp] theorem setRestHold_lines_holdInvert (s : State) (h : Bool) : (s.setRestHold h).lines.holdInvert = s.lines.holdInvert := rfl
@[simp] theorem setRestHold_lines_holdawk (s : State) (h : Bool) : (s.setRestHold h).lines.holdawk = s.lines.holdawk := rfl
@[simp] theorem setRestHold_lines_outputs (s : State) (h : Bool) : (s.setRestHold h).lines.outputs = s.lines.outputs := rfl
@[simp] theorem setRestHold_stack (s : State) (h : Bool) : (s.setRestHold h).stack = s.stack := rfl
@[simp] theorem setRestHold_ports (s : State) (h : Bool) : (s.setRestHold h).ports = s.ports := rfl
@[simp] theorem setRestHold_resetting (s : State) (h : Bool) : (s.setRestHold h).resetting = s.resetting := rfl
@[simp] theorem setRestHold_haltDraws (s : State) (h : Bool) : (s.setRestHold h).haltDraws = s.haltDraws := rfl
@[simp] theorem setRestHold_pending (s : State) (h : Bool) : (s.setRestHold h).pending = s.pending := rfl
@[simp] theorem setRestHold_carrier (s : State) (h : Bool) (x : CarrierId) : (s.setRestHold h).carrier x = s.carrier x := rfl
@[simp] theorem setRestHold_floorOf (s : State) (h : Bool) (x : TenantId) (y : SectorId) : (s.setRestHold h).floorOf x y = s.floorOf x y := rfl
@[simp] theorem setRestHold_drainLimit (s : State) (h : Bool) (x : TenantId) : (s.setRestHold h).drainLimit x = s.drainLimit x := rfl
@[simp] theorem setRestHold_branch (s : State) (h : Bool) (x : BranchId) : (s.setRestHold h).branch x = s.branch x := rfl
@[simp] theorem setRestHold_bgd_get (s : State) (h : Bool) (x : BranchId) : (s.setRestHold h).bgd x = s.bgd x := rfl
@[simp] theorem setRestHold_window (s : State) (h : Bool) (x : WindowId) : (s.setRestHold h).window x = s.window x := rfl
@[simp] theorem setRestHold_now (s : State) (h : Bool) : (s.setRestHold h).now = s.now := rfl
@[simp] theorem setRestHold_recordedTime (s : State) (h : Bool) : (s.setRestHold h).recordedTime = s.recordedTime := rfl
@[simp] theorem setRestHold_channel (s : State) (h : Bool) (x : ChannelId) : (s.setRestHold h).channel x = s.channel x := rfl
@[simp] theorem setRestHold_slot (s : State) (h : Bool) (x : SlotId) : (s.setRestHold h).slot x = s.slot x := rfl
@[simp] theorem setRestHold_input (s : State) (h : Bool) (x : InputId) : (s.setRestHold h).input x = s.input x := rfl
@[simp] theorem setRestHold_ev_get (s : State) (h : Bool) (x : InputId) : (s.setRestHold h).ev x = s.ev x := rfl
@[simp] theorem setRestHold_output (s : State) (h : Bool) (x : OutputId) : (s.setRestHold h).output x = s.output x := rfl
@[simp] theorem setRestHold_halted (s : State) (h : Bool) : (s.setRestHold h).halted = s.halted := rfl
@[simp] theorem setRestHold_port (s : State) (h : Bool) (x : Port) : (s.setRestHold h).port x = s.port x := rfl

/-! ### setStack -/

@[simp] theorem setStack_table (s : State) (f : FaultStack) : (s.setStack f).table = s.table := rfl
@[simp] theorem setStack_ctrl (s : State) (f : FaultStack) : (s.setStack f).ctrl = s.ctrl := rfl
@[simp] theorem setStack_arb (s : State) (f : FaultStack) : (s.setStack f).arb = s.arb := rfl
@[simp] theorem setStack_timer (s : State) (f : FaultStack) : (s.setStack f).timer = s.timer := rfl
@[simp] theorem setStack_rest (s : State) (f : FaultStack) : (s.setStack f).rest = s.rest := rfl
@[simp] theorem setStack_lines (s : State) (f : FaultStack) : (s.setStack f).lines = s.lines := rfl
@[simp] theorem setStack_ports (s : State) (f : FaultStack) : (s.setStack f).ports = s.ports := rfl
@[simp] theorem setStack_resetting (s : State) (f : FaultStack) : (s.setStack f).resetting = s.resetting := rfl
@[simp] theorem setStack_haltDraws (s : State) (f : FaultStack) : (s.setStack f).haltDraws = s.haltDraws := rfl
@[simp] theorem setStack_pending (s : State) (f : FaultStack) : (s.setStack f).pending = s.pending := rfl
@[simp] theorem setStack_carrier (s : State) (f : FaultStack) (x : CarrierId) : (s.setStack f).carrier x = s.carrier x := rfl
@[simp] theorem setStack_floorOf (s : State) (f : FaultStack) (x : TenantId) (y : SectorId) : (s.setStack f).floorOf x y = s.floorOf x y := rfl
@[simp] theorem setStack_drainLimit (s : State) (f : FaultStack) (x : TenantId) : (s.setStack f).drainLimit x = s.drainLimit x := rfl
@[simp] theorem setStack_branch (s : State) (f : FaultStack) (x : BranchId) : (s.setStack f).branch x = s.branch x := rfl
@[simp] theorem setStack_bgd_get (s : State) (f : FaultStack) (x : BranchId) : (s.setStack f).bgd x = s.bgd x := rfl
@[simp] theorem setStack_window (s : State) (f : FaultStack) (x : WindowId) : (s.setStack f).window x = s.window x := rfl
@[simp] theorem setStack_now (s : State) (f : FaultStack) : (s.setStack f).now = s.now := rfl
@[simp] theorem setStack_recordedTime (s : State) (f : FaultStack) : (s.setStack f).recordedTime = s.recordedTime := rfl
@[simp] theorem setStack_channel (s : State) (f : FaultStack) (x : ChannelId) : (s.setStack f).channel x = s.channel x := rfl
@[simp] theorem setStack_slot (s : State) (f : FaultStack) (x : SlotId) : (s.setStack f).slot x = s.slot x := rfl
@[simp] theorem setStack_input (s : State) (f : FaultStack) (x : InputId) : (s.setStack f).input x = s.input x := rfl
@[simp] theorem setStack_ev_get (s : State) (f : FaultStack) (x : InputId) : (s.setStack f).ev x = s.ev x := rfl
@[simp] theorem setStack_output (s : State) (f : FaultStack) (x : OutputId) : (s.setStack f).output x = s.output x := rfl
@[simp] theorem setStack_port (s : State) (f : FaultStack) (x : Port) : (s.setStack f).port x = s.port x := rfl

/-! ### setPort -/

@[simp] theorem setPort_table (s : State) (p : Port) (r : PortState) : (s.setPort p r).table = s.table := rfl
@[simp] theorem setPort_ctrl (s : State) (p : Port) (r : PortState) : (s.setPort p r).ctrl = s.ctrl := rfl
@[simp] theorem setPort_arb (s : State) (p : Port) (r : PortState) : (s.setPort p r).arb = s.arb := rfl
@[simp] theorem setPort_timer (s : State) (p : Port) (r : PortState) : (s.setPort p r).timer = s.timer := rfl
@[simp] theorem setPort_rest (s : State) (p : Port) (r : PortState) : (s.setPort p r).rest = s.rest := rfl
@[simp] theorem setPort_lines (s : State) (p : Port) (r : PortState) : (s.setPort p r).lines = s.lines := rfl
@[simp] theorem setPort_stack (s : State) (p : Port) (r : PortState) : (s.setPort p r).stack = s.stack := rfl
@[simp] theorem setPort_resetting (s : State) (p : Port) (r : PortState) : (s.setPort p r).resetting = s.resetting := rfl
@[simp] theorem setPort_haltDraws (s : State) (p : Port) (r : PortState) : (s.setPort p r).haltDraws = s.haltDraws := rfl
@[simp] theorem setPort_pending (s : State) (p : Port) (r : PortState) : (s.setPort p r).pending = s.pending := rfl
@[simp] theorem setPort_carrier (s : State) (p : Port) (r : PortState) (x : CarrierId) : (s.setPort p r).carrier x = s.carrier x := rfl
@[simp] theorem setPort_floorOf (s : State) (p : Port) (r : PortState) (x : TenantId) (y : SectorId) : (s.setPort p r).floorOf x y = s.floorOf x y := rfl
@[simp] theorem setPort_drainLimit (s : State) (p : Port) (r : PortState) (x : TenantId) : (s.setPort p r).drainLimit x = s.drainLimit x := rfl
@[simp] theorem setPort_branch (s : State) (p : Port) (r : PortState) (x : BranchId) : (s.setPort p r).branch x = s.branch x := rfl
@[simp] theorem setPort_bgd_get (s : State) (p : Port) (r : PortState) (x : BranchId) : (s.setPort p r).bgd x = s.bgd x := rfl
@[simp] theorem setPort_window (s : State) (p : Port) (r : PortState) (x : WindowId) : (s.setPort p r).window x = s.window x := rfl
@[simp] theorem setPort_now (s : State) (p : Port) (r : PortState) : (s.setPort p r).now = s.now := rfl
@[simp] theorem setPort_recordedTime (s : State) (p : Port) (r : PortState) : (s.setPort p r).recordedTime = s.recordedTime := rfl
@[simp] theorem setPort_channel (s : State) (p : Port) (r : PortState) (x : ChannelId) : (s.setPort p r).channel x = s.channel x := rfl
@[simp] theorem setPort_slot (s : State) (p : Port) (r : PortState) (x : SlotId) : (s.setPort p r).slot x = s.slot x := rfl
@[simp] theorem setPort_input (s : State) (p : Port) (r : PortState) (x : InputId) : (s.setPort p r).input x = s.input x := rfl
@[simp] theorem setPort_ev_get (s : State) (p : Port) (r : PortState) (x : InputId) : (s.setPort p r).ev x = s.ev x := rfl
@[simp] theorem setPort_output (s : State) (p : Port) (r : PortState) (x : OutputId) : (s.setPort p r).output x = s.output x := rfl
@[simp] theorem setPort_halted (s : State) (p : Port) (r : PortState) : (s.setPort p r).halted = s.halted := rfl

/-! ### post -/

@[simp] theorem post_table (s : State) (p : Port) (m : Notice) : (s.post p m).table = s.table := rfl
@[simp] theorem post_ctrl (s : State) (p : Port) (m : Notice) : (s.post p m).ctrl = s.ctrl := rfl
@[simp] theorem post_arb (s : State) (p : Port) (m : Notice) : (s.post p m).arb = s.arb := rfl
@[simp] theorem post_timer (s : State) (p : Port) (m : Notice) : (s.post p m).timer = s.timer := rfl
@[simp] theorem post_rest (s : State) (p : Port) (m : Notice) : (s.post p m).rest = s.rest := rfl
@[simp] theorem post_lines (s : State) (p : Port) (m : Notice) : (s.post p m).lines = s.lines := rfl
@[simp] theorem post_stack (s : State) (p : Port) (m : Notice) : (s.post p m).stack = s.stack := rfl
@[simp] theorem post_resetting (s : State) (p : Port) (m : Notice) : (s.post p m).resetting = s.resetting := rfl
@[simp] theorem post_haltDraws (s : State) (p : Port) (m : Notice) : (s.post p m).haltDraws = s.haltDraws := rfl
@[simp] theorem post_pending (s : State) (p : Port) (m : Notice) : (s.post p m).pending = s.pending := rfl
@[simp] theorem post_carrier (s : State) (p : Port) (m : Notice) (x : CarrierId) : (s.post p m).carrier x = s.carrier x := rfl
@[simp] theorem post_floorOf (s : State) (p : Port) (m : Notice) (x : TenantId) (y : SectorId) : (s.post p m).floorOf x y = s.floorOf x y := rfl
@[simp] theorem post_drainLimit (s : State) (p : Port) (m : Notice) (x : TenantId) : (s.post p m).drainLimit x = s.drainLimit x := rfl
@[simp] theorem post_branch (s : State) (p : Port) (m : Notice) (x : BranchId) : (s.post p m).branch x = s.branch x := rfl
@[simp] theorem post_bgd_get (s : State) (p : Port) (m : Notice) (x : BranchId) : (s.post p m).bgd x = s.bgd x := rfl
@[simp] theorem post_window (s : State) (p : Port) (m : Notice) (x : WindowId) : (s.post p m).window x = s.window x := rfl
@[simp] theorem post_now (s : State) (p : Port) (m : Notice) : (s.post p m).now = s.now := rfl
@[simp] theorem post_recordedTime (s : State) (p : Port) (m : Notice) : (s.post p m).recordedTime = s.recordedTime := rfl
@[simp] theorem post_channel (s : State) (p : Port) (m : Notice) (x : ChannelId) : (s.post p m).channel x = s.channel x := rfl
@[simp] theorem post_slot (s : State) (p : Port) (m : Notice) (x : SlotId) : (s.post p m).slot x = s.slot x := rfl
@[simp] theorem post_input (s : State) (p : Port) (m : Notice) (x : InputId) : (s.post p m).input x = s.input x := rfl
@[simp] theorem post_ev_get (s : State) (p : Port) (m : Notice) (x : InputId) : (s.post p m).ev x = s.ev x := rfl
@[simp] theorem post_output (s : State) (p : Port) (m : Notice) (x : OutputId) : (s.post p m).output x = s.output x := rfl
@[simp] theorem post_halted (s : State) (p : Port) (m : Notice) : (s.post p m).halted = s.halted := rfl

/-! ### takeOut -/

@[simp] theorem takeOut_table (s : State) (p : Port) (f : List Byte) : (s.takeOut p f).table = s.table := rfl
@[simp] theorem takeOut_ctrl (s : State) (p : Port) (f : List Byte) : (s.takeOut p f).ctrl = s.ctrl := rfl
@[simp] theorem takeOut_arb (s : State) (p : Port) (f : List Byte) : (s.takeOut p f).arb = s.arb := rfl
@[simp] theorem takeOut_timer (s : State) (p : Port) (f : List Byte) : (s.takeOut p f).timer = s.timer := rfl
@[simp] theorem takeOut_rest (s : State) (p : Port) (f : List Byte) : (s.takeOut p f).rest = s.rest := rfl
@[simp] theorem takeOut_lines (s : State) (p : Port) (f : List Byte) : (s.takeOut p f).lines = s.lines := rfl
@[simp] theorem takeOut_stack (s : State) (p : Port) (f : List Byte) : (s.takeOut p f).stack = s.stack := rfl
@[simp] theorem takeOut_resetting (s : State) (p : Port) (f : List Byte) : (s.takeOut p f).resetting = s.resetting := rfl
@[simp] theorem takeOut_haltDraws (s : State) (p : Port) (f : List Byte) : (s.takeOut p f).haltDraws = s.haltDraws := rfl
@[simp] theorem takeOut_pending (s : State) (p : Port) (f : List Byte) : (s.takeOut p f).pending = s.pending := rfl
@[simp] theorem takeOut_carrier (s : State) (p : Port) (f : List Byte) (x : CarrierId) : (s.takeOut p f).carrier x = s.carrier x := rfl
@[simp] theorem takeOut_floorOf (s : State) (p : Port) (f : List Byte) (x : TenantId) (y : SectorId) : (s.takeOut p f).floorOf x y = s.floorOf x y := rfl
@[simp] theorem takeOut_drainLimit (s : State) (p : Port) (f : List Byte) (x : TenantId) : (s.takeOut p f).drainLimit x = s.drainLimit x := rfl
@[simp] theorem takeOut_branch (s : State) (p : Port) (f : List Byte) (x : BranchId) : (s.takeOut p f).branch x = s.branch x := rfl
@[simp] theorem takeOut_bgd_get (s : State) (p : Port) (f : List Byte) (x : BranchId) : (s.takeOut p f).bgd x = s.bgd x := rfl
@[simp] theorem takeOut_window (s : State) (p : Port) (f : List Byte) (x : WindowId) : (s.takeOut p f).window x = s.window x := rfl
@[simp] theorem takeOut_now (s : State) (p : Port) (f : List Byte) : (s.takeOut p f).now = s.now := rfl
@[simp] theorem takeOut_recordedTime (s : State) (p : Port) (f : List Byte) : (s.takeOut p f).recordedTime = s.recordedTime := rfl
@[simp] theorem takeOut_channel (s : State) (p : Port) (f : List Byte) (x : ChannelId) : (s.takeOut p f).channel x = s.channel x := rfl
@[simp] theorem takeOut_slot (s : State) (p : Port) (f : List Byte) (x : SlotId) : (s.takeOut p f).slot x = s.slot x := rfl
@[simp] theorem takeOut_input (s : State) (p : Port) (f : List Byte) (x : InputId) : (s.takeOut p f).input x = s.input x := rfl
@[simp] theorem takeOut_ev_get (s : State) (p : Port) (f : List Byte) (x : InputId) : (s.takeOut p f).ev x = s.ev x := rfl
@[simp] theorem takeOut_output (s : State) (p : Port) (f : List Byte) (x : OutputId) : (s.takeOut p f).output x = s.output x := rfl
@[simp] theorem takeOut_halted (s : State) (p : Port) (f : List Byte) : (s.takeOut p f).halted = s.halted := rfl

/-! ### placeReply -/

@[simp] theorem placeReply_table (s : State) (p : Port) (r : Reply) : (s.placeReply p r).table = s.table := rfl
@[simp] theorem placeReply_ctrl (s : State) (p : Port) (r : Reply) : (s.placeReply p r).ctrl = s.ctrl := rfl
@[simp] theorem placeReply_arb (s : State) (p : Port) (r : Reply) : (s.placeReply p r).arb = s.arb := rfl
@[simp] theorem placeReply_timer (s : State) (p : Port) (r : Reply) : (s.placeReply p r).timer = s.timer := rfl
@[simp] theorem placeReply_rest (s : State) (p : Port) (r : Reply) : (s.placeReply p r).rest = s.rest := rfl
@[simp] theorem placeReply_lines (s : State) (p : Port) (r : Reply) : (s.placeReply p r).lines = s.lines := rfl
@[simp] theorem placeReply_stack (s : State) (p : Port) (r : Reply) : (s.placeReply p r).stack = s.stack := rfl
@[simp] theorem placeReply_resetting (s : State) (p : Port) (r : Reply) : (s.placeReply p r).resetting = s.resetting := rfl
@[simp] theorem placeReply_haltDraws (s : State) (p : Port) (r : Reply) : (s.placeReply p r).haltDraws = s.haltDraws := rfl
@[simp] theorem placeReply_pending (s : State) (p : Port) (r : Reply) : (s.placeReply p r).pending = s.pending := rfl
@[simp] theorem placeReply_carrier (s : State) (p : Port) (r : Reply) (x : CarrierId) : (s.placeReply p r).carrier x = s.carrier x := rfl
@[simp] theorem placeReply_floorOf (s : State) (p : Port) (r : Reply) (x : TenantId) (y : SectorId) : (s.placeReply p r).floorOf x y = s.floorOf x y := rfl
@[simp] theorem placeReply_drainLimit (s : State) (p : Port) (r : Reply) (x : TenantId) : (s.placeReply p r).drainLimit x = s.drainLimit x := rfl
@[simp] theorem placeReply_branch (s : State) (p : Port) (r : Reply) (x : BranchId) : (s.placeReply p r).branch x = s.branch x := rfl
@[simp] theorem placeReply_bgd_get (s : State) (p : Port) (r : Reply) (x : BranchId) : (s.placeReply p r).bgd x = s.bgd x := rfl
@[simp] theorem placeReply_window (s : State) (p : Port) (r : Reply) (x : WindowId) : (s.placeReply p r).window x = s.window x := rfl
@[simp] theorem placeReply_now (s : State) (p : Port) (r : Reply) : (s.placeReply p r).now = s.now := rfl
@[simp] theorem placeReply_recordedTime (s : State) (p : Port) (r : Reply) : (s.placeReply p r).recordedTime = s.recordedTime := rfl
@[simp] theorem placeReply_channel (s : State) (p : Port) (r : Reply) (x : ChannelId) : (s.placeReply p r).channel x = s.channel x := rfl
@[simp] theorem placeReply_slot (s : State) (p : Port) (r : Reply) (x : SlotId) : (s.placeReply p r).slot x = s.slot x := rfl
@[simp] theorem placeReply_input (s : State) (p : Port) (r : Reply) (x : InputId) : (s.placeReply p r).input x = s.input x := rfl
@[simp] theorem placeReply_ev_get (s : State) (p : Port) (r : Reply) (x : InputId) : (s.placeReply p r).ev x = s.ev x := rfl
@[simp] theorem placeReply_output (s : State) (p : Port) (r : Reply) (x : OutputId) : (s.placeReply p r).output x = s.output x := rfl
@[simp] theorem placeReply_halted (s : State) (p : Port) (r : Reply) : (s.placeReply p r).halted = s.halted := rfl

/-! ### What is read back -/

@[simp] theorem carrier_setCarrier (s : State) (c d : CarrierId) (r : Carrier) : (s.setCarrier c r).carrier d = if d = c then r else s.carrier d := by
  simp only [State.carrier, State.setCarrier, Vector.getElem_set]
  by_cases h : d = c
  · simp [h]
  · have : ¬ (c.val = d.val) := fun e => h (Fin.ext e.symm)
    simp [h, this]

@[simp] theorem drainLimit_setDrainLimit (s : State) (c d : TenantId) (r : Nat) : (s.setDrainLimit c r).drainLimit d = if d = c then r else s.drainLimit d := by
  simp only [State.drainLimit, State.setDrainLimit, Vector.getElem_set]
  by_cases h : d = c
  · simp [h]
  · have : ¬ (c.val = d.val) := fun e => h (Fin.ext e.symm)
    simp [h, this]

@[simp] theorem branch_setBranch (s : State) (c d : BranchId) (r : Branch) : (s.setBranch c r).branch d = if d = c then r else s.branch d := by
  simp only [State.branch, State.setBranch, Vector.getElem_set]
  by_cases h : d = c
  · simp [h]
  · have : ¬ (c.val = d.val) := fun e => h (Fin.ext e.symm)
    simp [h, this]

@[simp] theorem bgd_setBgd (s : State) (c d : BranchId) (r : Bool) : (s.setBgd c r).bgd d = if d = c then r else s.bgd d := by
  simp only [State.bgd, State.setBgd, Vector.getElem_set]
  by_cases h : d = c
  · simp [h]
  · have : ¬ (c.val = d.val) := fun e => h (Fin.ext e.symm)
    simp [h, this]

@[simp] theorem window_setWindow (s : State) (c d : WindowId) (r : Window) : (s.setWindow c r).window d = if d = c then r else s.window d := by
  simp only [State.window, State.setWindow, Vector.getElem_set]
  by_cases h : d = c
  · simp [h]
  · have : ¬ (c.val = d.val) := fun e => h (Fin.ext e.symm)
    simp [h, this]

@[simp] theorem channel_setChannel (s : State) (c d : ChannelId) (r : Channel) : (s.setChannel c r).channel d = if d = c then r else s.channel d := by
  simp only [State.channel, State.setChannel, Vector.getElem_set]
  by_cases h : d = c
  · simp [h]
  · have : ¬ (c.val = d.val) := fun e => h (Fin.ext e.symm)
    simp [h, this]

@[simp] theorem slot_setSlot (s : State) (c d : SlotId) (r : CauseSlot) : (s.setSlot c r).slot d = if d = c then r else s.slot d := by
  simp only [State.slot, State.setSlot, Vector.getElem_set]
  by_cases h : d = c
  · simp [h]
  · have : ¬ (c.val = d.val) := fun e => h (Fin.ext e.symm)
    simp [h, this]

@[simp] theorem input_setInput (s : State) (c d : InputId) (r : InputSetting) : (s.setInput c r).input d = if d = c then r else s.input d := by
  simp only [State.input, State.setInput, Vector.getElem_set]
  by_cases h : d = c
  · simp [h]
  · have : ¬ (c.val = d.val) := fun e => h (Fin.ext e.symm)
    simp [h, this]

@[simp] theorem ev_setEv (s : State) (c d : InputId) (r : Bool) : (s.setEv c r).ev d = if d = c then r else s.ev d := by
  simp only [State.ev, State.setEv, Vector.getElem_set]
  by_cases h : d = c
  · simp [h]
  · have : ¬ (c.val = d.val) := fun e => h (Fin.ext e.symm)
    simp [h, this]

@[simp] theorem output_setOutput (s : State) (c d : OutputId) (r : Output) : (s.setOutput c r).output d = if d = c then r else s.output d := by
  simp only [State.output, State.setOutput, Vector.getElem_set]
  by_cases h : d = c
  · simp [h]
  · have : ¬ (c.val = d.val) := fun e => h (Fin.ext e.symm)
    simp [h, this]

@[simp] theorem floorOf_setFloorOf (s : State) (t u : TenantId) (a b : SectorId) (n : Nat) :
    (s.setFloorOf t a n).floorOf u b = if u = t ∧ b = a then n else s.floorOf u b := by
  simp only [State.floorOf, State.setFloorOf, Vector.getElem_set]
  by_cases h : u = t
  · subst h
    by_cases k : b = a
    · simp [k]
    · have : ¬ (a.val = b.val) := fun e => k (Fin.ext e.symm)
      simp [k, this]
  · have : ¬ (t.val = u.val) := fun e => h (Fin.ext e.symm)
    simp [h, this]

theorem portIndex_injective {p q : Port} (h : portIndex p = portIndex q) : p = q := by
  cases p <;> cases q <;> simp_all [portIndex, Fin.ext_iff] <;> omega

@[simp] theorem port_setPort (s : State) (p q : Port) (r : PortState) :
    (s.setPort p r).port q = if q = p then r else s.port q := by
  simp only [State.port, State.setPort, Vector.getElem_set]
  by_cases h : q = p
  · simp [h]
  · have : ¬ ((portIndex p).val = (portIndex q).val) := fun e => h (portIndex_injective (Fin.ext e.symm))
    simp [h, this]

@[simp] theorem setArb_arb (s : State) (a : Arbiter) : (s.setArb a).arb = a := rfl
@[simp] theorem setSiteTime_now (s : State) (n : Nat) : (s.setSiteTime n).now = n := rfl
@[simp] theorem setRestHold_restHold (s : State) (h : Bool) : (s.setRestHold h).lines.restHold = h := rfl
@[simp] theorem setStack_stack (s : State) (f : FaultStack) : (s.setStack f).stack = f := rfl

@[simp] theorem port_post (s : State) (p q : Port) (m : Notice) :
    (s.post p m).port q = if q = p then (s.port p).post m else s.port q := by
  simp [State.post]

@[simp] theorem port_placeReply (s : State) (p q : Port) (r : Reply) :
    (s.placeReply p r).port q = if q = p then { s.port p with replies := (s.port p).replies ++ [r] } else s.port q := by
  simp [State.placeReply]

end Sys2Proof.Machine
end

