-- ==== Sys2Proof/Laws/Frames.lean ====
section
/-!
SUPPORT. A request frame passes the port's first three checks with its own kind and payload, and what the taking of
one answers.
-/
namespace Sys2Proof
open Sys2Proof.Machine

/-! ## Request frames -/

theorem requestKindOf_code (k : RequestKind) : requestKindOf k.code = some k := by
  cases k <;> decide +kernel

/-- No kind code is the read code (R184). -/
theorem code_ne_readCode (k : RequestKind) : k.code ≠ 0x00#8 := by
  cases k <;> decide

theorem RequestKind.length_le {k : RequestKind} {n : Nat} (h : k.allowsLength n = true) : n ≤ 18 := by
  cases k <;> simp [allowsLength, RequestKind.row] at h <;> omega

theorem byteOf_toNat {n : Nat} (h : n < 256) : (byteOf n).toNat = n := by
  simp [byteOf, Nat.mod_eq_of_lt h]

theorem requestFrame_head (k : RequestKind) (payload : List Byte) : (requestFrame k payload).headD 0#8 = k.code := by
  simp [requestFrame]

theorem requestFrame_length (k : RequestKind) (payload : List Byte) :
    (requestFrame k payload).length = payload.length + 3 := by
  simp [requestFrame]

/-- A request frame can be written: its first byte is not the read code. -/
theorem writeBytesOk_requestFrame (k : RequestKind) (payload : List Byte) :
    writeBytesOk (requestFrame k payload) = true := by
  simp [writeBytesOk, requestFrame, code_ne_readCode]

/-- Checks 1 to 3 of R188 pass on the frame of a request whose payload has a length its kind allows. -/
theorem frameCheck_requestFrame {k : RequestKind} {payload : List Byte} (h : k.allowsLength payload.length = true) :
    frameCheck (requestFrame k payload) = .passed k payload := by
  have hle : payload.length ≤ 18 := RequestKind.length_le h
  have hl : ((requestFrame k payload).getD 1 0#8).toNat = payload.length := by
    rw [show (requestFrame k payload).getD 1 0#8 = byteOf payload.length by simp [requestFrame]]
    exact byteOf_toNat (by omega)
  have hd : (requestFrame k payload).dropLast = k.code :: byteOf payload.length :: payload := by
    unfold requestFrame
    exact List.dropLast_concat
  have hg : (requestFrame k payload).getLastD 0#8 = crc8 (k.code :: byteOf payload.length :: payload) := by
    unfold requestFrame
    rw [List.getLastD_eq_getLast?, List.getLast?_concat]
    rfl
  unfold frameCheck
  simp only [hl, hd, hg, requestFrame_head, requestKindOf_code, requestFrame_length, h]
  simp [requestFrame, show payload.length ≤ 24 by omega]

end Sys2Proof

namespace Sys2Proof.Machine
open Sys2Proof

/-! ## Taking a request -/

/-- A permitted request that its port can take is answered by its block. -/
theorem takeRequest_permitted {p : Port} {k : RequestKind} {payload : List Byte} {s : State} (block : State → Answer)
    (hl : k.allowsLength payload.length = true) (hp : k.permitted p.role = true)
    (h : s.canTake p (requestFrame k payload) = true) :
    takeRequest p k payload block s =
      .next ((block (s.takeOut p (requestFrame k payload))).state.placeReply p
        { kind := k.code, status := (block (s.takeOut p (requestFrame k payload))).status,
          payload := (block (s.takeOut p (requestFrame k payload))).payload }) := by
  simp [takeRequest, State.takeFrame, h, portVerdict, frameCheck_requestFrame hl, hp]

/-- A request not permitted on the port's role is answered PERMISSION (R192). -/
theorem takeRequest_forbidden {p : Port} {k : RequestKind} {payload : List Byte} {s : State} (block : State → Answer)
    (hl : k.allowsLength payload.length = true) (hp : k.permitted p.role = false)
    (h : s.canTake p (requestFrame k payload) = true) :
    takeRequest p k payload block s =
      .next ((s.takeOut p (requestFrame k payload)).placeReply p
        { kind := k.code, status := .permission, payload := [] }) := by
  simp [takeRequest, State.takeFrame, h, portVerdict, frameCheck_requestFrame hl, hp]
  rfl

/-- A request that its port cannot take waits: nothing happens. -/
theorem takeRequest_waits {p : Port} {k : RequestKind} {payload : List Byte} {s : State} (block : State → Answer)
    (h : s.canTake p (requestFrame k payload) = false) : takeRequest p k payload block s = .next s := by
  simp [takeRequest, State.takeFrame, h]

end Sys2Proof.Machine
end

