-- ==== Sys2Proof/Laws/Posts.lean ====
section
/-!
SUPPORT. Every operation of the blocks reaches the ports by notices alone (`OnlyPosts`): one lemma per operation.
-/
namespace Sys2Proof.Machine
open Sys2Proof

/-! ## The relation -/

theorem PostedTo.refl (q : PortState) : PostedTo q q := ⟨[], by simp, rfl⟩

theorem PostedTo.post {q r : PortState} (h : PostedTo q r) {n : Notice} (hn : n ≠ .overflow) : PostedTo q (r.post n) := by
  obtain ⟨ns, h1, h2⟩ := h
  exact ⟨ns ++ [n], by simp [h1, Ne.symm hn], by simp [h2]⟩

theorem PostedTo.trans {q r w : PortState} (h : PostedTo q r) (k : PostedTo r w) : PostedTo q w := by
  obtain ⟨ns, h1, h2⟩ := h
  obtain ⟨ms, k1, k2⟩ := k
  exact ⟨ns ++ ms, by simp [h1, k1], by simp [h2, k2]⟩

/-- A post changes the notice queue and the overflow mark alone. -/
theorem post_keeps (q : PortState) (n : Notice) :
    (q.post n).inbound = q.inbound ∧ (q.post n).replies = q.replies ∧ (q.post n).overrun = q.overrun
      ∧ (q.post n).selected = q.selected ∧ (q.post n).dataOut = q.dataOut := by
  unfold PortState.post
  split
  · simp
  · split <;> simp

theorem PostedTo.keeps {q r : PortState} (h : PostedTo q r) :
    r.inbound = q.inbound ∧ r.replies = q.replies ∧ r.overrun = q.overrun ∧ r.selected = q.selected
      ∧ r.dataOut = q.dataOut := by
  obtain ⟨ns, -, rfl⟩ := h
  induction ns generalizing q with
  | nil => simp
  | cons n ns ih =>
    have := post_keeps q n
    simp only [List.foldl_cons]
    have k := @ih (q.post n)
    simp_all

theorem OnlyPosts.refl (s : State) : OnlyPosts s s := ⟨fun _ => PostedTo.refl _, rfl, rfl⟩

theorem OnlyPosts.trans {s t u : State} (h : OnlyPosts s t) (k : OnlyPosts t u) : OnlyPosts s u :=
  ⟨fun p => (h.1 p).trans (k.1 p), k.2.1.trans h.2.1, k.2.2.trans h.2.2⟩

/-- An update of the blocks alone. -/
theorem OnlyPosts.of_ports {s t u : State} (h : OnlyPosts s t) (hp : u.ports = t.ports) (hq : u.pending = t.pending)
    (hr : u.resetting = t.resetting) : OnlyPosts s u := by
  refine ⟨fun p => ?_, hq.trans h.2.1, hr.trans h.2.2⟩
  have : u.port p = t.port p := by simp [State.port, hp]
  rw [this]; exact h.1 p

theorem OnlyPosts.post {s t : State} (h : OnlyPosts s t) (p : Port) {n : Notice} (hn : n ≠ .overflow) :
    OnlyPosts s (t.post p n) := by
  refine ⟨fun q => ?_, h.2.1, h.2.2⟩
  rw [port_post]
  split
  · subst_vars; exact (h.1 _).post hn
  · exact h.1 q

/-- A fold of an operation that keeps the relation keeps it. -/
theorem OnlyPosts.foldl {α : Type} {s t : State} (f : State → α → State) (hf : ∀ u a, OnlyPosts u (f u a))
    (l : List α) (h : OnlyPosts s t) : OnlyPosts s (l.foldl f t) := by
  induction l generalizing t with
  | nil => exact h
  | cons a l ih => exact ih (h.trans (hf t a))

section Setters
variable {s t : State} (h : OnlyPosts s t)
include h
theorem OnlyPosts.setCarrier (c r) : OnlyPosts s (t.setCarrier c r) := h.of_ports rfl rfl rfl
theorem OnlyPosts.setBranch (b r) : OnlyPosts s (t.setBranch b r) := h.of_ports rfl rfl rfl
theorem OnlyPosts.setBgd (b r) : OnlyPosts s (t.setBgd b r) := h.of_ports rfl rfl rfl
theorem OnlyPosts.setArb (a) : OnlyPosts s (t.setArb a) := h.of_ports rfl rfl rfl
theorem OnlyPosts.setWindow (w r) : OnlyPosts s (t.setWindow w r) := h.of_ports rfl rfl rfl
theorem OnlyPosts.setSiteTime (n) : OnlyPosts s (t.setSiteTime n) := h.of_ports rfl rfl rfl
theorem OnlyPosts.setChannel (k r) : OnlyPosts s (t.setChannel k r) := h.of_ports rfl rfl rfl
theorem OnlyPosts.setSlot (k r) : OnlyPosts s (t.setSlot k r) := h.of_ports rfl rfl rfl
theorem OnlyPosts.setEv (i r) : OnlyPosts s (t.setEv i r) := h.of_ports rfl rfl rfl
theorem OnlyPosts.setRestHold (r) : OnlyPosts s (t.setRestHold r) := h.of_ports rfl rfl rfl
theorem OnlyPosts.setStack (f) : OnlyPosts s (t.setStack f) := h.of_ports rfl rfl rfl
end Setters

/-! ## Channels -/

theorem reportSource_posts (s : State) (report : CauseReport) (source : StartSource) :
    OnlyPosts s (s.reportSource report source) := by
  unfold State.reportSource State.causeReport
  split <;> (try split) <;> exact OnlyPosts.refl s

theorem disarmFor_posts (s : State) (source : Option StartSource) (n : Nat) : OnlyPosts s (s.disarmFor source n) := by
  unfold State.disarmFor
  split
  · split
    · exact (OnlyPosts.refl s).setSlot _ _
    · exact OnlyPosts.refl s
  · exact OnlyPosts.refl s

theorem channelDone_posts (s : State) (k : ChannelId) (source : Option StartSource) (n : Nat) :
    OnlyPosts s (s.channelDone k source n) :=
  (disarmFor_posts s source n).of_ports rfl rfl rfl

theorem postChannelDone_posts (s : State) (k : ChannelId) (result : DoneResult) :
    OnlyPosts s (s.postChannelDone k result) := by
  unfold State.postChannelDone
  simp only
  split
  · exact ((OnlyPosts.refl s).post _ (by simp)).post _ (by simp)
  · exact OnlyPosts.refl s

theorem closeStart_posts (s : State) (k : ChannelId) (result : DoneResult) : OnlyPosts s (s.closeStart k result) :=
  ((((OnlyPosts.refl s).setChannel k _).trans (postChannelDone_posts _ k result)).trans (channelDone_posts _ k _ _))

theorem takeStart_posts (s : State) (k : ChannelId) (source : StartSource) : OnlyPosts s (s.takeStart k source) := by
  unfold State.takeStart
  simp only
  split
  · exact (((OnlyPosts.refl s).setChannel k _).trans (reportSource_posts _ _ _)).trans (closeStart_posts _ _ _)
  · exact ((OnlyPosts.refl s).setChannel k _).trans (reportSource_posts _ _ _)

theorem recordPending_posts (s : State) (k : ChannelId) (source : StartSource) :
    OnlyPosts s (s.recordPending k source) := by
  unfold State.recordPending
  simp only
  split
  · exact ((OnlyPosts.refl s).setChannel k _).trans (reportSource_posts _ _ _)
  · split
    · exact OnlyPosts.refl s
    · exact (((OnlyPosts.refl s).setChannel k _).trans (reportSource_posts _ _ _)).trans (reportSource_posts _ _ _)

theorem deliverStart_posts (s : State) (k : ChannelId) (source : StartSource) :
    OnlyPosts s (s.deliverStart k source) := by
  unfold State.deliverStart
  split
  · exact takeStart_posts s k source
  · exact recordPending_posts s k source

theorem followLink_posts (s : State) (k : ChannelId) : OnlyPosts s (s.followLink k) := by
  unfold State.followLink
  simp only
  split
  · exact deliverStart_posts s _ _
  · exact OnlyPosts.refl s

theorem takePending_posts (s : State) (k : ChannelId) : OnlyPosts s (s.takePending k) := by
  unfold State.takePending
  simp only
  split
  · exact OnlyPosts.refl s
  · exact ((OnlyPosts.refl s).setChannel k _).trans (takeStart_posts _ _ _)

theorem completeDone_posts (s : State) (k : ChannelId) : OnlyPosts s (s.completeDone k) :=
  ((closeStart_posts s k .done).trans (followLink_posts _ k)).trans (takePending_posts _ k)

theorem completeIfDone_posts (s : State) (k : ChannelId) : OnlyPosts s (s.completeIfDone k) := by
  unfold State.completeIfDone
  split
  · exact completeDone_posts s k
  · exact OnlyPosts.refl s

theorem drainOutcome_posts (s : State) (k : ChannelId) (o : DrainOutcome) : OnlyPosts s (s.drainOutcome k o) := by
  unfold State.drainOutcome
  split
  · exact OnlyPosts.refl s
  · exact ((OnlyPosts.refl s).setChannel k _).trans (completeIfDone_posts _ k)

theorem reportOutcome_posts (s : State) (k : Option ChannelId) (o : DrainOutcome) :
    OnlyPosts s (s.reportOutcome k o) := by
  unfold State.reportOutcome
  split
  · exact OnlyPosts.refl s
  · exact drainOutcome_posts s _ o

theorem entryProcessed_posts (s : State) (k : ChannelId) (ch : Channel) : OnlyPosts s (s.entryProcessed k ch) :=
  ((OnlyPosts.refl s).setChannel k _).trans (completeIfDone_posts _ k)

/-! ## Drains -/

theorem postOwner_posts (s : State) (c : CarrierId) {n : Notice} (hn : n ≠ .overflow) :
    OnlyPosts s (s.postOwner c n) := by
  unfold State.postOwner
  split
  · exact OnlyPosts.refl s
  · exact (OnlyPosts.refl s).post _ hn

theorem startDrain_posts (s : State) (c : CarrierId) (k : ChannelId) : OnlyPosts s (s.startDrain c k) :=
  ((OnlyPosts.refl s).setCarrier c _).trans (postOwner_posts _ c (by simp))

theorem processEntry_posts (s : State) (k : ChannelId) : OnlyPosts s (s.processEntry k) := by
  unfold State.processEntry State.entryDeclined
  split
  · exact entryProcessed_posts s k _
  · split
    · exact (startDrain_posts s _ k).trans (entryProcessed_posts _ k _)
    · exact entryProcessed_posts s k _
    · exact (OnlyPosts.refl s).setChannel k _

theorem offerSlots_posts (s : State) (t : TenantId) : OnlyPosts s (s.offerSlots t) := by
  refine OnlyPosts.foldl _ (fun u k => ?_) _ (OnlyPosts.refl s)
  unfold State.offerSlotTo
  split
  · exact processEntry_posts u k
  · exact OnlyPosts.refl u

theorem cancelDrain_posts (s : State) (c : CarrierId) (reason : CancelReason) : OnlyPosts s (s.cancelDrain c reason) :=
  (((OnlyPosts.refl s).setCarrier c _).trans (postOwner_posts _ c (by simp))).trans (reportOutcome_posts _ _ _)

theorem offerOwnersSlots_posts (s : State) (c : CarrierId) : OnlyPosts s (s.offerOwnersSlots c) := by
  unfold State.offerOwnersSlots
  split
  · exact OnlyPosts.refl s
  · exact offerSlots_posts s _

theorem cancelAndOffer_posts (s : State) (c : CarrierId) (reason : CancelReason) :
    OnlyPosts s (s.cancelAndOffer c reason) :=
  (cancelDrain_posts s c reason).trans (offerOwnersSlots_posts _ c)

/-! ## Branches and grants -/

theorem enterBranch_posts (s : State) (b : BranchId) (state : BranchState) : OnlyPosts s (s.enterBranch b state) :=
  (OnlyPosts.refl s).setBranch b _

theorem sendUnmute_posts (s : State) (c : CarrierId) : OnlyPosts s (s.sendUnmute c) :=
  ((OnlyPosts.refl s).setCarrier c _).trans (postOwner_posts _ c (by simp))

theorem reportPowered_posts (s : State) (b : BranchId) : OnlyPosts s (s.reportPowered b) := by
  refine OnlyPosts.foldl _ (fun u c => ?_) _ (OnlyPosts.refl s)
  unfold State.unmuteMember
  split
  · exact sendUnmute_posts u c
  · exact OnlyPosts.refl u

theorem beginLowering_posts (s : State) (b : BranchId) : OnlyPosts s (s.beginLowering b) :=
  (OnlyPosts.refl s).setBranch b _

theorem lingerExpires_posts (s : State) (b : BranchId) : OnlyPosts s (s.lingerExpires b) := by
  unfold State.lingerExpires
  split
  · exact (OnlyPosts.refl s).setBranch b _
  · exact beginLowering_posts s b

theorem enterSettling_posts (s : State) (b : BranchId) : OnlyPosts s (s.enterSettling b) := by
  unfold State.enterSettling
  simp only
  split
  · exact ((OnlyPosts.refl s).setBranch b _).trans (lingerExpires_posts _ b)
  · exact (OnlyPosts.refl s).setBranch b _

theorem settleTest_posts (s : State) (b : BranchId) : OnlyPosts s (s.settleTest b) := by
  unfold State.settleTest
  split
  · exact enterSettling_posts s b
  · exact OnlyPosts.refl s

theorem endRestHold_posts (s : State) : OnlyPosts s s.endRestHold := by
  refine OnlyPosts.foldl _ (fun u b => ?_) _ ((OnlyPosts.refl s).setRestHold false)
  unfold State.lowerIfHeld
  split
  · exact beginLowering_posts u b
  · exact OnlyPosts.refl u

theorem powerGood_posts {consider : State → State} (hc : ∀ u, OnlyPosts u (consider u)) (s : State) (b : BranchId) :
    OnlyPosts s (s.powerGood consider b) :=
  ((((enterBranch_posts s b .powered).setArb _).trans (hc _)).trans (reportPowered_posts _ b)).trans
    (settleTest_posts _ b)

theorem takeGrant_posts {consider : State → State} (hc : ∀ u, OnlyPosts u (consider u)) (s : State) (b : BranchId)
    (g : Grant) : OnlyPosts s (s.takeGrant consider b g) := by
  unfold State.takeGrant
  simp only
  split
  · exact (((OnlyPosts.refl s).setArb _).setBranch b _).trans (powerGood_posts hc _ b)
  · exact ((OnlyPosts.refl s).setArb _).setBranch b _

theorem considerGrantsUpTo_posts (n : Nat) (s : State) : OnlyPosts s (considerGrantsUpTo n s) := by
  induction n generalizing s with
  | zero => exact OnlyPosts.refl s
  | succ n ih =>
    unfold considerGrantsUpTo
    split
    · exact OnlyPosts.refl s
    · exact (takeGrant_posts ih s _ _).trans (ih _)

theorem considerGrants_posts (s : State) : OnlyPosts s s.considerGrants := considerGrantsUpTo_posts _ s

theorem enterQueued_posts (s : State) (b : BranchId) (level : Nat) : OnlyPosts s (s.enterQueued b level) :=
  (((OnlyPosts.refl s).setBranch b _).setArb _).trans (considerGrants_posts _)

theorem raiseQueued_posts (s : State) (b : BranchId) (level : Nat) : OnlyPosts s (s.raiseQueued b level) := by
  unfold State.raiseQueued
  simp only
  split
  · exact (((OnlyPosts.refl s).setBranch b _).setArb _).trans (considerGrants_posts _)
  · exact OnlyPosts.refl s

theorem releaseGrant_posts (s : State) (b : BranchId) (g : Grant) : OnlyPosts s (s.releaseGrant b g) :=
  ((OnlyPosts.refl s).setArb _).trans (considerGrants_posts _)

theorem memberReport_posts (s : State) (report : MemberReport) : OnlyPosts s (s.memberReport report) := by
  unfold State.memberReport State.memberWaking State.memberRaised
  split <;> (simp only; split) <;>
    first
    | exact OnlyPosts.refl s
    | exact (OnlyPosts.refl s).setBranch _ _
    | exact reportPowered_posts s _
    | exact (enterBranch_posts s _ _).trans (reportPowered_posts _ _)
    | exact enterQueued_posts s _ _
    | exact raiseQueued_posts s _ _

theorem goDark_posts (s : State) (b : BranchId) : OnlyPosts s (s.goDark b) := by
  unfold State.goDark
  simp only
  split
  · exact (enterBranch_posts s b .dark).trans (enterQueued_posts _ b _)
  · exact enterBranch_posts s b .dark

/-! ## Wakes -/

theorem wakeCarrier_posts (s : State) (c : CarrierId) (level : Nat) : OnlyPosts s (s.wakeCarrier c level).state := by
  unfold State.wakeCarrier
  simp only
  split
  · exact OnlyPosts.refl s
  · exact OnlyPosts.refl s
  · exact cancelDrain_posts s c .wake
  · split
    · exact (OnlyPosts.refl s).setCarrier c _
    · exact (OnlyPosts.refl s).setCarrier c _
  · split
    · exact (OnlyPosts.refl s).setCarrier c _
    · exact OnlyPosts.refl s
  · exact (OnlyPosts.refl s).setCarrier c _

theorem deliver_posts (w : WakeRound) (c : CarrierId) (level : Nat) : OnlyPosts w.state (w.deliver c level).state :=
  wakeCarrier_posts w.state c level

theorem finish_posts (w : WakeRound) : OnlyPosts w.state w.finish :=
  OnlyPosts.foldl _ memberReport_posts _ (OnlyPosts.foldl _ offerOwnersSlots_posts _ (OnlyPosts.refl _))

/-- A fold over the carriers of a round keeps the relation where each wake of it does. -/
theorem round_posts {s : State} (f : WakeRound → CarrierId → WakeRound)
    (hf : ∀ w c, OnlyPosts w.state (f w c).state) (l : List CarrierId) (w : WakeRound) (h : OnlyPosts s w.state) :
    OnlyPosts s (l.foldl f w).state := by
  induction l generalizing w with
  | nil => exact h
  | cons c l ih => exact ih _ (h.trans (hf w c))

theorem wakeRound_posts (s : State) (reaches : Carrier → Bool) (level : Nat) :
    OnlyPosts s (s.wakeRound reaches level).state := by
  refine round_posts _ (fun w c => ?_) _ _ (OnlyPosts.refl s)
  split
  · exact deliver_posts w c level
  · exact OnlyPosts.refl _

theorem wakeOne_posts (s : State) (c : CarrierId) (level : Nat) : OnlyPosts s (s.wakeOne c level) :=
  (wakeCarrier_posts s c level).trans (finish_posts _)

/-! ## Halt and faults -/

theorem carriersHaltReaction_posts (s : State) : OnlyPosts s s.carriersHaltReaction := by
  refine OnlyPosts.trans (OnlyPosts.foldl _ (fun u c => ?_) carrierIds (OnlyPosts.refl s))
    ((wakeRound_posts _ _ _).trans (finish_posts _))
  unfold State.haltCancel
  split
  · exact cancelAndOffer_posts u c .halt
  · exact OnlyPosts.refl u

theorem branchesHaltReaction_posts (s : State) : OnlyPosts s s.branchesHaltReaction := by
  refine OnlyPosts.foldl _ (fun u b => ?_) _ (OnlyPosts.refl s)
  unfold State.branchHaltReaction
  split <;> first | exact OnlyPosts.refl u | exact enterBranch_posts u b _ | exact enterQueued_posts u b _

theorem channelsHaltReaction_posts (s : State) : OnlyPosts s s.channelsHaltReaction := by
  refine OnlyPosts.foldl _ (fun u k => ?_) _ (OnlyPosts.refl s)
  unfold State.channelHaltReaction
  simp only
  split
  · exact (OnlyPosts.refl u).setChannel k _
  · exact ((OnlyPosts.refl u).setChannel k _).trans (reportSource_posts _ _ _)

theorem haltReactions_posts (s : State) (order : HaltOrder) : OnlyPosts s (s.haltReactions order) := by
  have hc := carriersHaltReaction_posts
  have hb := branchesHaltReaction_posts
  have hk := channelsHaltReaction_posts
  cases order
  · exact ((hc s).trans (hb _)).trans (hk _)
  · exact ((hc s).trans (hk _)).trans (hb _)
  · exact ((hb s).trans (hc _)).trans (hk _)
  · exact ((hb s).trans (hk _)).trans (hc _)
  · exact ((hk s).trans (hc _)).trans (hb _)
  · exact ((hk s).trans (hb _)).trans (hc _)

theorem announceHalt_posts (s : State) (reason : HaltReason) : OnlyPosts s (s.announceHalt reason) :=
  OnlyPosts.foldl _ (fun u p => (OnlyPosts.refl u).post p (by simp)) _ ((OnlyPosts.refl s).setStack _)

theorem enterHaltIn_posts (s : State) (order : HaltOrder) (reason : HaltReason) :
    OnlyPosts s (s.enterHaltIn order reason) :=
  (announceHalt_posts s reason).trans (haltReactions_posts _ order)

theorem haltDraw_posts (s : State) (n : Nat) : OnlyPosts s { s with haltDraws := n } :=
  ⟨fun _ => PostedTo.refl _, rfl, rfl⟩

theorem enterHalt_posts (s : State) (reason : HaltReason) : OnlyPosts s (s.enterHalt reason) := by
  unfold State.enterHalt
  exact (haltDraw_posts s _).trans (enterHaltIn_posts _ _ reason)

theorem pushFault_posts (s : State) (r : FaultRecord) : OnlyPosts s (s.pushFault r) := by
  unfold State.pushFault
  split
  · exact OnlyPosts.refl s
  · split
    · exact ((OnlyPosts.refl s).setStack _).post _ (by simp)
    · exact enterHalt_posts s _

theorem rampDownFails_posts (s : State) (b : BranchId) : OnlyPosts s (s.rampDownFails b) :=
  (enterBranch_posts s b .faulted).trans (pushFault_posts _ _)

theorem rampUpFails_posts (s : State) (b : BranchId) : OnlyPosts s (s.rampUpFails b) :=
  ((enterBranch_posts s b .faulted).trans (releaseGrant_posts _ b _)).trans (pushFault_posts _ _)

theorem memberLosesPower_posts (s : State) (c : CarrierId) : OnlyPosts s (s.memberLosesPower c) := by
  unfold State.memberLosesPower
  simp only
  split
  · exact (OnlyPosts.refl s).setCarrier c _
  · exact ((((OnlyPosts.refl s).setCarrier c _).trans (postOwner_posts _ c (by simp))).trans
      (reportOutcome_posts _ _ _)).trans (offerOwnersSlots_posts _ c)
  · exact (OnlyPosts.refl s).setCarrier c _
  · exact OnlyPosts.refl s
  · exact OnlyPosts.refl s
  · exact OnlyPosts.refl s

theorem carriersLosePower_posts (s : State) (b : BranchId) : OnlyPosts s (s.carriersLosePower b) :=
  OnlyPosts.foldl _ memberReport_posts _
    (OnlyPosts.foldl _ (fun u c => postOwner_posts u c (by simp)) _
      (OnlyPosts.foldl _ memberLosesPower_posts _ (OnlyPosts.refl s)))

theorem losePower_posts (s : State) (b : BranchId) : OnlyPosts s (s.losePower b) :=
  ((enterBranch_posts s b .faulted).trans (carriersLosePower_posts _ b)).trans (pushFault_posts _ _)

theorem resolveToPowered_posts (s : State) (b : BranchId) : OnlyPosts s (s.resolveToPowered b) := by
  unfold State.resolveToPowered
  simp only
  split
  · exact ((enterBranch_posts s b .powered).trans (reportPowered_posts _ b)).trans (settleTest_posts _ b)
  · exact (enterBranch_posts s b .powered).trans (losePower_posts _ b)

theorem barMember_posts (s : State) (b : BranchId) (c : CarrierId) : OnlyPosts s (s.barMember b c) := by
  unfold State.barMember
  simp only
  split <;>
    first
    | exact OnlyPosts.refl s
    | exact ((OnlyPosts.refl s).setCarrier c _).trans (postOwner_posts _ c (by simp))

theorem retireBranch_posts (s : State) (b : BranchId) : OnlyPosts s (s.retireBranch b) :=
  OnlyPosts.foldl _ (fun u c => barMember_posts u b c) _ (enterBranch_posts s b .out)

theorem disposeBranchFault_posts (s : State) (kind : BranchFault) (b : BranchId) (d : Disposition) :
    OnlyPosts s (s.disposeBranchFault kind b d) := by
  unfold State.disposeBranchFault
  split
  · split
    · exact beginLowering_posts s b
    · exact resolveToPowered_posts s b
  · exact ((OnlyPosts.refl s).setBranch b _).trans (resolveToPowered_posts _ b)
  · exact enterQueued_posts s b _
  · exact enterQueued_posts s b _
  · exact retireBranch_posts s b
  · exact retireBranch_posts s b

theorem comesLive_posts (s : State) (c : CarrierId) : OnlyPosts s (s.comesLive c) := by
  refine OnlyPosts.foldl _ (fun u m => ?_) _ ((OnlyPosts.refl s).setCarrier c _)
  unfold State.postCarrierOn
  split
  · exact (OnlyPosts.refl u).post _ (by simp)
  · exact OnlyPosts.refl u

theorem dispose_posts (s : State) (r : FaultRecord) (d : Disposition) : OnlyPosts s (s.dispose r d) := by
  unfold State.dispose
  split
  · split
    · exact disposeBranchFault_posts s _ _ d
    · exact OnlyPosts.refl s
  · split
    · exact OnlyPosts.refl s
    · unfold State.disposeLiveTimeout
      split
      · split
        · exact sendUnmute_posts s _
        · exact comesLive_posts s _
      · exact OnlyPosts.refl s

theorem liveTimesOut_posts (s : State) (c : CarrierId) : OnlyPosts s (s.liveTimesOut c) :=
  ((OnlyPosts.refl s).setCarrier c _).trans (pushFault_posts _ _)

/-! ## Causes, the rest hold and windows -/

theorem causeOccurs_posts (s : State) (k : SlotId) : OnlyPosts s (s.causeOccurs k) := by
  unfold State.causeOccurs
  simp only
  split
  · split
    · exact (OnlyPosts.refl s).setSlot k _
    · exact ((OnlyPosts.refl s).setSlot k _).trans (deliverStart_posts _ _ _)
  · split
    · exact (OnlyPosts.refl s).setSlot k _
    · exact ((OnlyPosts.refl s).setSlot k _).post _ (by simp)

theorem holdBecomes_posts (s : State) (h : Bool) : OnlyPosts s (s.holdBecomes h) := by
  unfold State.holdBecomes
  split
  · exact endRestHold_posts s
  · exact (OnlyPosts.refl s).setRestHold h

theorem holdawkActs_posts (s : State) (active : Bool) : OnlyPosts s (s.holdawkActs active) := by
  unfold State.holdawkActs
  split
  · exact OnlyPosts.refl s
  · exact holdBecomes_posts s _
  · exact holdBecomes_posts s _
  · exact OnlyPosts.refl s
  · exact ((holdBecomes_posts s true).trans (wakeRound_posts _ _ _)).trans (finish_posts _)
  · exact holdBecomes_posts s _

theorem openEvent_posts (s : State) (w : WindowId) : OnlyPosts s (s.openEvent w) :=
  (((OnlyPosts.refl s).setWindow w _).trans (causeOccurs_posts _ _)).post _ (by simp)

theorem closeEvent_posts (s : State) (w : WindowId) : OnlyPosts s (s.closeEvent w) := by
  have h1 : OnlyPosts s (carrierIds.foldl (fun s c => s.closeCancels w c)
      (s.closeWindow w)) := by
    refine OnlyPosts.foldl _ (fun u c => ?_) _ (((OnlyPosts.refl s).setWindow w _).post _ (by simp))
    unfold State.closeCancels
    split
    · exact cancelAndOffer_posts u c .windowClosed
    · exact OnlyPosts.refl u
  have h2 : ∀ u : State, OnlyPosts u
      (carrierIds.foldl (fun round c => round.deliverClose w c) (WakeRound.start u)).finish := by
    intro u
    refine (round_posts _ (fun r c => ?_) carrierIds (WakeRound.start u) (OnlyPosts.refl u)).trans (finish_posts _)
    unfold WakeRound.deliverClose
    simp only
    split
    · split
      · exact deliver_posts r c 1
      · exact (deliver_posts r c _).trans (deliver_posts _ c 1)
    · exact OnlyPosts.refl _
  have h3 : ∀ u : State, OnlyPosts u u.endLatchedHold := by
    intro u
    unfold State.endLatchedHold
    split
    · exact endRestHold_posts u
    · exact OnlyPosts.refl u
  have h4 : ∀ u : State, OnlyPosts u (u.closeSwap w) := by
    intro u
    unfold State.closeSwap
    simp only
    split
    · exact (OnlyPosts.refl u).setWindow w _
    · exact OnlyPosts.refl u
  exact ((h1.trans (h2 _)).trans (h3 _)).trans (h4 _)

theorem recompute_posts (s : State) : OnlyPosts s s.recompute := by
  refine OnlyPosts.foldl _ (fun u w => ?_) _ (OnlyPosts.refl s)
  unfold State.recomputeWindow
  split
  · exact openEvent_posts u w
  · exact closeEvent_posts u w
  · exact OnlyPosts.refl u
  · exact OnlyPosts.refl u

theorem advanceTime_posts (s : State) : OnlyPosts s s.advanceTime :=
  ((OnlyPosts.refl s).setSiteTime _).trans (recompute_posts _)

/-- An event taken at another second. -/
theorem atSecond_posts (s : State) (d : Nat) {event : State → State} (he : ∀ u, OnlyPosts u (event u)) :
    OnlyPosts s (s.atSecond d event) :=
  (((OnlyPosts.refl s).setSiteTime d).trans (he _)).setSiteTime _

end Sys2Proof.Machine
end

