-- ==== Sys2Proof/Laws/Answers.lean ====
section
/-!
SUPPORT. What every block's answer to a request is like (`Answer.Proper`): its state differs from the one it was given
by the blocks and by notices, and its payload fits its status (R189).
-/
namespace Sys2Proof.Machine
open Sys2Proof

/-- The answer reaches the ports by notices alone, and only OK and STALE carry a payload (R189). -/
def Answer.Proper (s : State) (a : Answer) : Prop :=
  OnlyPosts s a.state ∧ (a.status ≠ .ok → a.status ≠ .stale → a.payload = [])
    ∧ (a.status = .stale → a.payload.length = 3)

theorem ok_proper {s t : State} (h : OnlyPosts s t) : (Answer.ok t).Proper s := ⟨h, by simp [Answer.ok], by simp [Answer.ok]⟩

theorem okWith_proper {s t : State} (h : OnlyPosts s t) (payload : List Byte) : (Answer.okWith payload t).Proper s :=
  ⟨h, by simp [Answer.okWith], by simp [Answer.okWith]⟩

theorem fail_proper (s : State) {status : Status} (h : status ≠ .stale) : (Answer.fail status s).Proper s :=
  ⟨OnlyPosts.refl s, by simp [Answer.fail], by simp [Answer.fail, h]⟩

/-- The answers of the requests that name an owned carrier (R3). -/
theorem ownCarrier_proper (p : Port) (b : Byte) (s : State) {act : CarrierId → Answer} (h : ∀ c, (act c).Proper s) :
    (ownCarrier p b s act).Proper s := by
  unfold ownCarrier
  split
  · exact fail_proper s (by decide)
  · split
    · exact h _
    · exact fail_proper s (by decide)

theorem offerAnswer_proper (p b s) : (offerAnswer p b s).Proper s := by
  refine ownCarrier_proper p b s fun c => ?_
  split
  · exact fail_proper s (by decide)
  · split
    · exact fail_proper s (by decide)
    · exact ok_proper ((OnlyPosts.refl s).setCarrier _ _)

theorem withdrawAnswer_proper (p b s) : (withdrawAnswer p b s).Proper s := by
  refine ownCarrier_proper p b s fun c => ?_
  split
  · exact fail_proper s (by decide)
  · split
    · exact ok_proper (cancelAndOffer_posts s _ _)
    · exact ok_proper ((OnlyPosts.refl s).setCarrier _ _)

theorem restCarrier_posts (s : State) (c : CarrierId) : OnlyPosts s (s.restCarrier c) := by
  unfold State.restCarrier State.memberResting
  have h : OnlyPosts s ((((s.setCarrier c (s.carrier c).rest).postOwner c (.rested c)).reportOutcome
      (s.carrier c).drainChannel .rested).offerOwnersSlots c) :=
    ((((OnlyPosts.refl s).setCarrier _ _).trans (postOwner_posts _ _ (by simp))).trans
      (reportOutcome_posts _ _ _)).trans (offerOwnersSlots_posts _ _)
  simp only
  split
  · exact h
  · exact h.trans (settleTest_posts _ _)

theorem drainedAnswer_proper (p b s) : (drainedAnswer p b s).Proper s := by
  refine ownCarrier_proper p b s fun c => ?_
  split
  · exact ok_proper (restCarrier_posts s c)
  · exact fail_proper s (by decide)

theorem liveAnswer_proper (p b s) : (liveAnswer p b s).Proper s := by
  refine ownCarrier_proper p b s fun c => ?_
  split
  · exact ok_proper ((comesLive_posts s c).setStack _)
  · exact fail_proper s (by decide)

theorem wakeAnswer_proper (p b l s) : (wakeAnswer p b l s).Proper s := by
  unfold wakeAnswer
  split
  · exact fail_proper s (by decide)
  · exact ownCarrier_proper p b s fun c => okWith_proper (wakeOne_posts s _ _) _

theorem holdCarrier_posts (s : State) (c : CarrierId) (m : Claimant) (l : Nat) : OnlyPosts s (s.holdCarrier c m l) := by
  unfold State.holdCarrier
  simp only
  split
  · exact ((OnlyPosts.refl s).setCarrier _ _).trans (cancelAndOffer_posts _ _ _)
  · exact ((OnlyPosts.refl s).setCarrier _ _).trans (wakeOne_posts _ _ _)

theorem holdAnswer_proper (p b l s) : (holdAnswer p b l s).Proper s := by
  unfold holdAnswer
  split
  · split
    · exact fail_proper s (by decide)
    · split
      · exact fail_proper s (by decide)
      · exact okWith_proper (holdCarrier_posts s _ _ _) _
  · exact fail_proper s (by decide)

theorem releaseAnswer_proper (p b s) : (releaseAnswer p b s).Proper s := by
  unfold releaseAnswer
  split
  · split
    · exact fail_proper s (by decide)
    · split
      · exact fail_proper s (by decide)
      · exact okWith_proper ((OnlyPosts.refl s).setCarrier _ _) _
  · exact fail_proper s (by decide)

theorem forceWakeAnswer_proper (sc ix s) : (forceWakeAnswer sc ix s).Proper s := by
  unfold forceWakeAnswer
  split
  · exact fail_proper s (by decide)
  · split
    · exact fail_proper s (by decide)
    · exact okWith_proper ((wakeRound_posts s _ _).trans (finish_posts _)) _

theorem setBudgetAnswer_proper (b s) : (setBudgetAnswer b s).Proper s := by
  unfold setBudgetAnswer
  split
  · exact fail_proper s (by decide)
  · refine okWith_proper ?_ _
    simp only
    split
    · exact ((OnlyPosts.refl s).setArb _).trans (considerGrants_posts _)
    · exact (OnlyPosts.refl s).setArb _

theorem setRampAnswer_proper (d u s) : (setRampAnswer d u s).Proper s := by
  unfold setRampAnswer
  split
  · exact ok_proper ((OnlyPosts.refl s).of_ports rfl rfl rfl)
  · exact fail_proper s (by decide)

theorem pinBranch_posts (s : State) (b : BranchId) : OnlyPosts s (s.pinBranch b) := by
  unfold State.pinBranch
  simp only
  split <;>
    first
    | exact (OnlyPosts.refl s).setBranch _ _
    | exact ((OnlyPosts.refl s).setBranch _ _).trans (enterQueued_posts _ _ _)
    | exact OnlyPosts.refl s

theorem pinAnswer_proper (b s) : (pinAnswer b s).Proper s := by
  unfold pinAnswer
  split
  · exact fail_proper s (by decide)
  · split
    · exact fail_proper s (by decide)
    · split
      · exact fail_proper s (by decide)
      · exact ok_proper (pinBranch_posts s _)

theorem unpinAnswer_proper (b s) : (unpinAnswer b s).Proper s := by
  unfold unpinAnswer
  split
  · exact fail_proper s (by decide)
  · split
    · exact fail_proper s (by decide)
    · split
      · exact fail_proper s (by decide)
      · exact ok_proper (((OnlyPosts.refl s).setBranch _ _).trans (settleTest_posts _ _))

theorem bringBack_posts (s : State) (b : BranchId) : OnlyPosts s (s.bringBack b) := by
  have h2 : ∀ u : State, OnlyPosts u (u.queueIfPinned b) := by
    intro u
    unfold State.queueIfPinned
    split
    · exact enterQueued_posts u b 1
    · exact OnlyPosts.refl u
  refine ((round_posts _ (fun w c => ?_) _ (WakeRound.start _) (enterBranch_posts s b .dark)).trans (finish_posts _)).trans
    (h2 _)
  unfold WakeRound.restoreMember
  simp only
  have h1 : OnlyPosts w.state ((w.state.setCarrier c { w.state.carrier c with state := .resting }).postOwner c
      (.restored c b)) := ((OnlyPosts.refl _).setCarrier _ _).trans (postOwner_posts _ _ (by simp))
  split
  · split
    · exact h1
    · exact h1.trans (deliver_posts _ c _)
  · exact OnlyPosts.refl _

theorem returnBranchAnswer_proper (b s) : (returnBranchAnswer b s).Proper s := by
  unfold returnBranchAnswer
  split
  · exact fail_proper s (by decide)
  · split
    · exact ok_proper (bringBack_posts s _)
    · exact fail_proper s (by decide)

theorem resolveAnswer_proper (k su d s) : (resolveAnswer k su d s).Proper s := by
  unfold resolveAnswer
  split
  · split
    · exact fail_proper s (by decide)
    · split
      · exact fail_proper s (by decide)
      · split
        · exact okWith_proper (((OnlyPosts.refl s).setStack _).trans (dispose_posts _ _ _)) _
        · exact ⟨OnlyPosts.refl s, by simp, by simp⟩
  · exact fail_proper s (by decide)

theorem haltAnswer_proper (s) : (haltAnswer s).Proper s := by
  unfold haltAnswer
  split
  · exact fail_proper s (by decide)
  · exact ok_proper (enterHalt_posts s _)

theorem lines_posts (s : State) (u : CauseUnit) : OnlyPosts s { s with lines := u } :=
  ⟨fun _ => PostedTo.refl _, rfl, rfl⟩

theorem setHoldModeAnswer_proper (m i s) : (setHoldModeAnswer m i s).Proper s := by
  unfold setHoldModeAnswer
  split
  · refine okWith_proper ?_ _
    unfold State.setHoldMode
    exact (lines_posts s _).trans (holdBecomes_posts _ _)
  · exact fail_proper s (by decide)

theorem clearHoldAnswer_proper (s) : (clearHoldAnswer s).Proper s := by
  unfold clearHoldAnswer
  split
  · exact fail_proper s (by decide)
  · split
    · exact ok_proper (endRestHold_posts s)
    · exact fail_proper s (by decide)

theorem setOutputAnswer_proper (o so c s) : (setOutputAnswer o so c s).Proper s := by
  unfold setOutputAnswer
  split
  · exact okWith_proper ((OnlyPosts.refl s).of_ports rfl rfl rfl) _
  · exact fail_proper s (by decide)

theorem startChannelAnswer_proper (p c s) : (startChannelAnswer p c s).Proper s := by
  unfold startChannelAnswer
  split
  · exact fail_proper s (by decide)
  · split
    · exact fail_proper s (by decide)
    · exact okWith_proper (deliverStart_posts s _ _) _

theorem provisionBranchAnswer_proper (b s) : (provisionBranchAnswer b s).Proper s := by
  unfold provisionBranchAnswer
  split
  · exact fail_proper s (by decide)
  · split
    · exact fail_proper s (by decide)
    · split
      · exact fail_proper s (by decide)
      · exact ok_proper ((OnlyPosts.refl s).setBranch _ _)

theorem deprovisionBranchAnswer_proper (b s) : (deprovisionBranchAnswer b s).Proper s := by
  unfold deprovisionBranchAnswer
  split
  · exact fail_proper s (by decide)
  · split
    · exact ok_proper ((OnlyPosts.refl s).setBranch _ _)
    · exact fail_proper s (by decide)

theorem provisionCarrierAnswer_proper (c o se b l w s) : (provisionCarrierAnswer c o se b l w s).Proper s := by
  unfold provisionCarrierAnswer
  split
  · split
    · exact fail_proper s (by decide)
    · split
      · exact fail_proper s (by decide)
      · split
        · exact fail_proper s (by decide)
        · exact ok_proper (((OnlyPosts.refl s).setCarrier _ _).setBranch _ _)
  · exact fail_proper s (by decide)

theorem removeCarrier_posts (s : State) (c : CarrierId) : OnlyPosts s (s.removeCarrier c) := by
  unfold State.removeCarrier
  simp only
  split
  · exact (OnlyPosts.refl s).setCarrier _ _
  · exact (((OnlyPosts.refl s).setCarrier _ _).setBranch _ _).trans (settleTest_posts _ _)

theorem deprovisionCarrierAnswer_proper (c s) : (deprovisionCarrierAnswer c s).Proper s := by
  unfold deprovisionCarrierAnswer
  split
  · exact fail_proper s (by decide)
  · split
    · exact ok_proper (removeCarrier_posts s _)
    · exact fail_proper s (by decide)

theorem floorSet_posts (s : State) (t : TenantId) (sec : SectorId) (f : Nat) : OnlyPosts s (s.floorSet t sec f).state := by
  have h : OnlyPosts s (s.setFloorOf t sec f) := (OnlyPosts.refl s).of_ports rfl rfl rfl
  unfold State.floorSet
  simp only
  split
  · refine round_posts _ (fun w c => ?_) _ (WakeRound.start _) h
    unfold WakeRound.deliverFloor
    simp only
    split
    · exact deliver_posts w c 7
    · exact OnlyPosts.refl _
  · exact h

theorem setFloorAnswer_proper (t se f s) : (setFloorAnswer t se f s).Proper s := by
  unfold setFloorAnswer
  split
  · exact okWith_proper ((floorSet_posts s _ _ _).trans (finish_posts _)) _
  · exact fail_proper s (by decide)

theorem setTimersAnswer_proper (d l n s) : (setTimersAnswer d l n s).Proper s := by
  unfold setTimersAnswer
  split
  · exact ok_proper ((OnlyPosts.refl s).of_ports rfl rfl rfl)
  · exact fail_proper s (by decide)

theorem setDrainLimitAnswer_proper (t l s) : (setDrainLimitAnswer t l s).Proper s := by
  have h : ∀ t l, OnlyPosts s (s.setDrainLimit t l) := fun _ _ => (OnlyPosts.refl s).of_ports rfl rfl rfl
  unfold setDrainLimitAnswer
  split
  · refine ok_proper ?_
    split
    · exact (h _ _).trans (offerSlots_posts _ _)
    · exact h _ _
  · exact fail_proper s (by decide)

theorem stepTime_posts (s : State) (n : Nat) : OnlyPosts s (s.stepTime n) :=
  ⟨fun _ => PostedTo.refl _, rfl, rfl⟩

theorem timeSet_posts (s : State) (n : Nat) : OnlyPosts s (s.timeSet n) := by
  unfold State.timeSet
  split
  · exact OnlyPosts.refl s
  · exact (stepTime_posts s n).trans (recompute_posts _)

theorem setTimeAnswer_proper (n s) : (setTimeAnswer n s).Proper s := by
  unfold setTimeAnswer
  split
  · exact okWith_proper (timeSet_posts s _) _
  · exact fail_proper s (by decide)

theorem writeWindowAnswer_proper (w e o c d q s) : (writeWindowAnswer w e o c d q s).Proper s := by
  unfold writeWindowAnswer
  split
  · exact ok_proper ((OnlyPosts.refl s).setWindow _ _)
  · exact fail_proper s (by decide)

theorem commitWindowAnswer_proper (w s) : (commitWindowAnswer w s).Proper s := by
  unfold commitWindowAnswer
  split
  · exact fail_proper s (by decide)
  · simp only
    split <;> exact okWith_proper ((OnlyPosts.refl s).setWindow _ _) _

theorem writeChannelAnswer_proper (c m p b n g le lt cn s) : (writeChannelAnswer c m p b n g le lt cn s).Proper s := by
  unfold writeChannelAnswer
  split
  · split
    · exact fail_proper s (by decide)
    · split
      · exact ok_proper ((OnlyPosts.refl s).setChannel _ _)
      · exact fail_proper s (by decide)
  · exact fail_proper s (by decide)

theorem writeListAnswer_proper (f n e s) : (writeListAnswer f n e s).Proper s := by
  unfold writeListAnswer
  split
  · split
    · exact fail_proper s (by decide)
    · split
      · exact fail_proper s (by decide)
      · exact ok_proper ((OnlyPosts.refl s).of_ports rfl rfl rfl)
  · exact fail_proper s (by decide)

theorem startMapped_posts (s : State) (k : SlotId) (e : Bool) : OnlyPosts s (s.startMapped k e) := by
  unfold State.startMapped
  simp only
  split
  · exact deliverStart_posts s _ _
  · exact OnlyPosts.refl s

theorem mapCauseAnswer_proper (k t e d s) : (mapCauseAnswer k t e d s).Proper s := by
  unfold mapCauseAnswer
  split
  · exact okWith_proper (((OnlyPosts.refl s).setSlot _ _).trans (startMapped_posts _ _ _)) _
  · exact fail_proper s (by decide)

theorem clearCauseAnswer_proper (k s) : (clearCauseAnswer k s).Proper s := by
  unfold clearCauseAnswer
  split
  · exact fail_proper s (by decide)
  · split
    · exact fail_proper s (by decide)
    · exact ok_proper ((OnlyPosts.refl s).setSlot _ _)

theorem setInputAnswer_proper (i e r l t c s) : (setInputAnswer i e r l t c s).Proper s := by
  unfold setInputAnswer
  split
  · exact okWith_proper ((OnlyPosts.refl s).of_ports rfl rfl rfl) _
  · exact fail_proper s (by decide)

theorem readSiteAnswer_proper (s) : (readSiteAnswer s).Proper s := okWith_proper (OnlyPosts.refl s) _

theorem readCarrierAnswer_proper (c s) : (readCarrierAnswer c s).Proper s := by
  unfold readCarrierAnswer
  split
  · exact fail_proper s (by decide)
  · exact okWith_proper (OnlyPosts.refl s) _

theorem readBranchAnswer_proper (b s) : (readBranchAnswer b s).Proper s := by
  unfold readBranchAnswer
  split
  · exact fail_proper s (by decide)
  · exact okWith_proper (OnlyPosts.refl s) _

theorem readWindowAnswer_proper (w s) : (readWindowAnswer w s).Proper s := by
  unfold readWindowAnswer
  split
  · exact fail_proper s (by decide)
  · exact okWith_proper (OnlyPosts.refl s) _

theorem readChannelAnswer_proper (c s) : (readChannelAnswer c s).Proper s := by
  unfold readChannelAnswer
  split
  · exact fail_proper s (by decide)
  · exact okWith_proper (OnlyPosts.refl s) _

theorem readCausesAnswer_proper (s) : (readCausesAnswer s).Proper s := okWith_proper (OnlyPosts.refl s) _

theorem readFaultsAnswer_proper (d s) : (readFaultsAnswer d s).Proper s := by
  unfold readFaultsAnswer
  split
  · exact fail_proper s (by decide)
  · split
    · exact fail_proper s (by decide)
    · exact okWith_proper (OnlyPosts.refl s) _

/-- Every request row but RESTART and PORT_RESET is the taking of a request whose block answers properly. -/
theorem exec_request {i : Instr} {p : Port} {k : RequestKind} {payload : List Byte}
    (h : requestOf i = some (p, k, payload)) (hp : k ≠ .portReset) (hr : k ≠ .restart) :
    ∃ block, (∀ s, exec i s = takeRequest p k payload block s) ∧ ∀ s, (block s).Proper s := by
  cases i <;> simp only [requestOf, Option.some.injEq, Prod.mk.injEq, reduceCtorEq] at h <;>
    obtain ⟨rfl, rfl, rfl⟩ := h
  · exact ⟨_, fun _ => rfl, offerAnswer_proper _ _⟩
  · exact ⟨_, fun _ => rfl, withdrawAnswer_proper _ _⟩
  · exact ⟨_, fun _ => rfl, drainedAnswer_proper _ _⟩
  · exact ⟨_, fun _ => rfl, liveAnswer_proper _ _⟩
  · exact ⟨_, fun _ => rfl, wakeAnswer_proper _ _ _⟩
  · exact ⟨_, fun _ => rfl, holdAnswer_proper _ _ _⟩
  · exact ⟨_, fun _ => rfl, releaseAnswer_proper _ _⟩
  · exact ⟨_, fun _ => rfl, forceWakeAnswer_proper _ _⟩
  · exact ⟨_, fun _ => rfl, setBudgetAnswer_proper _⟩
  · exact ⟨_, fun _ => rfl, setRampAnswer_proper _ _⟩
  · exact ⟨_, fun _ => rfl, pinAnswer_proper _⟩
  · exact ⟨_, fun _ => rfl, unpinAnswer_proper _⟩
  · exact ⟨_, fun _ => rfl, returnBranchAnswer_proper _⟩
  · exact ⟨_, fun _ => rfl, resolveAnswer_proper _ _ _⟩
  · exact ⟨_, fun _ => rfl, haltAnswer_proper⟩
  · exact ⟨_, fun _ => rfl, setHoldModeAnswer_proper _ _⟩
  · exact ⟨_, fun _ => rfl, clearHoldAnswer_proper⟩
  · exact ⟨_, fun _ => rfl, setOutputAnswer_proper _ _ _⟩
  · exact ⟨_, fun _ => rfl, startChannelAnswer_proper _ _⟩
  · exact ⟨_, fun _ => rfl, provisionBranchAnswer_proper _⟩
  · exact ⟨_, fun _ => rfl, deprovisionBranchAnswer_proper _⟩
  · exact ⟨_, fun _ => rfl, provisionCarrierAnswer_proper _ _ _ _ _ _⟩
  · exact ⟨_, fun _ => rfl, deprovisionCarrierAnswer_proper _⟩
  · exact ⟨_, fun _ => rfl, setFloorAnswer_proper _ _ _⟩
  · exact ⟨_, fun _ => rfl, setTimersAnswer_proper _ _ _⟩
  · exact ⟨_, fun _ => rfl, setDrainLimitAnswer_proper _ _⟩
  · exact ⟨_, fun _ => rfl, setTimeAnswer_proper _⟩
  · exact ⟨_, fun _ => rfl, writeWindowAnswer_proper _ _ _ _ _ _⟩
  · exact ⟨_, fun _ => rfl, commitWindowAnswer_proper _⟩
  · exact ⟨_, fun _ => rfl, writeChannelAnswer_proper _ _ _ _ _ _ _ _ _⟩
  · exact ⟨_, fun _ => rfl, writeListAnswer_proper _ _ _⟩
  · exact ⟨_, fun _ => rfl, mapCauseAnswer_proper _ _ _ _⟩
  · exact ⟨_, fun _ => rfl, clearCauseAnswer_proper _⟩
  · exact ⟨_, fun _ => rfl, setInputAnswer_proper _ _ _ _ _ _⟩
  · exact absurd rfl hr
  · exact ⟨_, fun _ => rfl, readSiteAnswer_proper⟩
  · exact ⟨_, fun _ => rfl, readCarrierAnswer_proper _⟩
  · exact ⟨_, fun _ => rfl, readBranchAnswer_proper _⟩
  · exact ⟨_, fun _ => rfl, readWindowAnswer_proper _⟩
  · exact ⟨_, fun _ => rfl, readChannelAnswer_proper _⟩
  · exact ⟨_, fun _ => rfl, readCausesAnswer_proper⟩
  · exact ⟨_, fun _ => rfl, readFaultsAnswer_proper _⟩
  · exact absurd rfl hp

end Sys2Proof.Machine
end

