-- ==== Sys2Proof/Laws/Blocks.lean ====
section
/-!
SUPPORT. What the shared operations leave unchanged beside the ports: drains, starts and completions keep the Branch
Controller and the arbiter, branch transitions and grants keep the channels and the lines, and both keep the rest.
-/
namespace Sys2Proof.Machine
open Sys2Proof

/-! # Drains and channels -/

/-- Nothing but carrier records, channels, the Rest List, lines and ports has changed. -/
def DrainFrame (s t : State) : Prop :=
  t.ctrl = s.ctrl
    ∧ t.arb = s.arb
    ∧ t.table.floors = s.table.floors
    ∧ t.table.drainLimits = s.table.drainLimits
    ∧ t.table.drainTime = s.table.drainTime
    ∧ t.table.liveTime = s.table.liveTime
    ∧ t.timer = s.timer
    ∧ t.stack = s.stack
    ∧ t.haltDraws = s.haltDraws

theorem DrainFrame.refl (s : State) : DrainFrame s s := by simp [DrainFrame]

theorem DrainFrame.trans {s t u : State} (h : DrainFrame s t) (k : DrainFrame t u) : DrainFrame s u := by
  simp_all [DrainFrame]

theorem DrainFrame.foldl {α : Type} {s t : State} (f : State → α → State) (hf : ∀ u a, DrainFrame u (f u a)) (l : List α)
    (h : DrainFrame s t) : DrainFrame s (l.foldl f t) := by
  induction l generalizing t with
  | nil => exact h
  | cons a l ih => exact ih (h.trans (hf t a))

section Setters
variable {s t : State} (h : DrainFrame s t)
include h
theorem DrainFrame.setCarrier (c r) : DrainFrame s (t.setCarrier c r) := h
theorem DrainFrame.setChannel (k r) : DrainFrame s (t.setChannel k r) := h
theorem DrainFrame.setSlot (k r) : DrainFrame s (t.setSlot k r) := h
theorem DrainFrame.post (p n) : DrainFrame s (t.post p n) := h
end Setters

theorem reportSource_drainFrame (s : State) (report : CauseReport) (source : StartSource) :
    DrainFrame s (s.reportSource report source) := by
  unfold State.reportSource State.causeReport
  split <;> (try split) <;> exact DrainFrame.refl s

theorem disarmFor_drainFrame (s : State) (source : Option StartSource) (n : Nat) : DrainFrame s (s.disarmFor source n) := by
  unfold State.disarmFor
  split
  · split
    · exact (DrainFrame.refl s).setSlot _ _
    · exact DrainFrame.refl s
  · exact DrainFrame.refl s

theorem channelDone_drainFrame (s : State) (k : ChannelId) (source : Option StartSource) (n : Nat) :
    DrainFrame s (s.channelDone k source n) :=
  disarmFor_drainFrame s source n

theorem postChannelDone_drainFrame (s : State) (k : ChannelId) (result : DoneResult) :
    DrainFrame s (s.postChannelDone k result) := by
  unfold State.postChannelDone
  simp only
  split
  · exact ((DrainFrame.refl s).post _ _).post _ _
  · exact DrainFrame.refl s

theorem closeStart_drainFrame (s : State) (k : ChannelId) (result : DoneResult) : DrainFrame s (s.closeStart k result) :=
  ((((DrainFrame.refl s).setChannel k _).trans (postChannelDone_drainFrame _ k result)).trans (channelDone_drainFrame _ k _ _))

theorem takeStart_drainFrame (s : State) (k : ChannelId) (source : StartSource) : DrainFrame s (s.takeStart k source) := by
  unfold State.takeStart
  simp only
  split
  · exact (((DrainFrame.refl s).setChannel k _).trans (reportSource_drainFrame _ _ _)).trans (closeStart_drainFrame _ _ _)
  · exact ((DrainFrame.refl s).setChannel k _).trans (reportSource_drainFrame _ _ _)

theorem recordPending_drainFrame (s : State) (k : ChannelId) (source : StartSource) :
    DrainFrame s (s.recordPending k source) := by
  unfold State.recordPending
  simp only
  split
  · exact ((DrainFrame.refl s).setChannel k _).trans (reportSource_drainFrame _ _ _)
  · split
    · exact DrainFrame.refl s
    · exact (((DrainFrame.refl s).setChannel k _).trans (reportSource_drainFrame _ _ _)).trans (reportSource_drainFrame _ _ _)

theorem deliverStart_drainFrame (s : State) (k : ChannelId) (source : StartSource) :
    DrainFrame s (s.deliverStart k source) := by
  unfold State.deliverStart
  split
  · exact takeStart_drainFrame s k source
  · exact recordPending_drainFrame s k source

theorem followLink_drainFrame (s : State) (k : ChannelId) : DrainFrame s (s.followLink k) := by
  unfold State.followLink
  simp only
  split
  · exact deliverStart_drainFrame s _ _
  · exact DrainFrame.refl s

theorem takePending_drainFrame (s : State) (k : ChannelId) : DrainFrame s (s.takePending k) := by
  unfold State.takePending
  simp only
  split
  · exact DrainFrame.refl s
  · exact ((DrainFrame.refl s).setChannel k _).trans (takeStart_drainFrame _ _ _)

theorem completeDone_drainFrame (s : State) (k : ChannelId) : DrainFrame s (s.completeDone k) :=
  ((closeStart_drainFrame s k .done).trans (followLink_drainFrame _ k)).trans (takePending_drainFrame _ k)

theorem completeIfDone_drainFrame (s : State) (k : ChannelId) : DrainFrame s (s.completeIfDone k) := by
  unfold State.completeIfDone
  split
  · exact completeDone_drainFrame s k
  · exact DrainFrame.refl s

theorem drainOutcome_drainFrame (s : State) (k : ChannelId) (o : DrainOutcome) : DrainFrame s (s.drainOutcome k o) := by
  unfold State.drainOutcome
  split
  · exact DrainFrame.refl s
  · exact ((DrainFrame.refl s).setChannel k _).trans (completeIfDone_drainFrame _ k)

theorem reportOutcome_drainFrame (s : State) (k : Option ChannelId) (o : DrainOutcome) :
    DrainFrame s (s.reportOutcome k o) := by
  unfold State.reportOutcome
  split
  · exact DrainFrame.refl s
  · exact drainOutcome_drainFrame s _ o

theorem entryProcessed_drainFrame (s : State) (k : ChannelId) (ch : Channel) : DrainFrame s (s.entryProcessed k ch) :=
  ((DrainFrame.refl s).setChannel k _).trans (completeIfDone_drainFrame _ k)

/-! ## Drains -/

theorem postOwner_drainFrame (s : State) (c : CarrierId) (n : Notice) :
    DrainFrame s (s.postOwner c n) := by
  unfold State.postOwner
  split
  · exact DrainFrame.refl s
  · exact (DrainFrame.refl s).post _ _

theorem startDrain_drainFrame (s : State) (c : CarrierId) (k : ChannelId) : DrainFrame s (s.startDrain c k) :=
  ((DrainFrame.refl s).setCarrier c _).trans (postOwner_drainFrame _ c _)

theorem processEntry_drainFrame (s : State) (k : ChannelId) : DrainFrame s (s.processEntry k) := by
  unfold State.processEntry State.entryDeclined
  split
  · exact entryProcessed_drainFrame s k _
  · split
    · exact (startDrain_drainFrame s _ k).trans (entryProcessed_drainFrame _ k _)
    · exact entryProcessed_drainFrame s k _
    · exact (DrainFrame.refl s).setChannel k _

theorem offerSlots_drainFrame (s : State) (t : TenantId) : DrainFrame s (s.offerSlots t) := by
  refine DrainFrame.foldl _ (fun u k => ?_) _ (DrainFrame.refl s)
  unfold State.offerSlotTo
  split
  · exact processEntry_drainFrame u k
  · exact DrainFrame.refl u

theorem cancelDrain_drainFrame (s : State) (c : CarrierId) (reason : CancelReason) : DrainFrame s (s.cancelDrain c reason) :=
  (((DrainFrame.refl s).setCarrier c _).trans (postOwner_drainFrame _ c _)).trans (reportOutcome_drainFrame _ _ _)

theorem offerOwnersSlots_drainFrame (s : State) (c : CarrierId) : DrainFrame s (s.offerOwnersSlots c) := by
  unfold State.offerOwnersSlots
  split
  · exact DrainFrame.refl s
  · exact offerSlots_drainFrame s _

theorem cancelAndOffer_drainFrame (s : State) (c : CarrierId) (reason : CancelReason) :
    DrainFrame s (s.cancelAndOffer c reason) :=
  (cancelDrain_drainFrame s c reason).trans (offerOwnersSlots_drainFrame _ c)

/-! # Branches and grants -/

/-- Nothing but carrier records, the Branch Controller, the arbiter and ports has changed. -/
def BranchFrame (s t : State) : Prop :=
  t.rest = s.rest
    ∧ t.lines = s.lines
    ∧ t.table.floors = s.table.floors
    ∧ t.table.drainLimits = s.table.drainLimits
    ∧ t.table.drainTime = s.table.drainTime
    ∧ t.table.liveTime = s.table.liveTime
    ∧ t.timer = s.timer
    ∧ t.stack = s.stack
    ∧ t.haltDraws = s.haltDraws

theorem BranchFrame.refl (s : State) : BranchFrame s s := by simp [BranchFrame]

theorem BranchFrame.trans {s t u : State} (h : BranchFrame s t) (k : BranchFrame t u) : BranchFrame s u := by
  simp_all [BranchFrame]

theorem BranchFrame.foldl {α : Type} {s t : State} (f : State → α → State) (hf : ∀ u a, BranchFrame u (f u a)) (l : List α)
    (h : BranchFrame s t) : BranchFrame s (l.foldl f t) := by
  induction l generalizing t with
  | nil => exact h
  | cons a l ih => exact ih (h.trans (hf t a))

section Setters
variable {s t : State} (h : BranchFrame s t)
include h
theorem BranchFrame.setCarrier (c r) : BranchFrame s (t.setCarrier c r) := h
theorem BranchFrame.setBranch (b r) : BranchFrame s (t.setBranch b r) := h
theorem BranchFrame.setArb (a) : BranchFrame s (t.setArb a) := h
theorem BranchFrame.post (p n) : BranchFrame s (t.post p n) := h
end Setters

theorem postOwner_branchFrame (s : State) (c : CarrierId) (n : Notice) :
    BranchFrame s (s.postOwner c n) := by
  unfold State.postOwner
  split
  · exact BranchFrame.refl s
  · exact (BranchFrame.refl s).post _ _

theorem enterBranch_branchFrame (s : State) (b : BranchId) (state : BranchState) : BranchFrame s (s.enterBranch b state) :=
  (BranchFrame.refl s).setBranch b _

theorem sendUnmute_branchFrame (s : State) (c : CarrierId) : BranchFrame s (s.sendUnmute c) :=
  ((BranchFrame.refl s).setCarrier c _).trans (postOwner_branchFrame _ c _)

theorem reportPowered_branchFrame (s : State) (b : BranchId) : BranchFrame s (s.reportPowered b) := by
  refine BranchFrame.foldl _ (fun u c => ?_) _ (BranchFrame.refl s)
  unfold State.unmuteMember
  split
  · exact sendUnmute_branchFrame u c
  · exact BranchFrame.refl u

theorem beginLowering_branchFrame (s : State) (b : BranchId) : BranchFrame s (s.beginLowering b) :=
  (BranchFrame.refl s).setBranch b _

theorem lingerExpires_branchFrame (s : State) (b : BranchId) : BranchFrame s (s.lingerExpires b) := by
  unfold State.lingerExpires
  split
  · exact (BranchFrame.refl s).setBranch b _
  · exact beginLowering_branchFrame s b

theorem enterSettling_branchFrame (s : State) (b : BranchId) : BranchFrame s (s.enterSettling b) := by
  unfold State.enterSettling
  simp only
  split
  · exact ((BranchFrame.refl s).setBranch b _).trans (lingerExpires_branchFrame _ b)
  · exact (BranchFrame.refl s).setBranch b _

theorem settleTest_branchFrame (s : State) (b : BranchId) : BranchFrame s (s.settleTest b) := by
  unfold State.settleTest
  split
  · exact enterSettling_branchFrame s b
  · exact BranchFrame.refl s

theorem powerGood_branchFrame {consider : State → State} (hc : ∀ u, BranchFrame u (consider u)) (s : State) (b : BranchId) :
    BranchFrame s (s.powerGood consider b) :=
  ((((enterBranch_branchFrame s b .powered).setArb _).trans (hc _)).trans (reportPowered_branchFrame _ b)).trans
    (settleTest_branchFrame _ b)

theorem takeGrant_branchFrame {consider : State → State} (hc : ∀ u, BranchFrame u (consider u)) (s : State) (b : BranchId)
    (g : Grant) : BranchFrame s (s.takeGrant consider b g) := by
  unfold State.takeGrant
  simp only
  split
  · exact (((BranchFrame.refl s).setArb _).setBranch b _).trans (powerGood_branchFrame hc _ b)
  · exact ((BranchFrame.refl s).setArb _).setBranch b _

theorem considerGrantsUpTo_branchFrame (n : Nat) (s : State) : BranchFrame s (considerGrantsUpTo n s) := by
  induction n generalizing s with
  | zero => exact BranchFrame.refl s
  | succ n ih =>
    unfold considerGrantsUpTo
    split
    · exact BranchFrame.refl s
    · exact (takeGrant_branchFrame ih s _ _).trans (ih _)

theorem considerGrants_branchFrame (s : State) : BranchFrame s s.considerGrants := considerGrantsUpTo_branchFrame _ s

theorem enterQueued_branchFrame (s : State) (b : BranchId) (level : Nat) : BranchFrame s (s.enterQueued b level) :=
  (((BranchFrame.refl s).setBranch b _).setArb _).trans (considerGrants_branchFrame _)

theorem raiseQueued_branchFrame (s : State) (b : BranchId) (level : Nat) : BranchFrame s (s.raiseQueued b level) := by
  unfold State.raiseQueued
  simp only
  split
  · exact (((BranchFrame.refl s).setBranch b _).setArb _).trans (considerGrants_branchFrame _)
  · exact BranchFrame.refl s

theorem releaseGrant_branchFrame (s : State) (b : BranchId) (g : Grant) : BranchFrame s (s.releaseGrant b g) :=
  ((BranchFrame.refl s).setArb _).trans (considerGrants_branchFrame _)

theorem memberReport_branchFrame (s : State) (report : MemberReport) : BranchFrame s (s.memberReport report) := by
  unfold State.memberReport State.memberWaking State.memberRaised
  split <;> (simp only; split) <;>
    first
    | exact BranchFrame.refl s
    | exact (BranchFrame.refl s).setBranch _ _
    | exact reportPowered_branchFrame s _
    | exact (enterBranch_branchFrame s _ _).trans (reportPowered_branchFrame _ _)
    | exact enterQueued_branchFrame s _ _
    | exact raiseQueued_branchFrame s _ _

theorem goDark_branchFrame (s : State) (b : BranchId) : BranchFrame s (s.goDark b) := by
  unfold State.goDark
  simp only
  split
  · exact (enterBranch_branchFrame s b .dark).trans (enterQueued_branchFrame _ b _)
  · exact enterBranch_branchFrame s b .dark


end Sys2Proof.Machine
end

