-- ==== Sys2Proof/Laws/Requests.lean ====
section
/-!
SUPPORT. Operands read back from their codes, and a request in one line: the state its answer leaves (R188), for an
answer with an effect and for one that is turned away.
-/
namespace Sys2Proof.Machine
open Sys2Proof

/-! ## Operands and their codes (R197) -/

theorem asIndex_outside {n : Nat} {b : Byte} (h : n ≤ b.toNat) : asIndex n b = none := by
  simp only [asIndex, Nat.not_lt.mpr h, dite_false]

@[simp] theorem indexByte_toNat {n : Nat} (x : Fin n) (hn : n ≤ 256) : (indexByte x).toNat = x.val :=
  byteOf_toNat (Nat.lt_of_lt_of_le x.isLt hn)

theorem asIndex_indexByte {n : Nat} (x : Fin n) (hn : n ≤ 256) : asIndex n (indexByte x) = some x := by
  simp [asIndex, indexByte_toNat x hn]

@[simp] theorem asCarrier_indexByte (c : CarrierId) : asCarrier (indexByte c) = some c := asIndex_indexByte c (by decide)
@[simp] theorem asBranch_indexByte (b : BranchId) : asBranch (indexByte b) = some b := asIndex_indexByte b (by decide)
@[simp] theorem asWindow_indexByte (w : WindowId) : asWindow (indexByte w) = some w := asIndex_indexByte w (by decide)
@[simp] theorem asChannel_indexByte (k : ChannelId) : asChannel (indexByte k) = some k :=
  asIndex_indexByte k (by decide)
@[simp] theorem asSlot_indexByte (k : SlotId) : asSlot (indexByte k) = some k := asIndex_indexByte k (by decide)
@[simp] theorem asInput_indexByte (i : InputId) : asInput (indexByte i) = some i := asIndex_indexByte i (by decide)
@[simp] theorem asOutput_indexByte (o : OutputId) : asOutput (indexByte o) = some o := asIndex_indexByte o (by decide)
@[simp] theorem asSector_indexByte (x : SectorId) : asSector (indexByte x) = some x := asIndex_indexByte x (by decide)
@[simp] theorem asTenant_indexByte (t : TenantId) : asTenant (indexByte t) = some t := asIndex_indexByte t (by decide)

@[simp] theorem asFlag_flagByte (b : Bool) : asFlag (flagByte b) = some b := by cases b <;> rfl

theorem asRange_inside {low high n : Nat} (h : low ≤ n) (k : n ≤ high) : asRange low high n = some n := by
  simp [asRange, h, k]

theorem asRange_outside {low high n : Nat} (h : n < low ∨ high < n) : asRange low high n = none := by
  simp only [asRange, ite_eq_right_iff]
  omega

@[simp] theorem asDisposition_code (d : Disposition) : asDisposition d.code = some d := by cases d <;> rfl

@[simp] theorem asFailure_code (f : Failure) : asFailure f.kindCode f.subjectCode = some f := by
  cases f <;> simp only [asFailure, Failure.kindCode, Failure.subjectCode] <;>
    simp [← indexByte.eq_def, asBranch_indexByte, asCarrier_indexByte]

/-! ## Requests -/

/-- A permitted request whose block gives an effect, a status and a reply. -/
theorem exec_answered {i : Instr} {p : Port} {k : RequestKind} {payload reply : List Byte} {s : State}
    {block : State → Answer} {effect : State → State} {status : Status} (he : exec i s = takeRequest p k payload block s)
    (hl : k.allowsLength payload.length = true) (hp : k.permitted p.role = true) (h : TakesNow p k payload s)
    (hb : block (s.takeOut p (requestFrame k payload)) =
      { state := effect (s.takeOut p (requestFrame k payload)), status := status, payload := reply }) :
    exec i s = .next (s.answered p k payload effect status reply) := by
  rw [he, takeRequest_permitted block hl hp h, hb]
  rfl

/-- A permitted request that a check of its block turns away. -/
theorem exec_turnedAway {i : Instr} {p : Port} {k : RequestKind} {payload : List Byte} {s : State}
    {block : State → Answer} {status : Status} (he : exec i s = takeRequest p k payload block s)
    (hl : k.allowsLength payload.length = true) (hp : k.permitted p.role = true) (h : TakesNow p k payload s)
    (hb : block (s.takeOut p (requestFrame k payload)) = Answer.fail status (s.takeOut p (requestFrame k payload))) :
    exec i s = .next (s.turnedAway p k payload status) :=
  exec_answered he hl hp h hb

end Sys2Proof.Machine
end

