-- ==== Sys2Proof/Laws/SelectPeriods.lean ====
section
/-!
SUPPORT. What a select period does to the state: it writes one port. And what clocking and releasing do to the period
(R184, R187).
-/
namespace Sys2Proof.Machine
open Sys2Proof

theorem setPort_port_self (s : State) (p : Port) : s.setPort p (s.port p) = s := by
  simp [State.setPort, State.port]

/-! ## The port it is on -/

theorem assertSelect_setPort (s : State) (p : Port) : ∃ q, s.assertSelect p = s.setPort p q := by
  unfold State.assertSelect
  dsimp only
  split
  · exact ⟨_, (setPort_port_self s p).symm⟩
  · exact ⟨_, rfl⟩

theorem clockBytes_setPort (s : State) (p : Port) (bytes : List Byte) : ∃ q, s.clockBytes p bytes = s.setPort p q := by
  unfold State.clockBytes
  dsimp only
  split
  · exact ⟨_, (setPort_port_self s p).symm⟩
  · exact ⟨_, rfl⟩

theorem releaseSelect_setPort (s : State) (p : Port) (bytes : List Byte) :
    ∃ q, s.releaseSelect p bytes = s.setPort p q := by
  unfold State.releaseSelect
  dsimp only
  split
  · exact ⟨_, (setPort_port_self s p).symm⟩
  · exact ⟨_, rfl⟩

theorem wholePeriod_setPort (s : State) (p : Port) (bytes : List Byte) : ∃ q, s.wholePeriod p bytes = s.setPort p q := by
  unfold State.wholePeriod
  dsimp only
  split
  · exact ⟨_, (setPort_port_self s p).symm⟩
  · exact ⟨_, rfl⟩

/-! ## The period -/

@[simp] theorem zeroBytes_length (n : Nat) : (zeroBytes n).length = n := List.length_replicate

@[simp] theorem zeroBytes_eq_nil (n : Nat) : zeroBytes n = [] ↔ n = 0 := by simp [zeroBytes]

@[simp] theorem kindAfter_nil (q : PortState) (r : Bool) (kind : PeriodKind) : q.kindAfter r kind [] = kind := rfl

@[simp] theorem nextBytes_length (period : SelectPeriod) (r : Bool) (kind : PeriodKind) (n : Nat) :
    (period.nextBytes r kind n).length = n := by
  unfold SelectPeriod.nextBytes
  split <;> simp

/-- In device reset the bytes shifted out are 0x00 (R184). -/
@[simp] theorem nextBytes_resetting (period : SelectPeriod) (kind : PeriodKind) (n : Nat) :
    period.nextBytes true kind n = zeroBytes n := rfl

/-- Clocking keeps the summary byte of the assertion (R184). -/
@[simp] theorem clock_summary (q : PortState) (r : Bool) (period : SelectPeriod) (bytes : List Byte) :
    (q.clock r period bytes).summary = period.summary := rfl

@[simp] theorem clock_kind (q : PortState) (r : Bool) (period : SelectPeriod) (bytes : List Byte) :
    (q.clock r period bytes).kind = q.kindAfter r period.kind bytes := rfl

theorem clock_shifted (q : PortState) (r : Bool) (period : SelectPeriod) (bytes : List Byte) :
    (q.clock r period bytes).shifted
      = period.shifted ++ period.nextBytes r (q.kindAfter r period.kind bytes) bytes.length := rfl

@[simp] theorem clock_nil (q : PortState) (r : Bool) (period : SelectPeriod) : q.clock r period [] = period := by
  have h : ∀ kind, period.nextBytes r kind 0 = [] := fun kind => List.eq_nil_of_length_eq_zero (nextBytes_length ..)
  simp [PortState.clock, h]

/-- Every byte clocked shifts one byte out (R184). -/
@[simp] theorem clock_length (q : PortState) (r : Bool) (period : SelectPeriod) (bytes : List Byte) :
    (q.clock r period bytes).shifted.length = period.shifted.length + bytes.length := by
  simp [clock_shifted]

/-- Once the kind is decided, bytes clocked apart are bytes clocked together (R184). -/
theorem kindAfter_append (q : PortState) (r : Bool) (kind : PeriodKind) (xs ys : List Byte) :
    q.kindAfter r (q.kindAfter r kind xs) ys = q.kindAfter r kind (xs ++ ys) := by
  cases xs with
  | nil => simp
  | cons x xs =>
    cases ys with
    | nil => simp
    | cons y ys => cases kind <;> cases r <;> by_cases h : x = 0#8 <;> simp [PortState.kindAfter, h]

/-- The release of a period without a byte ends it and does nothing else (R184). -/
theorem endPeriod_newPeriod (q : PortState) : q.endPeriod q.newPeriod = { q with selected := none } := rfl

/-- A write goes on to its release as a frame that arrives there (R186). -/
theorem endPeriod_write (q : PortState) (period : SelectPeriod) (frame : List Byte) (h : period.kind = .write frame) :
    q.endPeriod period = { q with selected := none, dataOut := period.shifted }.arrive frame := by
  simp [PortState.endPeriod, h]

end Sys2Proof.Machine
end

