-- ==== Sys2Proof/Tests/Slice0.lean ====
section
/-!
SUPPORT. Tests: ill-formed commands that the check refuses, frames worked by hand, one step of each command on a small
state, and for each obligation with hypotheses a state and operands that meet them.
-/
namespace Sys2Proof.Tests
open Sys2Proof Sys2Proof.Machine

set_option Elab.async false

/-! ## Well-formedness -/

theorem test_writeList_needs_an_entry : (Instr.writeList .fleet 0x00#8 0x00#8 []).wellFormed = false := by decide
theorem test_writeList_has_16_entries_at_most :
    (Instr.writeList .fleet 0x00#8 0x11#8 (List.replicate 17 0xFF#8)).wellFormed = false := by decide
theorem test_writeList_takes_1_and_16_entries :
    (Instr.writeList .fleet 0x00#8 0x01#8 [0xFF#8]).wellFormed = true
      ∧ (Instr.writeList .fleet 0x00#8 0x10#8 (List.replicate 16 0xFF#8)).wellFormed = true := by decide
theorem test_unknown_frame_needs_a_byte : (Instr.unknownRequestFrame .plant []).wellFormed = false := by decide
theorem test_unknown_frame_is_not_a_read : (Instr.unknownRequestFrame .plant [0x00#8]).wellFormed = false := by
  decide +kernel
theorem test_unknown_frame_fails_a_check :
    (Instr.unknownRequestFrame .fleet [0x30#8, 0x00#8, 0xF9#8]).wellFormed = false
      ∧ (Instr.unknownRequestFrame .fleet [0x30#8, 0x00#8, 0xF8#8]).wellFormed = true := by decide +kernel
theorem test_write_needs_a_byte : (Instr.writeTransaction .plant (.whole [])).wellFormed = false := by decide
theorem test_write_does_not_begin_with_the_read_code :
    (Instr.writeTransaction .plant (.whole [0x00#8, 0x01#8])).wellFormed = false := by decide
theorem test_whole_read_clocks_the_read_code : (Instr.readTransaction .plant (.whole 0)).wellFormed = false := by decide
theorem test_empty_select_period_is_a_command : (Instr.readTransaction .plant (.released 0)).wellFormed = true := by
  decide

/-! ## Frames -/

/-- The frame of READ_SITE and the EMPTY frame, with their check bytes (R185, R198). -/
theorem test_check_bytes :
    requestFrame .readSite [] = [0x30#8, 0x00#8, 0xF9#8] ∧ emptyFrame = [0x03#8, 0x09#8] := by decide +kernel

theorem test_frame_names_its_command :
    commandOfFrame (.tenant 2) (requestFrame .wake [0x2F#8, 0x07#8]) = .wake (.tenant 2) 0x2F#8 0x07#8 := by
  decide +kernel

/-! ## Small states -/

/-- A fresh port takes every frame that can be written. -/
theorem test_fresh_ports_take (s : State) (p : Port) (k : RequestKind) (payload : List Byte)
    (hq : s.port p = PortState.initial) (hr : s.resetting = false) (hk : k.code ≠ 0x00#8) : TakesNow p k payload s := by
  simp [TakesNow, State.canTake, State.frameAtFront, hq, hr, PortState.initial, writeBytesOk, requestFrame, hk,
    Config.replyPlaces]

def pv (owner : TenantId) (sector : SectorId) (branch : BranchId) (layer : Layer) (window : Option WindowId) :
    Provision :=
  { owner := owner, sector := sector, branch := branch, layer := layer, window := window }

def carrierOf (state : CarrierState) (p : Provision) : Carrier :=
  { Carrier.vacant with state := state, provision := some p }

def drainingOf (p : Provision) (k : ChannelId) : Carrier :=
  { carrierOf .draining p with offered := true, drainDeadline := some 120, drainChannel := some k }

def wakingOf (p : Provision) (level : Nat) (unmuted : Bool) : Carrier :=
  { carrierOf .waking p with
    wakeLevel := some level, unmuteSent := unmuted, liveDeadline := if unmuted then some 60 else none }

def branchOf (state : BranchState) (members : List CarrierId) : Branch :=
  { Branch.unused with state := state, members := members }

/-- Branch 1 is POWERED and carries an ON, a DRAINING, a RESTING and an unmuted WAKING carrier of tenant 0; branch 15 is
SETTLING under carrier 47 of tenant 3, which rests; RC2 awaits the drain; WIN0 is OPEN at quiet level 2. -/
def site : State :=
  let p := pv 0 5 1 .coverage (some 0)
  let s := (State.reset.setBranch 1 (branchOf .powered [3, 4, 5, 6])).setBranch 15
    { branchOf .settling [47] with lingerDeadline := some 300 }
  let s := (((s.setCarrier 3 (carrierOf .on p)).setCarrier 4 (drainingOf p 2)).setCarrier 5
    { carrierOf .resting p with offered := true }).setCarrier 6 (wakingOf p 3 true)
  let s := s.setCarrier 47 (carrierOf .resting (pv 3 0 15 .capacity none))
  let s := s.setChannel 2 { Channel.initial with state := .awaiting, outstanding := 1 }
  { s with timer := { s.timer with timeValid := true, siteTime := 10,
                                   windows := s.timer.windows.set 0 { Window.initial with
                                     state := .isOpen
                                     active := { enabled := true, openSecond := 0, closeSecond := 86399,
                                                 dayMask := 0x7F#7, quiet := 2 } } } }

def haltedSite : State := site.setStack { records := [], halt := some { reason := .plant, time := some 10 } }

/-- `n` records on the stack, the top one as given. -/
def stacked (top : FaultRecord) (n : Nat) (s : State) : State :=
  s.setStack { s.stack with records := top :: List.replicate (n - 1) (.ofCarrier 0 none true) }

def fourReplies : PortState :=
  { PortState.initial with replies := List.replicate 4 { kind := 0x30#8, status := .ok, payload := [] } }

def withPort (p : Port) (q : PortState) (s : State) : State := s.setPort p q

/-- What the state after a command answers to a question. -/
def after (i : Instr) (s : State) (ask : State → Bool) : Bool :=
  match exec i s with
  | .next t => ask t
  | .fault _ => false
  | .refused _ => false

/-- The status and payload of the only reply on a port. -/
def replied (p : Port) (status : Status) (payload : List Byte) (t : State) : Bool :=
  (t.port p).replies.map (fun r => (r.status, r.payload)) == [(status, payload)]

/-! ## One step of each command -/

theorem test_offer : after (.offer (.tenant 0) 0x03#8) site
    (fun t => (t.carrier 3).offered && replied (.tenant 0) .ok [] t) = true := by decide +kernel
theorem test_withdraw : after (.withdraw (.tenant 0) 0x04#8) site
    (fun t => (t.carrier 4).state == .on && !(t.carrier 4).offered
      && (t.port (.tenant 0)).notices == [.drainCancel 4 .withdrawn] && (t.channel 2).declined == 1) = true := by
  decide +kernel
theorem test_drained : after (.drained (.tenant 0) 0x04#8) site
    (fun t => (t.carrier 4).state == .resting && (t.channel 2).state == .idle && (t.channel 2).rested == 1
      && (t.port (.tenant 0)).notices == [.rested 4]) = true := by decide +kernel
theorem test_live : after (.live (.tenant 0) 0x06#8) site
    (fun t => (t.carrier 6).state == .on && replied (.tenant 0) .ok [] t) = true := by decide +kernel
theorem test_wake_honoured_above_quiet : after (.wake (.tenant 0) 0x05#8 0x03#8) site
    (fun t => (t.port (.tenant 0)).notices == [.unmute 5 70]
      && replied (.tenant 0) .ok [0x00#8, 0x04#8, 0x02#8, 0x03#8] t) = true := by decide +kernel
theorem test_wake_pending_at_quiet : after (.wake (.tenant 0) 0x05#8 0x02#8) site
    (fun t => (t.carrier 5).pendingWake == 2 && replied (.tenant 0) .ok [0x01#8, 0x03#8, 0x02#8, 0x02#8] t) = true := by
  decide +kernel
theorem test_hold : after (.hold .plant 0x04#8 0x01#8) site
    (fun t => (t.carrier 4).state == .on && replied .plant .ok [0x03#8, 0x10#8] t) = true := by decide +kernel
theorem test_release :
    after (.release (.tenant 2) 0x03#8) (site.setCarrier 3 { site.carrier 3 with claims := 0x14#5 })
      (replied (.tenant 2) .ok [0x10#8]) = true := by decide +kernel
theorem test_forceWake : after (.forceWake .plant 0x00#8 0xAA#8) site
    (replied .plant .ok [0x02#8, 0x01#8, 0x01#8, 0x00#8]) = true := by decide +kernel
theorem test_setBudget : after (.setBudget .plant 0x04#8) site
    (fun t => t.arb.budget == 4 && replied .plant .ok [0x01#8, 0x00#8] t) = true := by decide +kernel
theorem test_setRamp : after (.setRamp .plant 0x78#8 0x01#8) site
    (fun t => t.ctrl.rampDown == 120 && t.ctrl.rampUp == 1) = true := by decide +kernel
theorem test_pin : after (.pin .plant 0x0F#8) site
    (fun t => (t.branch 15).state == .powered && (t.branch 15).lineMode == .pinned) = true := by decide +kernel
theorem test_unpin : after (.unpin .plant 0x01#8) (site.setBranch 1 { site.branch 1 with lineMode := .pinned })
    (fun t => (t.branch 1).lineMode == .follow) = true := by decide +kernel
theorem test_returnBranch :
    after (.returnBranch .plant 0x0F#8) ((site.setBranch 15 (branchOf .out [47])).setCarrier 47
        { site.carrier 47 with state := .barred })
      (fun t => (t.branch 15).state == .dark && (t.port (.tenant 3)).notices == [.restored 47 15]) = true := by
  decide +kernel
theorem test_resolve :
    after (.resolve .plant 0x02#8 0x0F#8 0x01#8)
        (stacked (.ofBranch .powerLost 15 none []) 1 (site.setBranch 15 (branchOf .faulted [47])))
      (fun t => (t.carrier 47).state == .barred && t.stack.records == []
        && replied .plant .ok [0x02#8, 0x0F#8, 0x01#8, 0x08#8, 0x00#8] t) = true := by decide +kernel
theorem test_halt : after (.halt .plant) site (fun t => t.halted && t.stack.records == []) = true := by
  simp only [after, exec, execHalt, takeRequest]
  generalize hf : State.takeFrame site .plant (requestFrame .halt []) _ = t
  have h1 : site.canTake .plant (requestFrame .halt []) = true := by decide +kernel
  have h2 : portVerdict .plant (requestFrame .halt []) = none := by decide +kernel
  have h3 : (site.takeOut .plant (requestFrame .halt [])).halted = false := by decide +kernel
  simp only [State.takeFrame, h1, h2, if_true, haltAnswer, h3, Answer.ok, State.enterHalt] at hf
  subst hf
  cases Config.haltOrder (site.takeOut .plant (requestFrame .halt [])).haltDraws <;> decide +kernel
theorem test_setHoldMode : after (.setHoldMode .plant 0x01#8 0x01#8) site
    (replied .plant .ok [0x00#8, 0x00#8, 0x01#8]) = true := by decide +kernel
theorem test_clearHold : after (.clearHold .plant) site (replied .plant .already []) = true := by decide +kernel
theorem test_setOutput : after (.setOutput .plant 0x03#8 0x05#8 0x07#8) site
    (fun t => (t.output 3).source == .done 7 && replied .plant .ok [0x00#8, 0xFF#8] t) = true := by decide +kernel
theorem test_startChannel : after (.startChannel .fleet 0x02#8) site
    (replied .fleet .ok [0x01#8, 0x03#8, 0x00#8, 0xFF#8]) = true := by decide +kernel
theorem test_provisionBranch : after (.provisionBranch .fleet 0x02#8) site
    (fun t => (t.branch 2).state == .powered) = true := by decide +kernel
theorem test_deprovisionBranch : after (.deprovisionBranch .fleet 0x01#8) site
    (replied .fleet .state []) = true := by decide +kernel
theorem test_provisionCarrier : after (.provisionCarrier .fleet 0x00#8 0x03#8 0x05#8 0x01#8 0x01#8 0xFF#8) site
    (fun t => (t.branch 1).members == [0, 3, 4, 5, 6] && (t.carrier 0).state == .on) = true := by decide +kernel
theorem test_deprovisionCarrier : after (.deprovisionCarrier .fleet 0x03#8) site
    (fun t => (t.branch 1).members == [4, 5, 6] && t.carrier 3 == Carrier.vacant) = true := by decide +kernel
theorem test_setFloor : after (.setFloor .fleet 0x00#8 0x05#8 0x03#8) site
    (replied .fleet .ok [0x00#8, 0x01#8, 0x02#8, 0x01#8]) = true := by decide +kernel
theorem test_setTimers : after (.setTimers .fleet 0x0384#16 0x012C#16 0x0000#16) site
    (fun t => t.table.drainTime == 900 && t.table.liveTime == 300 && t.ctrl.linger == 0) = true := by decide +kernel
theorem test_setDrainLimit : after (.setDrainLimit .fleet 0x03#8 0x08#8) site
    (fun t => t.drainLimit 3 == 8) = true := by decide +kernel
theorem test_setTime : after (.setTime .fleet 0x000000#24) site
    (fun t => (t.carrier 4).drainDeadline == some 110
      && replied .fleet .ok [0x00#8, 0x00#8, 0x0A#8, 0x01#8] t) = true := by decide +kernel
/-- The time already held changes no window, and the next advance opens it (R100, R110). -/
theorem test_setTime_of_the_time_held :
    (let ws := (site.window 0).active
     after (.setTime .fleet 0x00000A#24) (site.setWindow 1 { Window.initial with active := ws }) (fun t =>
      (t.window 1).state == .closed && replied .fleet .ok [0x00#8, 0x00#8, 0x0A#8, 0x01#8] t
        && after .siteTimeAdvance t (fun u => (u.window 1).state == .isOpen))) = true := by decide +kernel
theorem test_writeWindow : after (.writeWindow .fleet 0x07#8 0x01#8 0x000001#24 0x01517F#24 0x7F#8 0x07#8) site
    (fun t => (t.window 7).shadow.quiet == 7) = true := by decide +kernel
theorem test_commitWindow : after (.commitWindow .fleet 0x00#8) site
    (fun t => (t.window 0).swapPending && replied .fleet .ok [0x01#8] t) = true := by decide +kernel
theorem test_writeChannel :
    after (.writeChannel .fleet 0x07#8 0x02#8 0x00#8 0x10#8 0x0F#8 0x10#8 0x00#8 0x00#8 0x01#8) site
      (fun t => (t.channel 7).pointer == 16 && (t.channel 7).groupSize == 16) = true := by decide +kernel
theorem test_writeList : after (.writeList .fleet 0xFE#8 0x02#8 [0x2F#8, 0xFF#8]) site
    (fun t => t.rest.list[254]! == some 47 && t.rest.list[255]! == none) = true := by decide +kernel
theorem test_mapCause : after (.mapCause .fleet 0x0F#8 0x07#8 0x01#8 0x00#8) site
    (fun t => (t.slot 15).target == 7 && replied .fleet .ok [0x00#8, 0x00#8, 0x00#8, 0x00#8] t) = true := by
  decide +kernel
theorem test_clearCause : after (.clearCause .fleet 0x0F#8) site (replied .fleet .already []) = true := by decide +kernel
theorem test_setInput : after (.setInput .fleet 0x07#8 0x03#8 0x01#8 0x07#8 0x0F#8 0x3F#8) site
    (replied .fleet .ok [0x00#8, 0x00#8, 0x01#8, 0x00#8, 0x00#8, 0x00#8]) = true := by decide +kernel
theorem test_restart : after (.restart .fleet) site
    (fun t => t.resetting && t.carrier 3 == Carrier.vacant && (t.port .fleet).replies.isEmpty) = true := by
  decide +kernel
theorem test_readSite : after (.readSite (.tenant 3)) site
    (fun t => ((t.port (.tenant 3)).replies.map (fun r => r.payload.take 4)) == [[0x00#8, 0x00#8, 0x0A#8, 0x01#8]])
      = true := by decide +kernel
theorem test_readCarrier : after (.readCarrier (.tenant 0) 0x03#8) site
    (replied (.tenant 0) .ok [0x03#8, 0x01#8, 0x00#8, 0x05#8, 0x01#8, 0x00#8, 0x00#8, 0x00#8, 0x00#8, 0x00#8, 0xFF#8,
      0x00#8, 0xFF#8, 0xFF#8, 0xFF#8, 0xFF#8, 0xFF#8, 0xFF#8, 0xFF#8, 0x01#8, 0x02#8]) = true := by decide +kernel
theorem test_readBranch : after (.readBranch .plant 0x0F#8) site
    (replied .plant .ok [0x0F#8, 0x02#8, 0x00#8, 0x01#8, 0x2F#8, 0xFF#8, 0xFF#8, 0xFF#8, 0xFF#8, 0xFF#8, 0x00#8,
      0x00#8, 0x01#8, 0x2C#8, 0x00#8, 0xFF#8, 0xFF#8, 0xFF#8, 0x00#8, 0x00#8, 0x01#8, 0x01#8, 0x01#8, 0x2C#8,
      0x14#8, 0x1E#8]) = true := by decide +kernel
theorem test_readWindow : after (.readWindow .fleet 0x00#8) site
    (fun t => ((t.port .fleet).replies.map (fun r => r.payload.length)) == [25]) = true := by decide +kernel
theorem test_readChannel : after (.readChannel .plant 0x02#8) site
    (fun t => ((t.port .plant).replies.map (fun r => r.payload.length)) == [21]) = true := by decide +kernel
theorem test_readCauses : after (.readCauses .plant) site
    (fun t => ((t.port .plant).replies.map (fun r => r.payload.length)) == [45]) = true := by decide +kernel
theorem test_readFaults : after (.readFaults .plant 0x00#8) (stacked (.ofCarrier 6 none false) 1 site)
    (replied .plant .ok ([0x01#8, 0x00#8, 0x03#8, 0x01#8, 0x06#8, 0xFF#8, 0xFF#8, 0xFF#8, 0x00#8, 0x00#8]
      ++ List.replicate 12 0xFF#8)) = true := by decide +kernel
theorem test_portReset : after (.portReset .plant) site
    (replied .plant .ok [0x00#8, 0x00#8, 0x00#8, 0x00#8]) = true := by decide +kernel
theorem test_unknownRequestFrame : after (.unknownRequestFrame .plant [0x30#8, 0x00#8, 0xF8#8]) site
    (replied .plant .check []) = true := by decide +kernel
theorem test_writeTransaction : after (.writeTransaction .plant (.whole [0x30#8])) site
    (fun t => (t.port .plant).inbound == [[0x30#8]]) = true := by decide +kernel
theorem test_readTransaction : after (.readTransaction .plant (.whole 4)) site
    (fun t => (t.port .plant).dataOut == [0x00#8, 0x03#8, 0x09#8, 0x00#8]) = true := by decide +kernel
/-- A notice posted after the assertion of select is read, and the summary byte does not show it (R184, R187). -/
theorem test_summary_byte_is_that_of_the_assertion : after (.readTransaction .plant .asserted) site (fun t =>
    after (.readTransaction .plant (.released 6)) (t.post .plant (.halt .plant)) (fun u =>
      (u.port .plant).dataOut == [0x00#8, 0x02#8, 0x4A#8, 0x03#8, 0x01#8, 0xFF#8]
        && (u.port .plant).notices == [.halt .plant])) = true := by decide +kernel
/-- In device reset a read shifts out zeros, and a write is no frame (R184). -/
theorem test_device_reset_ignores_select_periods :
    after (.readTransaction .plant (.whole 3)) { site with resetting := true } (fun t =>
      (t.port .plant).dataOut == [0x00#8, 0x00#8, 0x00#8]
        && after (.writeTransaction .plant (.whole [0x30#8])) t (fun u =>
          (u.port .plant).dataOut == [0x00#8] && (u.port .plant).inbound.isEmpty && !(u.port .plant).overrun)) = true := by
  decide +kernel
/-- A period whose first bytes a device reset ignored is no transaction after its end (log 13). -/
theorem test_period_begun_in_device_reset_stays_ignored :
    after (.readTransaction .plant .opened) { site with resetting := true } (fun t =>
      after .endOfDeviceReset t (fun u => after (.readTransaction .plant (.released 3)) u (fun v =>
        (v.port .plant).dataOut == [0x00#8, 0x00#8, 0x00#8]))) = true := by decide +kernel
/-- A write clocked apart is one frame, and one that a device reset cuts is none: its bytes before the reset shifted out
the summary byte and 0x00, its bytes after it 0x00 (R184). -/
theorem test_write_by_its_bytes :
    after (.writeTransaction .plant (.clocked [0x30#8, 0x00#8])) (withPort .plant fourReplies site) (fun t =>
      after (.writeTransaction .plant (.released [0xF9#8])) t (fun u =>
        (u.port .plant).inbound == [[0x30#8, 0x00#8, 0xF9#8]] && (u.port .plant).dataOut == [0x01#8, 0x00#8, 0x00#8])
      && after .deviceReset t (fun u => after (.writeTransaction .plant (.released [0xF9#8])) u (fun v =>
        (v.port .plant).inbound == [] && (v.port .plant).dataOut == [0x01#8, 0x00#8, 0x00#8]))) = true := by
  decide +kernel
/-- A reply chosen before a PORT_RESET is still shifted out, and the reply of the PORT_RESET stays in its queue (R187). -/
theorem test_portReset_within_a_read :
    after (.readTransaction .plant .opened) (withPort .plant
        { PortState.initial with inbound := [requestFrame .portReset []],
                                 replies := [{ kind := 0x30#8, status := .range, payload := [] }] } site) (fun t =>
      after (.portReset .plant) t (fun u => after (.readTransaction .plant (.released 9)) u (fun v =>
        (v.port .plant).dataOut.take 4 == [0x01#8, 0x01#8, 0x30#8, 0x04#8]
          && (v.port .plant).replies.map (fun r => r.kind) == [0x3F#8]))) = true := by decide +kernel
/-- WINDOW CLOSED comes before the CHANNEL_DONE of the channel that the close completes (R107, R135). -/
theorem test_window_notice_precedes_channelDone : after .siteTimeAdvance
    ((site.setSiteTime 86398).setChannel 2 { site.channel 2 with completionNotice := true })
    (fun t => (t.port .fleet).notices == [.windowClosed 0 86399 false, .channelDone 2 .done 0 1 0 none]) = true := by
  decide +kernel
theorem test_deviceReset_and_its_end : after .deviceReset site (fun t =>
    t.resetting && t.timer == WindowTimer.initial && after .endOfDeviceReset t (fun u => !u.resetting)) = true := by
  decide +kernel
theorem test_siteTimeAdvance : after .siteTimeAdvance (site.setSiteTime 86398)
    (fun t => t.now == 86399 && (t.window 0).state == .closed && (t.carrier 4).state == .on) = true := by decide +kernel
theorem test_drainDeadlineExpiry : after (.drainDeadlineExpiry 4) (site.setSiteTime 119)
    (fun t => (t.carrier 4).state == .on && !(t.carrier 4).offered && t.now == 119) = true := by decide +kernel
theorem test_liveDeadlineExpiry : after (.liveDeadlineExpiry 6) (site.setSiteTime 60)
    (fun t => t.stack.records == [.ofCarrier 6 (some 60) false] && (t.carrier 6).liveDeadline == none) = true := by
  decide +kernel
theorem test_lingerDeadlineExpiry : after (.lingerDeadlineExpiry 15) (site.setSiteTime 300)
    (fun t => (t.branch 15).state == .lowering && (t.branch 15).rampDeadline == some 320 && !t.ben 15) = true := by
  decide +kernel
theorem test_rampDownDeadlineExpiry : after (.rampDownDeadlineExpiry 15)
    (site.setBranch 15 { branchOf .lowering [47] with rampDeadline := some 11 })
    (fun t => (t.branch 15).state == .faulted && t.ben 15
      && t.stack.records == [.ofBranch .rampDownStuck 15 (some 11) [(47, .resting)]]) = true := by decide +kernel
theorem test_rampUpDeadlineExpiry : after (.rampUpDeadlineExpiry 15)
    ((site.setBranch 15 { branchOf .raising [47] with rampDeadline := some 10, raiseLevel := 7, grant := .normal }).setArb
      { site.arb with normalHolders := [15] })
    (fun t => (t.branch 15).state == .faulted && t.arb.normalHolders == []) = true := by decide +kernel
theorem test_donePulseEnd : after (.donePulseEnd 3) (site.setOutput 3 { source := .done 7, pulse := true })
    (fun t => !t.eo 3) = true := by decide +kernel
theorem test_bgdFall : after (.bgdFall 1) site
    (fun t => (t.branch 1).state == .faulted && (t.carrier 3).wakeLevel == some 7 && (t.carrier 5).state == .resting)
      = true := by decide +kernel
theorem test_bgdRise : after (.bgdRise 15)
    (((site.setBranch 15 { branchOf .raising [47] with rampDeadline := some 10, raiseLevel := 7, grant := .normal }).setArb
      { site.arb with normalHolders := [15] }).setBgd 15 false)
    (fun t => (t.branch 15).state == .settling && t.arb.normalHolders == []) = true := by decide +kernel
theorem test_evEdge : after (.evEdge 7 true) (site.setInput 7 { site.input 7 with edgeMode := .rising })
    (fun t => (t.slot 15).flag && (t.port .fleet).notices == [.cause 15 10]) = true := by decide +kernel
theorem test_holdawkEdge : after (.holdawkEdge true) { site with lines := { site.lines with holdMode := .wake } }
    (fun t => t.lines.restHold && (t.carrier 4).state == .on && (t.carrier 5).state == .waking) = true := by
  decide +kernel
theorem test_channelStep : after (.channelStep 2)
    (site.setChannel 2 { Channel.initial with state := .stepping, quota := 1, count := 1, pointer := 255 })
    (fun t => (t.channel 2).state == .idle && (t.channel 2).pointer == 256
      && (t.channel 2).lastReason == some .noEntry) = true := by decide +kernel

/-! ## The hypotheses of the obligations can be met: one theorem for each, a line for each clause -/

theorem test_hypotheses_DeviceResetReturnsEveryBlock : TakesNow .fleet .restart [] site := by decide +kernel

def fourFrames : PortState := { PortState.initial with inbound := List.replicate 4 [0x3F#8] }

theorem test_hypotheses_AWrittenFrameIsQueuedOrDiscarded :
    (site.resetting = false ∧ (site.port .plant).selected = none ∧ (site.port .plant).inbound.length < 4)
      ∧ (let s := withPort .plant fourFrames site
         s.resetting = false ∧ (s.port .plant).selected = none ∧ 4 ≤ (s.port .plant).inbound.length) := by
  decide +kernel

theorem test_hypotheses_APortChecksAndTurnsAway :
    (¬ (3 ≤ [0x30#8, 0x00#8].length) ∧ frameCheck [0x30#8, 0x00#8] = .unknown)
      ∧ (crc8 [0x30#8, 0x00#8] ≠ 0xF8#8 ∧ frameCheck [0x30#8, 0x00#8, 0xF8#8] = .badCheckByte)
      ∧ (requestKindOf 0xEE#8 = none ∧ frameCheck [0xEE#8, 0x00#8, crc8 [0xEE#8, 0x00#8]] = .unknown)
      ∧ (RequestKind.readSite.allowsLength 0 = true ∧ frameCheck [0x30#8, 0x00#8, 0xF9#8] = .passed .readSite [])
      ∧ site.canTake .plant [0x30#8, 0x00#8] = true ∧ site.canTake .plant [0x30#8, 0x00#8, 0xF8#8] = true
      ∧ (requestOf (.offer .plant 0x03#8) = some (.plant, .offer, [0x03#8])
        ∧ (Instr.offer .plant 0x03#8).wellFormed = true ∧ RequestKind.offer.permitted Port.plant.role = false
        ∧ TakesNow .plant .offer [0x03#8] site) := by decide +kernel

theorem test_hypotheses_ATakingNeedsItsFrameAndAReplyPlace :
    takenFrame (.readSite .plant) = some (.plant, requestFrame .readSite [])
      ∧ 4 ≤ ((withPort .plant fourReplies site).port .plant).replies.length
      ∧ { site with resetting := true }.resetting = true
      ∧ (Instr.readSite .plant).wellFormed = true ∧ site.resetting = false ∧ (site.port .plant).inbound = []
      ∧ (site.port .plant).selected = none ∧ (site.port .plant).replies.length < 4 := by decide +kernel

theorem test_hypotheses_EachTakenRequestPlacesOneReply :
    requestOf (.readSite .plant) = some (.plant, .readSite, []) ∧ (Instr.readSite .plant).wellFormed = true
      ∧ TakesNow .plant .readSite [] site := by decide +kernel

theorem test_hypotheses_ANoticeIsPlacedOrOverflows :
    (let q := fun n overflow => { PortState.initial with notices := List.replicate n (.rested 3), overflow := overflow }
     ((withPort .plant (q 16 true) site).port .plant).overflow = true
      ∧ ((withPort .plant (q 14 false) site).port .plant).notices.length < 15
      ∧ ((withPort .plant (q 15 false) site).port .plant).notices.length = 15
      ∧ ((withPort .plant (q 15 false) site).port .plant).overflow = false) := by decide +kernel

theorem test_hypotheses_PortResetEmptiesItsPort :
    site.frameAtFront .plant (requestFrame .portReset []) = true
      ∧ (withPort .plant { fourReplies with inbound := [requestFrame .portReset []] } site).frameAtFront .plant
        (requestFrame .portReset []) = true := by decide +kernel

theorem test_hypotheses_AReadReturnsOneFrame :
    (site.resetting = false ∧ (site.port .plant).selected = none ∧ (site.port .plant).replies = []
        ∧ (site.port .plant).notices = [])
      ∧ (let s := withPort .plant { fourReplies with replies := fourReplies.replies.take 1 } site
         s.resetting = false ∧ (s.port .plant).selected = none
          ∧ (s.port .plant).replies = { kind := 0x30#8, status := .ok, payload := [] } :: [])
      ∧ (let s := withPort .plant { PortState.initial with notices := [.overflow], overflow := true } site
         s.resetting = false ∧ (s.port .plant).selected = none ∧ (s.port .plant).replies = []
          ∧ (s.port .plant).notices = .overflow :: [])
      ∧ (0xFF#8 : Byte) ≠ 0x00#8
      ∧ (let q := { fourReplies with inbound := [requestFrame .portReset []] }
         let s := withPort .plant
          { q with selected := some { summary := 0x01#8, shifted := [0x01#8], kind := .read q.choose } } site
         (s.port .plant).selected = some { summary := 0x01#8, shifted := [0x01#8], kind := .read q.choose }
          ∧ s.frameAtFront .plant (requestFrame .portReset []) = true)
      ∧ (let frame : List Byte := [0x30#8]
         let s := withPort .plant { PortState.initial with
          selected := some { summary := 0x01#8, shifted := [0x01#8], kind := .write frame } } site
         (s.port .plant).selected = some { summary := 0x01#8, shifted := [0x01#8], kind := .write frame }
          ∧ s.resetting = false)
      ∧ ({ site with resetting := true }.resetting = true
        ∧ ({ site with resetting := true }.port .plant).selected = none) := by decide +kernel

theorem test_hypotheses_ATenantNamesItsOwnCarriers :
    (48 ≤ (0x30#8 : Byte).toNat ∧ TakesNow (.tenant 3) .offer [0x30#8] site ∧ TakesNow (.tenant 3) .wake [0x30#8, 0x00#8] site
        ∧ TakesNow (.tenant 3) .hold [0x30#8, 0x00#8] site ∧ TakesNow (.tenant 3) .release [0x30#8] site
        ∧ TakesNow (.tenant 3) .readCarrier [0x30#8] site ∧ TakesNow (.tenant 3) .withdraw [0x30#8] site
        ∧ TakesNow (.tenant 3) .drained [0x30#8] site ∧ TakesNow (.tenant 3) .live [0x30#8] site)
      ∧ ((site.carrier 47).ownedBy 2 = false ∧ TakesNow (.tenant 2) .offer [indexByte (47 : CarrierId)] site
        ∧ TakesNow (.tenant 2) .wake [indexByte (47 : CarrierId), 0x07#8] site
        ∧ TakesNow (.tenant 2) .withdraw [indexByte (47 : CarrierId)] site
        ∧ TakesNow (.tenant 2) .drained [indexByte (47 : CarrierId)] site
        ∧ TakesNow (.tenant 2) .live [indexByte (47 : CarrierId)] site)
      ∧ ((site.carrier 0).WellShaped ∧ (site.carrier 0).state = .vacant) := by decide +kernel

theorem test_hypotheses_OfferRecordsTheOwnersConsent :
    TakesNow (.tenant 3) .offer [indexByte (47 : CarrierId)] site ∧ (site.carrier 47).ownedBy 3 = true := by
  decide +kernel

theorem test_hypotheses_WithdrawEndsTheConsent :
    TakesNow (.tenant 0) .withdraw [indexByte (4 : CarrierId)] site ∧ (site.carrier 4).ownedBy 0 = true
      ∧ (site.carrier 4).state = .draining := by decide +kernel

/-- RC7 steps at a pointer, over carrier 3 at the entry 255. -/
def stepping (pointer : Nat) : State :=
  let s := site.setChannel 7
    { Channel.initial with state := .stepping, quota := 1, count := 1, pointer := pointer }
  ({ s with rest := { s.rest with list := s.rest.list.set 255 (some 3) } }).setCarrier 3
    { s.carrier 3 with offered := true }

theorem test_hypotheses_ACancelFreesASlotForAdmittedDrains :
    (site.carrier 4).provision = some (pv 0 5 1 .coverage (some 0)) ∧ (site.carrier 4).state = .draining
      ∧ (site.carrier 4).drainChannel = some 2
      ∧ (let s := (stepping 255).setDrainLimit 0 1
         (s.channel 7).pointer = (255 : Fin 256).val ∧ s.rest.list[(255 : Fin 256).val] = some 3
          ∧ s.drainAnswer 3 = .limit 0
          ∧ ((s.processEntry 7).channel 7).state = .blocked ∧ ((s.processEntry 7).channel 7).waiting = some 0
          ∧ after (.withdraw (.tenant 0) 0x04#8) (s.processEntry 7) (fun t =>
            (t.carrier 3).state == .draining && (t.channel 7).state == .awaiting) = true) := by decide +kernel

theorem test_hypotheses_DrainedRestsTheCarrier :
    TakesNow (.tenant 0) .drained [indexByte (4 : CarrierId)] site ∧ (site.carrier 4).ownedBy 0 = true
      ∧ (site.carrier 4).provision = some (pv 0 5 1 .coverage (some 0)) ∧ (site.carrier 4).state = .draining
      ∧ (site.carrier 4).drainChannel = some 2
      ∧ (site.carrier 3).state ≠ .draining ∧ TakesNow (.tenant 0) .drained [indexByte (3 : CarrierId)] site := by
  decide +kernel

/-- Branch 15 in another state, its one member RESTING. -/
def site15 (state : BranchState) : State := site.setBranch 15 { branchOf state [47] with raiseLevel := 3 }

theorem test_hypotheses_ABranchFollowsItsMembers :
    (let s := site15 .powered
     (s.branch 15).state = .powered ∧ (s.branch 15).lineMode = .follow ∧ (s.branch 15).members ≠ []
      ∧ (∀ c ∈ (s.branch 15).members, (s.carrier c).state = .resting) ∧ s.halted = false ∧ s.ctrl.linger ≠ 0
      ∧ { s with ctrl := { s.ctrl with linger := 0 } }.ctrl.linger = 0
      ∧ (s.setRestHold true).lines.restHold = true ∧ s.lines.restHold = false)
      ∧ (site.branch 15).state = .settling ∧ ((site15 .lowering).branch 15).state = .lowering
      ∧ ((site15 .dark).branch 15).state = .dark ∧ ((site15 .raising).branch 15).state = .raising
      ∧ (((site15 .queued).branch 15).state = .queued ∧ 3 ≤ ((site15 .queued).branch 15).raiseLevel
        ∧ ((site15 .queued).branch 15).raiseLevel < 4)
      ∧ ((site15 .faulted).branch 15).state = .faulted
      ∧ (let s := site.setCarrier 6 (wakingOf (pv 0 5 1 .coverage (some 0)) 7 false)
         (s.branch 1).members.Pairwise (· < ·) ∧ 6 ∈ (s.branch 1).members ∧ (s.carrier 6).state = .waking
          ∧ (s.carrier 6).unmuteSent = false ∧ (s.carrier 6).ownedBy 0 = true) := by decide +kernel

theorem test_hypotheses_LiveBringsTheCarrierOn :
    TakesNow (.tenant 0) .live [indexByte (6 : CarrierId)] site ∧ (site.carrier 6).ownedBy 0 = true := by decide +kernel

theorem test_hypotheses_WakeActsByTheCarriersState :
    (TakesNow (.tenant 0) .wake [0xFF#8, 0x00#8] site ∧ TakesNow (.tenant 0) .wake [0xFF#8, 0x08#8] site)
      ∧ (TakesNow (.tenant 3) .wake [indexByte (47 : CarrierId), 0x07#8] site
        ∧ (site.carrier 47).provision = some (pv 3 0 15 .capacity none) ∧ (site.carrier 47).state = .resting)
      ∧ (TakesNow (.tenant 0) .wake [indexByte (4 : CarrierId), 0x01#8] site
        ∧ (site.carrier 4).provision = some (pv 0 5 1 .coverage (some 0)) ∧ (site.carrier 4).state = .draining) := by
  decide +kernel

theorem test_hypotheses_ARoundWakesEachCarrierByItsOwnState :
    Carrier.restsOrDrains Carrier.vacant = false ∧ CarriersShaped site
      ∧ Carrier.restsOrDrains (site.carrier 3) = false ∧ Carrier.restsOrDrains (site.carrier 4) = true
      ∧ (site.carrier 4).state = .draining ∧ Carrier.restsOrDrains (site.carrier 5) = true
      ∧ (site.carrier 5).state ≠ .draining ∧ (site.carrier 4).ownedBy 0 = true := by decide +kernel

theorem test_hypotheses_HoldPlacesAClaim :
    (TakesNow .plant .hold [0x30#8, 0x01#8] site ∧ TakesNow .plant .hold [0x00#8, 0x08#8] site)
      ∧ (TakesNow .plant .hold [indexByte (0 : CarrierId), 0x07#8] site ∧ (site.carrier 0).state = .vacant)
      ∧ (let s := site.setCarrier 47 { site.carrier 47 with claims := 0x10#5 }
         TakesNow .plant .hold [indexByte (47 : CarrierId), 0x01#8] s ∧ (s.carrier 47).state ≠ .vacant
          ∧ claims (s.carrier 47).claims .plant = true)
      ∧ (claimantOf (.tenant 3) = some (.tenant 3)
        ∧ TakesNow (.tenant 3) .hold [indexByte (47 : CarrierId), 0x07#8] site
        ∧ (site.carrier 47).provision = some (pv 3 0 15 .capacity none) ∧ (site.carrier 47).state ≠ .vacant
        ∧ claims (site.carrier 47).claims (.tenant 3) = false) := by decide +kernel

theorem test_hypotheses_ReleaseRemovesTheClaim :
    TakesNow (.tenant 3) .release [0x30#8] site ∧ claimantOf .plant = some .plant
      ∧ TakesNow .plant .release [indexByte (47 : CarrierId)] site := by decide +kernel

/-- Branch 15 waits at the head of the queue at a level. -/
def queued15 (level : Nat) (budget : Nat) : State :=
  (site15 .queued).setArb { site.arb with budget := budget, normalHolders := [1], queue := [{ branch := 15, level := level, stamp := 0 }] }

/-- Two levels, two stamps within the lower one. -/
def threeEntries : List QueueEntry :=
  [{ branch := 3, level := 7, stamp := 9 }, { branch := 0, level := 1, stamp := 2 }, { branch := 15, level := 1, stamp := 5 }]

theorem test_hypotheses_TheArbiterServesTheHead :
    (InQueueOrder threeEntries ∧ (∀ x ∈ threeEntries, x.stamp ≠ 3))
      ∧ ((threeEntries.map (fun x => x.stamp)).Nodup ∧ (threeEntries.map (fun x => x.branch)).Nodup
        ∧ { branch := 15, level := 1, stamp := 5 } ∈ threeEntries)
      ∧ site.arb.nextGrant = none
      ∧ ((queued15 3 2).arb.queue = { branch := 15, level := 3, stamp := 0 } :: []
        ∧ (queued15 3 2).arb.normalHolders.length < (queued15 3 2).arb.budget)
      ∧ ((queued15 7 1).arb.budget ≤ (queued15 7 1).arb.normalHolders.length
        ∧ (queued15 7 1).arb.emergencyHolder = none)
      ∧ (queued15 7 1).bgd 15 = true ∧ ((queued15 7 1).setBgd 15 false).bgd 15 = false
      ∧ TakesNow .plant .setBudget [0x05#8] site ∧ TakesNow .plant .setBudget [0x04#8] site := by decide +kernel

theorem test_hypotheses_ForceWakeWakesItsScope :
    (TakesNow .plant .forceWake [0x03#8, 0x00#8] site ∧ TakesNow .plant .forceWake [0x01#8, 0x10#8] site
        ∧ TakesNow .plant .forceWake [0x02#8, 0x06#8] site)
      ∧ (TakesNow .plant .forceWake [0x01#8, indexByte (0 : BranchId)] site ∧ (site.branch 0).state = .unused)
      ∧ (TakesNow .plant .forceWake [0x00#8, 0xFF#8] site
        ∧ TakesNow .plant .forceWake [0x01#8, indexByte (15 : BranchId)] site ∧ (site.branch 15).state ≠ .unused
        ∧ TakesNow .plant .forceWake [0x02#8, indexByte (5 : SectorId)] site) := by decide +kernel

theorem test_hypotheses_LimitsAndDurationsAreReplaced :
    TakesNow .plant .setRamp [0x78#8, 0x79#8] site
      ∧ TakesNow .fleet .setTimers (twoBytes 900 ++ twoBytes 300 ++ twoBytes 3600) site
      ∧ TakesNow .fleet .setDrainLimit [0x04#8, 0x01#8] site ∧ TakesNow .fleet .setDrainLimit [0x03#8, 0x09#8] site
      ∧ TakesNow .fleet .setDrainLimit [indexByte (3 : TenantId), 0x08#8] site := by decide +kernel

theorem test_hypotheses_PinAndUnpinSetTheLineMode :
    TakesNow .plant .pin [0x10#8] site ∧ TakesNow .plant .unpin [0x10#8] site
      ∧ TakesNow .plant .pin [indexByte (15 : BranchId)] site
      ∧ TakesNow .plant .unpin [indexByte (15 : BranchId)] site := by decide +kernel

theorem test_hypotheses_ReturnBranchRestoresItsMembers :
    TakesNow .plant .returnBranch [0x10#8] site
      ∧ ((site.branch 15).state ≠ .out ∧ TakesNow .plant .returnBranch [indexByte (15 : BranchId)] site)
      ∧ (let s := (site15 .out).setCarrier 47 { site.carrier 47 with state := .barred, pendingWake := 7 }
         (s.branch 15).state = .out ∧ TakesNow .plant .returnBranch [indexByte (15 : BranchId)] s
          ∧ 47 ∈ (s.branch 15).members ∧ (s.carrier 47).state = .barred ∧ (s.carrier 47).pendingWake = 7
          ∧ (s.carrier 47).onBranch 15 = true ∧ (s.branch 15).members.Pairwise (· < ·))
      ∧ (let s := ((site15 .out).setBranch 15 { (site15 .out).branch 15 with lineMode := .pinned }).setCarrier 47
          { site.carrier 47 with state := .barred }
         (s.branch 15).state = .out ∧ TakesNow .plant .returnBranch [indexByte (15 : BranchId)] s
          ∧ (s.branch 15).lineMode = .pinned ∧ ∀ c ∈ (s.branch 15).members, (s.carrier c).pendingWake = 0)
      ∧ (let s := (site15 .out).setCarrier 47 { site.carrier 47 with state := .barred }
         (s.branch 15).state = .out ∧ TakesNow .plant .returnBranch [indexByte (15 : BranchId)] s
          ∧ (s.branch 15).lineMode = .follow
          ∧ ∀ c ∈ (s.branch 15).members, (s.carrier c).state = .barred ∧ (s.carrier c).pendingWake = 0) := by
  decide +kernel

theorem test_hypotheses_ResolveIsChecked :
    (TakesNow .plant .resolve [0x04#8, 0x00#8, 0x00#8] site ∧ TakesNow .plant .resolve [0x02#8, 0x10#8, 0x01#8] site
        ∧ TakesNow .plant .resolve [0x03#8, 0x30#8, 0x01#8] site ∧ TakesNow .plant .resolve [0x00#8, 0x00#8, 0x02#8] site)
      ∧ (let f := Failure.liveTimeout 47
         TakesNow .plant .resolve [f.kindCode, f.subjectCode, Disposition.retry.code] site ∧ site.stack.records = [])
      ∧ (let f := Failure.liveTimeout 47
         let top := FaultRecord.ofCarrier 6 none false
         let s := stacked top 8 haltedSite
         TakesNow .plant .resolve [f.kindCode, f.subjectCode, Disposition.retry.code] s
          ∧ s.stack.records = top :: List.replicate 7 (.ofCarrier 0 none true) ∧ s.halted = true
          ∧ (stacked top 8 site).halted = false ∧ top.failure ≠ f) := by decide +kernel

/-- A state in which RESOLVE of the top record passes its checks. -/
abbrev Resolvable (top : FaultRecord) (d : Disposition) (s : State) : Prop :=
  TakesNow .plant .resolve [top.failure.kindCode, top.failure.subjectCode, d.code] s ∧ s.halted = false
    ∧ s.stack.records = top :: []

theorem test_hypotheses_ResolveActsOnTheSubject :
    Resolvable (.ofCarrier 6 none true) .retry (stacked (.ofCarrier 6 none true) 1 site)
      ∧ (let top := FaultRecord.ofCarrier 6 none false
         let s := stacked top 1 site
         Resolvable top .retry s ∧ Resolvable top .retire s
          ∧ (s.carrier 6).provision = some (pv 0 5 1 .coverage (some 0)) ∧ (s.carrier 6).state = .waking
          ∧ (s.carrier 6).unmuteSent = true ∧ (s.branch 1).state = .powered)
      ∧ (let top := FaultRecord.ofCarrier 3 none false
         Resolvable top .retry (stacked top 1 site) ∧ (site.carrier 3).state ≠ .waking) := by
  decide +kernel

theorem test_hypotheses_ResolveActsOnTheSubject_branches :
    (let top := FaultRecord.ofBranch .rampDownStuck 15 none []
         let s := stacked top 1 (site15 .faulted)
         Resolvable top .retry s ∧ Resolvable top .retire s ∧ (s.branch 15).state = .faulted
          ∧ (s.branch 15).lineMode = .follow ∧ (∀ c ∈ (s.branch 15).members, (s.carrier c).state = .resting)
          ∧ s.bgd 15 = true)
      ∧ (let top := FaultRecord.ofBranch .rampDownStuck 15 none []
         let s := stacked top 1 ((site15 .faulted).setCarrier 47 (wakingOf (pv 3 0 15 .capacity none) 1 false))
         Resolvable top .retry s ∧ (s.branch 15).state = .faulted
          ∧ (∃ c ∈ (s.branch 15).members, (s.carrier c).state ≠ .resting) ∧ s.bgd 15 = true
          ∧ Resolvable top .retire (s.setBgd 15 false) ∧ (s.setBgd 15 false).bgd 15 = false)
      ∧ (let top := FaultRecord.ofBranch .powerLost 15 none []
         let s := stacked top 1 (site15 .faulted)
         Resolvable top .retry s ∧ Resolvable top .retire s ∧ (s.branch 15).state = .faulted
          ∧ (s.branch 15).members.Pairwise (· < ·) ∧ (s.carrier 47).state = .resting ∧ (s.carrier 47).ownedBy 3 = true
          ∧ after (.resolve .plant 0x02#8 0x0F#8 0x01#8) s
            (fun t => (t.port (.tenant 3)).notices == [.barred 47 15]) = true)
      ∧ (let top := FaultRecord.ofBranch .rampUpFailed 15 none []
         let s := stacked top 1 (site15 .faulted)
         Resolvable top .retry s ∧ Resolvable top .retire s ∧ (s.branch 15).state = .faulted) := by decide +kernel

theorem test_hypotheses_HaltStopsTheSite :
    TakesNow .plant .halt [] site ∧ site.halted = false ∧ TakesNow .plant .halt [] haltedSite ∧ haltedSite.halted = true
      ∧ (site.carrier 4).state = .draining ∧ (site.carrier 5).state = .resting ∧ (site.carrier 3).state = .on
      ∧ ((site.setCarrier 47 { site.carrier 47 with state := .barred }).carrier 47).state = .barred
      ∧ (site.channel 2).state ≠ .blocked := by decide +kernel

theorem test_hypotheses_TheRestHoldFollowsItsMode :
    TakesNow .plant .setHoldMode [0x04#8, 0x00#8] site ∧ TakesNow .plant .setHoldMode [0x03#8, 0x02#8] site
      ∧ TakesNow .plant .setHoldMode [HoldMode.wake.code, flagByte true] site ∧ TakesNow .plant .clearHold [] site := by
  decide +kernel

theorem test_hypotheses_SetOutputChoosesWhatALineShows :
    (TakesNow .plant .setOutput [0x04#8, 0x00#8, 0x00#8] site ∧ TakesNow .plant .setOutput [0x00#8, 0x06#8, 0x00#8] site
        ∧ TakesNow .plant .setOutput [0x00#8, 0x05#8, 0x08#8] site)
      ∧ (TakesNow .plant .setOutput [indexByte (3 : OutputId), (OutputSource.done 7).code, 0x07#8] site
        ∧ 0x07#8 = indexByte (7 : ChannelId))
      ∧ (site.output 0).source = .none := by decide +kernel

theorem test_hypotheses_StartChannelDeliversAStart :
    (TakesNow .plant .startChannel [0x08#8] site ∧ TakesNow .fleet .startChannel [0xFF#8] site)
      ∧ TakesNow .fleet .startChannel [indexByte (7 : ChannelId)] haltedSite
      ∧ (TakesNow .fleet .startChannel [indexByte (7 : ChannelId)] site ∧ (site.channel 7).state = .idle
        ∧ (site.channel 7).count = 0)
      ∧ (let s := site.setChannel 7 { Channel.initial with count := 255 }
         TakesNow .plant .startChannel [indexByte (7 : ChannelId)] s ∧ s.halted = false ∧ (s.channel 7).state = .idle
          ∧ (s.channel 7).count ≠ 0)
      ∧ (TakesNow .plant .startChannel [indexByte (2 : ChannelId)] site ∧ (site.channel 2).state ≠ .idle) := by
  decide +kernel

theorem test_hypotheses_BranchesAreProvisionedAndDeprovisioned :
    TakesNow .fleet .provisionBranch [0x10#8] site ∧ TakesNow .fleet .deprovisionBranch [0x10#8] site
      ∧ TakesNow .fleet .provisionBranch [indexByte (0 : BranchId)] site
      ∧ TakesNow .fleet .deprovisionBranch [indexByte (15 : BranchId)] site := by decide +kernel

theorem test_hypotheses_CarriersAreProvisionedAndDeprovisioned :
    TakesNow .fleet .provisionCarrier [0x30#8, 0x00#8, 0x00#8, 0x00#8, 0x00#8, 0x00#8] site
      ∧ TakesNow .fleet .provisionCarrier [0x00#8, 0x00#8, 0x00#8, 0x00#8, 0x00#8, 0x08#8] site
      ∧ (let p := pv 3 5 1 .capacity none
         TakesNow .fleet .provisionCarrier [indexByte (0 : CarrierId), indexByte p.owner, indexByte p.sector,
          indexByte p.branch, p.layer.code, optionByte indexByte p.window] site)
      ∧ ([3, 4, 5, 47] : List CarrierId).Pairwise (· < ·)
      ∧ TakesNow .fleet .deprovisionCarrier [0x30#8] site
      ∧ (TakesNow .fleet .deprovisionCarrier [indexByte (47 : CarrierId)] site ∧ (site.carrier 47).state ≠ .on)
      ∧ (TakesNow .fleet .deprovisionCarrier [indexByte (3 : CarrierId)] site
        ∧ (site.carrier 3).provision = some (pv 0 5 1 .coverage (some 0)) ∧ (site.carrier 3).state = .on) := by
  decide +kernel

theorem test_hypotheses_SetFloorBringsTheFloorWithinReach :
    (TakesNow .fleet .setFloor [0x04#8, 0x00#8, 0x00#8] site ∧ TakesNow .fleet .setFloor [0x00#8, 0x06#8, 0x00#8] site
        ∧ TakesNow .fleet .setFloor [0x00#8, 0x00#8, 0x07#8] site)
      ∧ (TakesNow .fleet .setFloor [indexByte (0 : TenantId), indexByte (5 : SectorId), 0x06#8] site
        ∧ site.floorOf 0 5 < 6 ∧ (site.carrier 5).state = .resting ∧ (site.carrier 4).state ≠ .resting)
      ∧ (let s := site.setCarrier 7 (site.carrier 5)
         TakesNow .fleet .setFloor [indexByte (0 : TenantId), indexByte (5 : SectorId), 0x06#8] s
          ∧ (5 : CarrierId) < 7 ∧ (s.carrier 5).state = .resting ∧ (s.carrier 7).state = .resting
          ∧ (s.carrier 5).coverageOf 0 5 = true
          ∧ after (.setFloor .fleet 0x00#8 0x05#8 0x06#8) s (fun t => (t.carrier 7).state == .waking) = true)
      ∧ (TakesNow .fleet .setFloor [indexByte (0 : TenantId), indexByte (5 : SectorId), 0x00#8] site
        ∧ 0 ≤ site.floorOf 0 5) := by decide +kernel

theorem test_hypotheses_SiteTimeAdvancesAndSteps :
    TakesNow .fleet .setTime (threeBytes 604800) site ∧ TakesNow .fleet .setTime (threeBytes 604799) site
      ∧ (TakesNow .fleet .setTime (threeBytes 10) site ∧ (0x00000A#24 : Triple).toNat = site.now ∧ site.now < 604800
        ∧ site.timer.timeValid = true)
      ∧ (let s := { site with timer := { site.timer with timeValid := false } }
         TakesNow .fleet .setTime (threeBytes 10) s ∧ s.timer.timeValid = false)
      ∧ { site with resetting := true }.resetting = true ∧ site.resetting = false := by decide +kernel

theorem test_hypotheses_WindowEventsActOnTheirWindow :
    ((site.carrier 4).boundTo 0 = true ∧ (site.carrier 4).state = .draining)
      ∧ ((site.carrier 5).boundTo 0 = true ∧ (site.carrier 5).state = .resting)
      ∧ ((site.carrier 3).boundTo 0 = true ∧ (site.carrier 3).state = .on)
      ∧ ((site.branch 15).state = .settling ∧ (15 : BranchId) ∉ site.arb.queue.map (fun e => e.branch)
        ∧ (∀ c, (site.carrier c).boundTo 0 = true → (site.carrier c).onBranch 15 = false)
        ∧ site.lines.holdMode ≠ .latch)
      ∧ (let s := site.setCarrier 47 (carrierOf .resting (pv 3 0 15 .capacity (some 0)))
         (s.carrier 47).boundTo 0 = true ∧ (s.carrier 47).state = .resting ∧ (s.carrier 47).onBranch 15 = true)
      ∧ (let s := { site with lines := { site.lines with holdMode := .latch, restHold := true } }.setBranch 15
          { branchOf .settling [47] with lingerExpired := true }
         s.lines.holdMode = .latch ∧ s.lines.restHold = true ∧ (s.branch 15).lingerExpired = true
          ∧ (s.branch 15).state = .settling) := by decide +kernel

theorem test_hypotheses_WindowSetsAreWrittenAndCommitted :
    (TakesNow .fleet .writeWindow ([0x08#8, 0x00#8] ++ threeBytes 0 ++ threeBytes 0 ++ [0x00#8, 0x00#8]) site
        ∧ TakesNow .fleet .writeWindow ([0x07#8, 0x01#8] ++ threeBytes 86399 ++ threeBytes 86399 ++ [0x00#8, 0x00#8]) site)
      ∧ (let ws : WindowSet := { enabled := true, openSecond := 86399, closeSecond := 0, dayMask := 0x7F#7, quiet := 7 }
         ws.WellFormed ∧ TakesNow .fleet .writeWindow ([indexByte (7 : WindowId), flagByte ws.enabled] ++ threeBytes 86399
          ++ threeBytes 0 ++ [setByte ws.dayMask, byteOf ws.quiet]) site
          ∧ (BitVec.ofNat 24 86399).toNat = ws.openSecond ∧ (0#24).toNat = ws.closeSecond)
      ∧ TakesNow .fleet .commitWindow [0x08#8] site ∧ TakesNow .fleet .commitWindow [indexByte (7 : WindowId)] site := by
  decide +kernel

theorem test_hypotheses_WriteChannelReplacesThePlan :
    TakesNow .fleet .writeChannel [0x08#8, 0x00#8, 0x00#8, 0x00#8, 0x00#8, 0x01#8, 0x00#8, 0x00#8, 0x00#8] site
      ∧ TakesNow .fleet .writeChannel [0x00#8, 0x02#8, 0x00#8, 0x11#8, 0x0F#8, 0x10#8, 0x00#8, 0x00#8, 0x00#8] site
      ∧ (0x11#8 : Byte).toNat + (0x0F#8 : Byte).toNat * (0x10#8 : Byte).toNat = 257
      ∧ TakesNow .fleet .writeChannel [indexByte (7 : ChannelId), ChannelMode.group.code, PointerMode.advance.code, 0x10#8,
          0x0F#8, 0x10#8, flagByte true, indexByte (7 : ChannelId), flagByte true] site
      ∧ (0x10#8 : Byte).toNat + (0x0F#8 : Byte).toNat * (0x10#8 : Byte).toNat = 256 := by decide +kernel

theorem test_hypotheses_WriteListReplacesEntries :
    (TakesNow .fleet .writeList [0x00#8, 0x02#8, 0x00#8] site ∧ TakesNow .fleet .writeList [0xFF#8, 0x02#8, 0x00#8, 0x00#8] site
        ∧ TakesNow .fleet .writeList [0x00#8, 0x01#8, 0x30#8] site)
      ∧ (TakesNow .fleet .writeList (0xFE#8 :: 0x02#8 :: [0x2F#8, 0xFF#8]) site
        ∧ [0x2F#8, 0xFF#8] = [some (47 : CarrierId), none].map (optionByte indexByte)
        ∧ (0xFE#8 : Byte).toNat + (0x02#8 : Byte).toNat ≤ 256) := by decide +kernel

theorem test_hypotheses_TheCauseUnitIsSet :
    TakesNow .fleet .clearCause [0x10#8] site ∧ TakesNow .fleet .clearCause [indexByte (15 : SlotId)] site
      ∧ TakesNow .fleet .mapCause [0x10#8, 0x00#8, 0x00#8, 0x00#8] site
      ∧ TakesNow .fleet .mapCause [0x00#8, 0x08#8, 0x00#8, 0x00#8] site
      ∧ (let s := site.setSlot 15 { target := 0, startEnable := false, disarm := false, flag := true }
         TakesNow .fleet .mapCause [indexByte (15 : SlotId), indexByte (7 : ChannelId), flagByte true, flagByte true] s
          ∧ (s.slot 15).startEnable = false ∧ (s.slot 15).flag = true ∧ s.halted = false)
      ∧ (site.slot 15).flag = false
      ∧ TakesNow .fleet .setInput [0x08#8, 0x00#8, 0x00#8, 0x01#8, 0x00#8, 0x00#8] site
      ∧ TakesNow .fleet .setInput [0x00#8, 0x00#8, 0x00#8, 0x08#8, 0x10#8, 0x40#8] site
      ∧ TakesNow .fleet .setInput [indexByte (7 : InputId), EdgeMode.both.code, InputRole.wake.code, byteOf 7,
          setByte 0xF#4, setByte 0x3F#6] site := by decide +kernel

theorem test_hypotheses_ReadsCarryTheImageAndChangeNothing :
    TakesNow (.tenant 0) .readSite [] site ∧ TakesNow (.tenant 0) .readCarrier [indexByte (47 : CarrierId)] site
      ∧ TakesNow (.tenant 0) .readBranch [indexByte (15 : BranchId)] site
      ∧ TakesNow (.tenant 0) .readWindow [indexByte (7 : WindowId)] site
      ∧ Port.plant.role ≠ .tenant ∧ TakesNow .plant .readChannel [indexByte (7 : ChannelId)] site
      ∧ TakesNow .plant .readCauses [] site
      ∧ (let s := stacked (.ofCarrier 6 none false) 8 site
         TakesNow .plant .readFaults [0x07#8] s ∧ s.stack.records[7]? = some (.ofCarrier 0 none true))
      ∧ (TakesNow .plant .readFaults [0x07#8] site ∧ site.stack.records.length ≤ 7)
      ∧ TakesNow .plant .readFaults [0x08#8] site ∧ TakesNow .plant .readChannel [0x08#8] site
      ∧ TakesNow .plant .readCarrier [0x30#8] site ∧ TakesNow .plant .readBranch [0x10#8] site
      ∧ TakesNow .plant .readWindow [0x08#8] site := by decide +kernel

theorem test_hypotheses_CarrierDeadlinesExpire :
    ((site.carrier 4).drainDeadline = some 120 ∧ (site.carrier 4).state = .draining)
      ∧ (site.carrier 3).drainDeadline = none ∧ (site.carrier 3).liveDeadline = none
      ∧ (let s := site.setSiteTime 59
         (s.carrier 6).liveDeadline = some 60 ∧ (s.carrier 6).state = .waking ∧ (s.now + 1) % 604800 = 60
          ∧ s.halted = false ∧ s.stack.records.length < 8 ∧ (s.carrier 6).unmuteSent = true)
      ∧ (site.now ≠ 60 ∧ (site.now + 1) % 604800 ≠ 60)
      ∧ (haltedSite.setSiteTime 60).now = 60 ∧ haltedSite.halted = true
      ∧ (let s := stacked (.ofCarrier 0 none true) 8 (site.setSiteTime 60)
         s.halted = false ∧ 8 ≤ s.stack.records.length ∧ (s.carrier 6).liveDeadline = some 60) := by decide +kernel

def ramping (state : BranchState) : State :=
  (site.setBranch 15 { branchOf state [47] with rampDeadline := some 10, raiseLevel := 7, grant := .normal }).setArb
    { site.arb with normalHolders := [15] }

theorem test_hypotheses_BranchDeadlinesExpire :
    ((site.branch 1).lingerDeadline = none ∧ (site.branch 1).rampDeadline = none)
      ∧ ((site.branch 15).lingerDeadline = some 300 ∧ (site.branch 15).state = .settling)
      ∧ (let s := (ramping .lowering).setSiteTime 11
         (s.branch 15).rampDeadline = some 10 ∧ s.now ≠ 10 ∧ (s.now + 1) % 604800 ≠ 10)
      ∧ (let s := ramping .lowering
         (s.branch 15).rampDeadline = some 10 ∧ s.now = 10 ∧ (s.branch 15).state = .lowering ∧ s.halted = false
          ∧ s.stack.records.length < 8 ∧ (15 : BranchId) ∉ s.arb.queue.map (fun e => e.branch))
      ∧ (let s := ramping .raising
         (s.branch 15).rampDeadline = some 10 ∧ s.now = 10 ∧ (s.branch 15).state = .raising
          ∧ (15 : BranchId) ∉ s.arb.queue.map (fun e => e.branch)
          ∧ ((15 : BranchId) ∈ s.arb.normalHolders → (s.branch 15).grant = .normal) ∧ s.halted = false)
      ∧ (stacked (.ofCarrier 0 none true) 8 (ramping .raising)).halted = false
      ∧ 8 ≤ (stacked (.ofCarrier 0 none true) 8 (ramping .raising)).stack.records.length := by decide +kernel

theorem test_hypotheses_PowerGoodEdgesActOnTheBranch :
    (site.bgd 1 = true ∧ (site.setBgd 1 false).bgd 1 = false)
      ∧ ((site.branch 0).state ∉ [BranchState.lowering, .powered, .settling])
      ∧ ((ramping .lowering).branch 15).state = .lowering
      ∧ ((site.branch 1).state = .powered ∧ (1 : BranchId) ∉ site.arb.queue.map (fun e => e.branch)
        ∧ (site.carrier 3).state = .on ∧ (site.carrier 4).state = .draining ∧ (site.carrier 5).state = .resting
        ∧ (site.carrier 6).state = .waking ∧ site.halted = false ∧ site.stack.records.length < 8
        ∧ (site.branch 1).members.Pairwise (· < ·) ∧ (site.carrier 4).ownedBy 0 = true
        ∧ after (.bgdFall 1) site (fun t => (t.port (.tenant 0)).notices ==
          [.drainCancel 4 .powerLost, .branchDown 3 1, .branchDown 4 1, .branchDown 5 1, .branchDown 6 1]) = true)
      ∧ 8 ≤ (stacked (.ofCarrier 0 none true) 8 site).stack.records.length
      ∧ (((ramping .raising).setBgd 15 false).bgd 15 = false ∧ ((ramping .raising).branch 15).state = .raising)
      ∧ (site.branch 1).state ≠ .raising := by decide +kernel

/-- Slot 15 mapped to a channel, with start enable and flag as given. -/
def mapped (target : ChannelId) (enable flag : Bool) (s : State) : State :=
  s.setSlot 15 { target := target, startEnable := enable, disarm := true, flag := flag }

theorem test_hypotheses_ACauseSetsItsFlagAndStartsItsTarget :
    (((mapped 7 false true site).slot 15).startEnable = false ∧ ((mapped 7 false true site).slot 15).flag = true)
      ∧ ((mapped 7 false false site).slot 15).flag = false
      ∧ (((mapped 7 true false haltedSite).slot 15).startEnable = true ∧ (mapped 7 true false haltedSite).halted = true)
      ∧ ((mapped 2 true false site).halted = false ∧ ((mapped 2 true false site).channel 2).state ≠ .idle)
      ∧ (((mapped 7 true false site).channel 7).state = .idle ∧ ((mapped 7 true false site).channel 7).count = 0)
      ∧ ((site.setChannel 7 { Channel.initial with count := 1 }).channel 7).count ≠ 0 := by decide +kernel

theorem test_hypotheses_InputEdgesActByRoleAndMode :
    (site.ev 7 = false ∧ site.lines.holdawk = false ∧ (site.input 7).edgeMode = .off ∧ (site.input 7).role = .cause)
      ∧ (let s := site.setInput 7 { site.input 7 with edgeMode := .both, role := .wake }
         s.ev 7 = !true ∧ (s.input 7).edgeMode = .both ∧ (s.input 7).role = .wake)
      ∧ (site.lines.holdawk = !true ∧ true ≠ site.lines.holdInvert)
      ∧ ({ site with lines := { site.lines with holdMode := .latch, restHold := true } }.lines.holdMode = .latch) := by
  decide +kernel

theorem test_hypotheses_ADrainStartsUnderTheNineConditions :
    haltedSite.halted = true ∧ site.halted = false ∧ (site.carrier 0).state = .vacant
      ∧ (site.carrier 3).provision = some (pv 0 5 1 .coverage (some 0)) ∧ (site.carrier 3).state ≠ .vacant := by
  decide +kernel

theorem test_hypotheses_AChannelStepProcessesOneEntry :
    (site.channel 7).state ≠ .stepping
      ∧ ((stepping 254).channel 7).state = .stepping ∧ (stepping 254).halted = false
      ∧ ((stepping 255).channel 7).pointer = (255 : Fin 256).val ∧ (stepping 254).rest.list[(254 : Fin 256).val] = none
      ∧ (stepping 255).rest.list[(255 : Fin 256).val] = some 3 ∧ (stepping 255).drainAnswer 3 = .started
      ∧ ((stepping 255).setCarrier 3 (site.carrier 3)).drainAnswer 3 = .declined .notOffered
      ∧ ((stepping 255).setDrainLimit 0 1).drainAnswer 3 = .limit 0 := by decide +kernel

theorem test_hypotheses_EntriesAndOutcomesMoveTheChannel :
    (haltedSite.halted = true ∧ (site.channel 7).state = .idle)
      ∧ (site.halted = false ∧ (site.channel 2).state ≠ .idle ∧ (site.channel 2).outstanding ≠ 0)
      ∧ (let s := site.setChannel 2 { site.channel 2 with outstanding := 0 }
         s.halted = false ∧ (s.channel 2).state = .awaiting ∧ (s.channel 2).outstanding = 0
          ∧ (s.channel 2).pendingStart = none ∧ (s.channel 2).linkEnable = false)
      ∧ (let s := site.setChannel 2
          { site.channel 2 with outstanding := 0, pendingStart := some .plantRequest, linkEnable := true, linkTarget := 7 }
         s.halted = false ∧ (s.channel 2).state = .awaiting ∧ (s.channel 2).outstanding = 0
          ∧ (s.channel 2).count = 0 ∧ (s.channel 2).linkEnable = true ∧ (s.channel 7).state = .idle)
      ∧ ((stepping 255).channel 7).count ≠ 0 := by decide +kernel

/-- The premises of the invariants hold of a state with work in it; its step is that of the test of its command. -/
theorem test_hypotheses_of_the_invariants :
    PortsBounded site ∧ StackBounded site ∧ HaltQuiet site ∧ DrainingConsents site ∧ CarriersShaped site
      ∧ WindowsShaped site ∧ ChannelsShaped site ∧ NoGrantWaits site ∧ haltedSite.halted = true
      ∧ step { site with pending := [.donePulseEnd 0] } = exec (.donePulseEnd 0) site := by
  refine ⟨?_, ?_, ?_, ?_, ?_, ?_, ?_, ?_, ?_, rfl⟩ <;> decide +kernel

/-- Carrier 47 wakes, and branch 15 of `site` waits for a grant at level 3 while branch 14 holds the NORMAL one. -/
def contended : State :=
  ((((site.setBranch 14 { branchOf .raising [] with rampDeadline := some 30, raiseLevel := 1, grant := .normal }).setBranch
    15 { branchOf .queued [47] with raiseLevel := 3 }).setCarrier 47 (wakingOf (pv 3 0 15 .capacity none) 3 false))).setArb
    { site.arb with
      normalHolders := [14], queue := [{ branch := 15, level := 3, stamp := 1 }], entryCounter := 2 }

theorem test_hypotheses_NoServableHeadWaits :
    NoGrantWaits contended ∧ CarriersShaped contended ∧ BranchesShaped contended ∧ HoldersShaped contended
      ∧ QueueShaped contended := by
  refine ⟨?_, ?_, ?_, ?_, ?_⟩ <;> decide +kernel

theorem test_hypotheses_RequestFramesNameTheirCommand :
    requestOf (.writeList .fleet 0xF0#8 0x10#8 (List.replicate 16 0xFF#8)) =
        some (.fleet, .writeList, 0xF0#8 :: 0x10#8 :: List.replicate 16 0xFF#8)
      ∧ (Instr.writeList .fleet 0xF0#8 0x10#8 (List.replicate 16 0xFF#8)).wellFormed = true := by decide +kernel

end Sys2Proof.Tests
end

/-!
SUPPORT. The index check and the owner check of the requests that name a carrier (R3), as equations of the blocks'
answers, and the two statements about them: O11 and O12.
-/
namespace Sys2Proof.Machine
open Sys2Proof

theorem asCarrier_outside {b : Byte} (h : 48 ≤ b.toNat) : asCarrier b = none := asIndex_outside h

theorem asLevel_inside {b : Byte} (h1 : 1 ≤ b.toNat) (h7 : b.toNat ≤ 7) : asLevel b = some b.toNat :=
  asRange_inside h1 h7

/-- A VACANT record has no provision, so no owner (R1). -/
theorem ownedBy_eq_false_of_vacant {r : Carrier} (hr : r.WellShaped) (hv : r.state = .vacant) (t : TenantId) :
    r.ownedBy t = false := by
  obtain ⟨hvacant, -⟩ := hr
  rw [hvacant hv]
  rfl

/-! ## The two checks -/

/-- The index check comes before the owner check (R3). -/
theorem ownCarrier_outside (p : Port) {b : Byte} (hb : 48 ≤ b.toNat) (s : State) (act : CarrierId → Answer) :
    ownCarrier p b s act = .fail .range s := by
  simp [ownCarrier, asCarrier_outside hb]

/-- A tenant that names a carrier of another is turned away (R3). -/
theorem ownCarrier_notOwner {t : TenantId} {c : CarrierId} {s : State} (h : (s.carrier c).ownedBy t = false)
    (act : CarrierId → Answer) : ownCarrier (.tenant t) (indexByte c) s act = .fail .permission s := by
  simp [ownCarrier, ownedByPort, h]

/-- The owner's request passes both checks (R3). -/
theorem ownCarrier_owner {t : TenantId} {c : CarrierId} {s : State} (h : (s.carrier c).ownedBy t = true)
    (act : CarrierId → Answer) : ownCarrier (.tenant t) (indexByte c) s act = act c := by
  simp [ownCarrier, ownedByPort, h]

/-- WAKE answers RANGE for the index whatever the level is: both are in its first check (R88). -/
theorem wakeAnswer_outside (p : Port) {b : Byte} (hb : 48 ≤ b.toNat) (level : Byte) (s : State) :
    wakeAnswer p b level s = .fail .range s := by
  unfold wakeAnswer
  cases asLevel level with
  | none => rfl
  | some l => exact ownCarrier_outside p hb s _

/-- With a level in range, WAKE's second check is the owner's (R88, R3). -/
theorem wakeAnswer_notOwner {t : TenantId} {c : CarrierId} {level : Byte} {s : State} (h1 : 1 ≤ level.toNat)
    (h7 : level.toNat ≤ 7) (h : (s.carrier c).ownedBy t = false) :
    wakeAnswer (.tenant t) (indexByte c) level s = .fail .permission s := by
  rw [wakeAnswer, asLevel_inside h1 h7]
  exact ownCarrier_notOwner h _

/-- HOLD's index check (R34). -/
theorem holdAnswer_outside (p : Port) {b : Byte} (hb : 48 ≤ b.toNat) (level : Byte) (s : State) :
    holdAnswer p b level s = .fail .range s := by
  simp [holdAnswer, asCarrier_outside hb]

/-- RELEASE's index check (R39). -/
theorem releaseAnswer_outside (p : Port) {b : Byte} (hb : 48 ≤ b.toNat) (s : State) :
    releaseAnswer p b s = .fail .range s := by
  simp [releaseAnswer, asCarrier_outside hb]

/-- READ_CARRIER's index check (R31). -/
theorem readCarrierAnswer_outside {b : Byte} (hb : 48 ≤ b.toNat) (s : State) :
    readCarrierAnswer b s = .fail .range s := by
  simp [readCarrierAnswer, asCarrier_outside hb]

/-- OFFER by the owner in SAFE_HALT (R6). -/
theorem offerAnswer_halted {t : TenantId} {c : CarrierId} {s : State} (howner : (s.carrier c).ownedBy t = true)
    (hhalted : s.halted = true) : offerAnswer (.tenant t) (indexByte c) s = .fail .halted s := by
  rw [offerAnswer, ownCarrier_owner howner, if_pos hhalted]

/-- OFFER by the owner of a carrier already offered (R6). -/
theorem offerAnswer_already {t : TenantId} {c : CarrierId} {s : State} (howner : (s.carrier c).ownedBy t = true)
    (hhalted : ¬ s.halted = true) (hoffered : (s.carrier c).offered = true) :
    offerAnswer (.tenant t) (indexByte c) s = .fail .already s := by
  rw [offerAnswer, ownCarrier_owner howner, if_neg hhalted, if_pos hoffered]

/-- OFFER by the owner of a carrier not yet offered writes the one field (R6). -/
theorem offerAnswer_consents {t : TenantId} {c : CarrierId} {s : State} (howner : (s.carrier c).ownedBy t = true)
    (hhalted : ¬ s.halted = true) (hoffered : ¬ (s.carrier c).offered = true) :
    offerAnswer (.tenant t) (indexByte c) s = .ok (s.setCarrier c { s.carrier c with offered := true }) := by
  rw [offerAnswer, ownCarrier_owner howner, if_neg hhalted, if_neg hoffered]

/-! ## The statements -/

/-- Settles O11: each request is turned away by the check that its block's answer makes on the state after the taking,
which holds the carrier records of the state before. -/
theorem aTenantNamesItsOwnCarriers : Obligations.ATenantNamesItsOwnCarriers := by
  unfold Obligations.ATenantNamesItsOwnCarriers
  refine ⟨fun t b level s hb => ⟨?offer, ?withdraw, ?drained, ?live, ?wake, ?hold, ?release, ?readCarrier⟩,
    fun t c level s hc =>
      have taken (frame : List Byte) : ((s.takeOut (.tenant t) frame).carrier c).ownedBy t = false := by
        rwa [takeOut_carrier]
      ⟨?offerNotOwner, ?withdrawNotOwner, ?drainedNotOwner, ?liveNotOwner, ?wakeNotOwner⟩,
    fun t c s hr hv => ownedBy_eq_false_of_vacant hr hv t⟩
  case offer => exact fun h => exec_turnedAway rfl rfl rfl h (ownCarrier_outside _ hb _ _)
  case withdraw => exact fun h => exec_turnedAway rfl rfl rfl h (ownCarrier_outside _ hb _ _)
  case drained => exact fun h => exec_turnedAway rfl rfl rfl h (ownCarrier_outside _ hb _ _)
  case live => exact fun h => exec_turnedAway rfl rfl rfl h (ownCarrier_outside _ hb _ _)
  case wake => exact fun h => exec_turnedAway rfl rfl rfl h (wakeAnswer_outside _ hb _ _)
  case hold => exact fun h => exec_turnedAway rfl rfl rfl h (holdAnswer_outside _ hb _ _)
  case release => exact fun h => exec_turnedAway rfl rfl rfl h (releaseAnswer_outside _ hb _)
  case readCarrier => exact fun h => exec_turnedAway rfl rfl rfl h (readCarrierAnswer_outside hb _)
  case offerNotOwner => exact fun h => exec_turnedAway rfl rfl rfl h (ownCarrier_notOwner (taken _) _)
  case withdrawNotOwner => exact fun h => exec_turnedAway rfl rfl rfl h (ownCarrier_notOwner (taken _) _)
  case drainedNotOwner => exact fun h => exec_turnedAway rfl rfl rfl h (ownCarrier_notOwner (taken _) _)
  case liveNotOwner => exact fun h => exec_turnedAway rfl rfl rfl h (ownCarrier_notOwner (taken _) _)
  case wakeNotOwner => exact fun h1 h7 h => exec_turnedAway rfl rfl rfl h (wakeAnswer_notOwner h1 h7 (taken _))

/-- Settles O12, along the three replies of R6. -/
theorem offerRecordsTheOwnersConsent : Obligations.OfferRecordsTheOwnersConsent := by
  unfold Obligations.OfferRecordsTheOwnersConsent
  intro t c s h howner
  split
  case isTrue hhalted => exact exec_turnedAway rfl rfl rfl h (offerAnswer_halted howner hhalted)
  case isFalse hhalted =>
    split
    case isTrue hoffered => exact exec_turnedAway rfl rfl rfl h (offerAnswer_already howner hhalted hoffered)
    case isFalse hoffered => exact exec_answered rfl rfl rfl h (offerAnswer_consents howner hhalted hoffered)

end Sys2Proof.Machine

/-!
SUPPORT. Claim sets and the checks of RELEASE (R33, R39), the conditions of a drain start that count or look up another
record (R8, R44), and the two statements about them: O21 and O48.
-/
namespace Sys2Proof.Machine
open Sys2Proof

/-! ## Claim sets -/

theorem Claimant.bit_lt (m : Claimant) : m.bit < 5 := by
  cases m with
  | tenant t => exact Nat.lt_succ_of_lt t.isLt
  | plant => decide

/-- Each claimant has a bit of its own: the tenants 0 to 3, the plant controller 4 (R197). -/
theorem Claimant.bit_eq_iff {m m' : Claimant} : m.bit = m'.bit ↔ m = m' := by
  cases m with
  | tenant t =>
    cases m' with
    | tenant u => simp [Claimant.bit, Fin.ext_iff]
    | plant => simp [Claimant.bit, Nat.ne_of_lt t.isLt]
  | plant =>
    cases m' with
    | tenant u => simp [Claimant.bit, Nat.ne_of_gt u.isLt]
    | plant => simp

theorem claims_dropClaim (set : BitVec 5) (m m' : Claimant) :
    claims (dropClaim set m) m' = (claims set m' && m' != m) := by
  by_cases h : m' = m
  · subst h
    simp [claims, dropClaim, Claimant.bit_lt]
  · have hbit : m'.bit ≠ m.bit := fun e => h (Claimant.bit_eq_iff.mp e)
    have hne : (m' != m) = true := bne_iff_ne.mpr h
    simp [claims, dropClaim, Claimant.bit_lt, hbit, hne]

/-! ## RELEASE -/

/-- Every port with a claimant may send RELEASE (R192): the fleet link is the one without. -/
theorem release_permitted {p : Port} (hp : p ≠ .fleet) : RequestKind.release.permitted p.role = true := by
  cases p with
  | tenant t => rfl
  | plant => rfl
  | fleet => exact absurd rfl hp

theorem ne_fleet_of_claimantOf {p : Port} {m : Claimant} (hm : claimantOf p = some m) : p ≠ .fleet := by
  rintro rfl
  cases hm

section Release
variable {p : Port} {m : Claimant} {c : CarrierId} {s : State} (hm : claimantOf p = some m)
include hm

/-- RELEASE of a VACANT carrier (R39). -/
theorem releaseAnswer_vacant (hv : (s.carrier c).state = .vacant) :
    releaseAnswer p (indexByte c) s = .fail .state s := by
  simp [releaseAnswer, hm, hv]

/-- RELEASE by a party that holds no claim (R39). -/
theorem releaseAnswer_noClaim (hv : (s.carrier c).state ≠ .vacant) (hc : claims (s.carrier c).claims m = false) :
    releaseAnswer p (indexByte c) s = .fail .already s := by
  simp [releaseAnswer, hm, hv, hc]

/-- RELEASE by a claimant writes the one field and answers with it (R39). -/
theorem releaseAnswer_drops (hv : (s.carrier c).state ≠ .vacant) (hc : claims (s.carrier c).claims m ≠ false) :
    releaseAnswer p (indexByte c) s =
      .okWith [setByte (dropClaim (s.carrier c).claims m)]
        (s.setCarrier c { s.carrier c with claims := dropClaim (s.carrier c).claims m }) := by
  simp [releaseAnswer, hm, hv, hc]

end Release

/-! ## The conditions of a drain start -/

/-- Condition 6 of R8 fails when the carrier's window is CLOSED. -/
theorem windowAdmits_eq_false_iff (s : State) (window : Option WindowId) :
    s.windowAdmits window = false ↔ window.any (fun w => (s.window w).state == .closed) = true := by
  cases window with
  | none => simp [State.windowAdmits]
  | some w => cases h : (s.window w).state <;> simp [State.windowAdmits, State.windowOpen, h]

/-- The floor test fails for a COVERAGE carrier when its pair's ON count, less one, is below the floor (R44). -/
theorem floorAllows_eq_false_iff (s : State) (pv : Provision) :
    s.floorAllows pv = false ↔
      pv.layer = .coverage ∧ s.onCount pv.owner pv.sector ≤ s.floorOf pv.owner pv.sector := by
  unfold State.floorAllows
  cases pv.layer with
  | coverage =>
    rw [show (Layer.coverage == Layer.capacity) = false from rfl, Bool.false_or, decide_eq_false_iff_not,
      Nat.not_le, Nat.lt_succ_iff, eq_self, true_and]
  | capacity =>
    rw [show (Layer.capacity == Layer.capacity) = true from rfl, Bool.true_or]
    exact iff_of_false Bool.noConfusion fun h => Layer.noConfusion h.1

/-- Condition 9 of R8 fails when the tenant drains as many carriers as its limit. -/
theorem hasFreeSlot_eq_false_iff (s : State) (t : TenantId) :
    s.hasFreeSlot t = false ↔ s.drainLimit t ≤ s.drainingCount t := by
  simp [State.hasFreeSlot]

section DrainAnswer
variable {s : State} {c : CarrierId}

/-- Condition 1 of R8. -/
theorem drainAnswer_halted (hh : s.halted = true) : s.drainAnswer c = .declined .halted := by
  simp [State.drainAnswer, hh]

/-- Condition 2 of R8. -/
theorem drainAnswer_vacant (hh : s.halted = false) (hv : (s.carrier c).state = .vacant) :
    s.drainAnswer c = .declined .vacant := by
  cases hp : (s.carrier c).provision <;> simp [State.drainAnswer, hh, hp, hv]

/-- Conditions 3 to 9 of R8, for a provisioned carrier outside SAFE_HALT. -/
theorem drainAnswer_provisioned {pv : Provision} (hp : (s.carrier c).provision = some pv) (hh : s.halted = false)
    (hv : (s.carrier c).state ≠ .vacant) :
    s.drainAnswer c =
      if (s.carrier c).state ≠ .on then .declined .notOn
      else if (s.carrier c).offered = false then .declined .notOffered
      else if (s.carrier c).claims ≠ 0#5 then .declined .claimed
      else if s.windowAdmits pv.window = false then .declined .windowShut
      else if s.lines.restHold = true then .declined .held
      else if s.floorAllows pv = false then .declined .floor
      else if s.hasFreeSlot pv.owner = false then .limit pv.owner
      else .started := by
  simp only [State.drainAnswer, hh, hp, if_neg hv, Bool.false_eq_true, if_false]

end DrainAnswer

/-! ## The statements -/

/-- Settles O21: the reply of each check of R39 in turn, on the state after the taking, which holds the carrier records
of the state before. -/
theorem releaseRemovesTheClaim : Obligations.ReleaseRemovesTheClaim := by
  unfold Obligations.ReleaseRemovesTheClaim
  refine ⟨claims_dropClaim, fun p b s hp h hb => ?outside, fun p m c s hm h => ?inside⟩
  case outside => exact exec_turnedAway rfl rfl (release_permitted hp) h (releaseAnswer_outside p hb _)
  case inside =>
    have permitted := release_permitted (ne_fleet_of_claimantOf hm)
    split
    case isTrue hv => exact exec_turnedAway rfl rfl permitted h (releaseAnswer_vacant hm hv)
    case isFalse hv =>
      split
      case isTrue hc => exact exec_turnedAway rfl rfl permitted h (releaseAnswer_noClaim hm hv hc)
      case isFalse hc => exact exec_answered rfl rfl permitted h (releaseAnswer_drops hm hv hc)

/-- Settles O48: Table 1-2 in its order, with conditions 6, 8 and 9 read as the tests the manual gives. -/
theorem aDrainStartsUnderTheNineConditions : Obligations.ADrainStartsUnderTheNineConditions := by
  unfold Obligations.ADrainStartsUnderTheNineConditions
  refine fun c s => ⟨drainAnswer_halted, drainAnswer_vacant, fun pv hp hh hv => ?_⟩
  rw [drainAnswer_provisioned hp hh hv]
  simp only [windowAdmits_eq_false_iff, floorAllows_eq_false_iff, hasFreeSlot_eq_false_iff]

end Sys2Proof.Machine

/-!
SUPPORT. The checks of PROVISION_BRANCH and DEPROVISION_BRANCH (R53, R54), as equations of the blocks' answers, and the
statement about them: O33.
-/
namespace Sys2Proof.Machine
open Sys2Proof

theorem asBranch_outside {b : Byte} (h : 16 ≤ b.toNat) : asBranch b = none := asIndex_outside h

/-! ## PROVISION_BRANCH -/

/-- The index check comes first (R53). -/
theorem provisionBranchAnswer_outside {b : Byte} (hb : 16 ≤ b.toNat) (s : State) :
    provisionBranchAnswer b s = .fail .range s := by
  rw [provisionBranchAnswer, asBranch_outside hb]

/-- An UNUSED branch with its BGD line high becomes POWERED, as a record with no members (R53). -/
theorem provisionBranchAnswer_powers {b : BranchId} {s : State} (hunused : (s.branch b).state = .unused)
    (hbgd : s.bgd b = true) :
    provisionBranchAnswer (indexByte b) s = .ok (s.setBranch b { Branch.unused with state := .powered }) := by
  simp [provisionBranchAnswer, hunused, hbgd]

/-- A branch in use and one whose BGD line is low are turned away alike (R53). -/
theorem provisionBranchAnswer_state {b : BranchId} {s : State}
    (h : ¬ ((s.branch b).state = .unused ∧ s.bgd b = true)) :
    provisionBranchAnswer (indexByte b) s = .fail .state s := by
  rw [provisionBranchAnswer, asBranch_indexByte]
  by_cases hunused : (s.branch b).state = .unused
  · have hlow : s.bgd b = false := Bool.eq_false_iff.mpr fun hbgd => h ⟨hunused, hbgd⟩
    simp [hunused, hlow]
  · simp [hunused]

/-! ## DEPROVISION_BRANCH -/

/-- The index check comes first (R54). -/
theorem deprovisionBranchAnswer_outside {b : Byte} (hb : 16 ≤ b.toNat) (s : State) :
    deprovisionBranchAnswer b s = .fail .range s := by
  rw [deprovisionBranchAnswer, asBranch_outside hb]

/-- A POWERED branch without members becomes UNUSED; its line mode is not looked at (R54). -/
theorem deprovisionBranchAnswer_frees {b : BranchId} {s : State}
    (h : (s.branch b).state = .powered ∧ (s.branch b).members = []) :
    deprovisionBranchAnswer (indexByte b) s = .ok (s.setBranch b Branch.unused) := by
  simp [deprovisionBranchAnswer, h]

/-- A branch in another state or with members is turned away (R54). -/
theorem deprovisionBranchAnswer_state {b : BranchId} {s : State}
    (h : ¬ ((s.branch b).state = .powered ∧ (s.branch b).members = [])) :
    deprovisionBranchAnswer (indexByte b) s = .fail .state s := by
  simp [deprovisionBranchAnswer, h]

/-! ## The statement -/

/-- Settles O33: each request is answered by its checks in their order, on the state after the taking, which holds the
branch records and the BGD levels of the state before. -/
theorem branchesAreProvisionedAndDeprovisioned : Obligations.BranchesAreProvisionedAndDeprovisioned := by
  unfold Obligations.BranchesAreProvisionedAndDeprovisioned
  refine ⟨fun b s hb => ⟨?provisionOutside, ?deprovisionOutside⟩, fun b s h => ?provision, fun b s h => ?deprovision,
    rfl, rfl⟩
  case provisionOutside => exact fun h => exec_turnedAway rfl rfl rfl h (provisionBranchAnswer_outside hb _)
  case deprovisionOutside => exact fun h => exec_turnedAway rfl rfl rfl h (deprovisionBranchAnswer_outside hb _)
  case provision =>
    split
    case isTrue hready =>
      obtain ⟨hunused, hbgd⟩ := hready
      exact exec_answered rfl rfl rfl h (provisionBranchAnswer_powers hunused hbgd)
    case isFalse hnot => exact exec_turnedAway rfl rfl rfl h (provisionBranchAnswer_state hnot)
  case deprovision =>
    split
    case isTrue hempty => exact exec_answered rfl rfl rfl h (deprovisionBranchAnswer_frees hempty)
    case isFalse hnot => exact exec_turnedAway rfl rfl rfl h (deprovisionBranchAnswer_state hnot)

end Sys2Proof.Machine

/-!
SUPPORT. What the operands of a window set are read as, the checks of WRITE_WINDOW and the two outcomes of COMMIT_WINDOW
(R109, R110), as equations of the blocks' answers, and the statement about them: O38.
-/
namespace Sys2Proof.Machine
open Sys2Proof

theorem asWindow_outside {b : Byte} (h : 8 ≤ b.toNat) : asWindow b = none := asIndex_outside h

/-! ## Operands that were accepted -/

/-- A flag is read from its own code alone (R197). -/
theorem eq_flagByte_of_asFlag {b : Byte} {f : Bool} (h : asFlag b = some f) : b = flagByte f := by
  unfold asFlag at h
  split at h
  case isTrue hno =>
    cases h
    exact hno
  case isFalse =>
    split at h
    case isTrue hyes =>
      cases h
      exact hyes
    case isFalse => cases h

theorem asRange_eq_some {low high n m : Nat} (h : asRange low high n = some m) : n = m ∧ n ≤ high := by
  unfold asRange at h
  split at h
  case isTrue hrange => exact ⟨Option.some.inj h, hrange.right⟩
  case isFalse => cases h

theorem toNat_lt_of_asSet {n : Nat} {b : Byte} {m : BitVec n} (h : asSet n b = some m) : b.toNat < 2 ^ n := by
  unfold asSet at h
  split at h
  case isTrue hsmall => exact hsmall
  case isFalse => cases h

/-- A set of at most eight members is read back from its byte (R197). -/
theorem asSet_setByte {n : Nat} (m : BitVec n) (hn : n ≤ 8) : asSet n (setByte m) = some m := by
  have hsmall : (setByte m).toNat < 2 ^ n := by
    rw [setByte, BitVec.toNat_setWidth_of_le hn]
    exact m.isLt
  rw [asSet, if_pos hsmall, setByte, BitVec.setWidth_setWidth_of_le _ hn, BitVec.setWidth_eq]

/-! ## Window sets -/

/-- The operands of a window set that passes the checks of R109 are in their ranges, and the seconds of an enabled set
differ. -/
theorem asWindowSet_accepts {enabled : Byte} {openSecond closeSecond : Triple} {dayMask quiet : Byte} {ws : WindowSet}
    (h : asWindowSet enabled openSecond closeSecond dayMask quiet = some ws) :
    enabled.toNat < 2 ∧ openSecond.toNat < 86400 ∧ closeSecond.toNat < 86400 ∧ dayMask.toNat < 128 ∧ quiet.toNat ≤ 7
      ∧ ¬ (enabled.toNat = 1 ∧ openSecond = closeSecond) := by
  simp only [asWindowSet, Option.bind_eq_bind, Option.bind_eq_some_iff] at h
  obtain ⟨e, henabled, o, hopen, c, hclose, d, hmask, q, hquiet, h⟩ := h
  obtain rfl := eq_flagByte_of_asFlag henabled
  obtain ⟨rfl, hopen⟩ := asRange_eq_some hopen
  obtain ⟨rfl, hclose⟩ := asRange_eq_some hclose
  obtain ⟨-, hquiet⟩ := asRange_eq_some hquiet
  have hflag : (flagByte e).toNat < 2 := by cases e <;> decide
  refine ⟨hflag, by omega, by omega, toNat_lt_of_asSet hmask, hquiet, ?_⟩
  rintro ⟨hyes, rfl⟩
  cases e with
  | false => cases hyes
  | true => simp at h

/-- A well-formed window set is read back from its fields (R101, R109). -/
theorem asWindowSet_fields {ws : WindowSet} (hws : ws.WellFormed) {openSecond closeSecond : Triple}
    (hopen : openSecond.toNat = ws.openSecond) (hclose : closeSecond.toNat = ws.closeSecond) :
    asWindowSet (flagByte ws.enabled) openSecond closeSecond (setByte ws.dayMask) (byteOf ws.quiet) = some ws := by
  obtain ⟨hopenDay, hcloseDay, hquiet, hdiffer⟩ := hws
  have hopenLast : ws.openSecond ≤ 86399 := Nat.le_of_lt_succ hopenDay
  have hcloseLast : ws.closeSecond ≤ 86399 := Nat.le_of_lt_succ hcloseDay
  have hquietByte : (byteOf ws.quiet).toNat = ws.quiet := byteOf_toNat (by omega)
  have hlegal : ¬ (ws.enabled = true ∧ ws.openSecond = ws.closeSecond) := fun h => hdiffer h.left h.right
  simp only [asWindowSet, asFlag_flagByte, hopen, hclose, hquietByte, asSet_setByte ws.dayMask (by decide),
    asRange_inside (Nat.zero_le _) hopenLast, asRange_inside (Nat.zero_le _) hcloseLast,
    asRange_inside (Nat.zero_le _) hquiet,
    Option.bind_eq_bind, Option.bind_some, if_neg hlegal]

/-! ## WRITE_WINDOW -/

theorem writeWindowAnswer_outside {w : Byte} (hw : 8 ≤ w.toNat) (enabled : Byte) (openSecond closeSecond : Triple)
    (dayMask quiet : Byte) (s : State) :
    writeWindowAnswer w enabled openSecond closeSecond dayMask quiet s = .fail .range s := by
  rw [writeWindowAnswer, asWindow_outside hw]

theorem writeWindowAnswer_illegalSet {enabled : Byte} {openSecond closeSecond : Triple} {dayMask quiet : Byte}
    (hset : asWindowSet enabled openSecond closeSecond dayMask quiet = none) (w : Byte) (s : State) :
    writeWindowAnswer w enabled openSecond closeSecond dayMask quiet s = .fail .range s := by
  rw [writeWindowAnswer, hset]
  cases asWindow w <;> rfl

/-- A failure of any check of R109 is answered RANGE. -/
theorem writeWindowAnswer_range {w enabled : Byte} {openSecond closeSecond : Triple} {dayMask quiet : Byte}
    (h : 8 ≤ w.toNat ∨ 2 ≤ enabled.toNat ∨ 86400 ≤ openSecond.toNat ∨ 86400 ≤ closeSecond.toNat ∨ 128 ≤ dayMask.toNat
      ∨ 7 < quiet.toNat ∨ (enabled.toNat = 1 ∧ openSecond = closeSecond)) (s : State) :
    writeWindowAnswer w enabled openSecond closeSecond dayMask quiet s = .fail .range s := by
  obtain hw | hoperands := h
  · exact writeWindowAnswer_outside hw _ _ _ _ _ s
  · refine writeWindowAnswer_illegalSet (Option.eq_none_iff_forall_ne_some.mpr fun ws hset => ?_) w s
    obtain ⟨henabled, hopen, hclose, hmask, hquiet, hdiffer⟩ := asWindowSet_accepts hset
    obtain h | h | h | h | h | hequal := hoperands
    · exact Nat.not_le_of_lt henabled h
    · exact Nat.not_le_of_lt hopen h
    · exact Nat.not_le_of_lt hclose h
    · exact Nat.not_le_of_lt hmask h
    · exact Nat.not_lt_of_le hquiet h
    · exact hdiffer hequal

/-- A well-formed set replaces the shadow set, and nothing else of the window (R109). -/
theorem writeWindowAnswer_replaces {ws : WindowSet} (hws : ws.WellFormed) {openSecond closeSecond : Triple}
    (hopen : openSecond.toNat = ws.openSecond) (hclose : closeSecond.toNat = ws.closeSecond) (w : WindowId) (s : State) :
    writeWindowAnswer (indexByte w) (flagByte ws.enabled) openSecond closeSecond (setByte ws.dayMask) (byteOf ws.quiet) s
      = .ok (s.setWindow w { s.window w with shadow := ws }) := by
  rw [writeWindowAnswer, asWindow_indexByte, asWindowSet_fields hws hopen hclose]

/-! ## COMMIT_WINDOW -/

theorem commitWindowAnswer_outside {w : Byte} (hw : 8 ≤ w.toNat) (s : State) :
    commitWindowAnswer w s = .fail .range s := by
  rw [commitWindowAnswer, asWindow_outside hw]

section Commit
variable {w : WindowId} {s : State}

/-- SWAPPED: a CLOSED window takes its shadow set at once (R110). -/
theorem commitWindowAnswer_swaps (h : (s.window w).state = .closed) :
    commitWindowAnswer (indexByte w) s =
      .okWith [0x00#8] (s.setWindow w { s.window w with active := (s.window w).shadow }) := by
  simp [commitWindowAnswer, h]

/-- DEFERRED: a window that is not CLOSED is OPEN, and takes its shadow set at its close (R110). -/
theorem commitWindowAnswer_defers (h : (s.window w).state ≠ .closed) :
    commitWindowAnswer (indexByte w) s = .okWith [0x01#8] (s.setWindow w { s.window w with swapPending := true }) := by
  cases hstate : (s.window w).state with
  | isOpen => simp [commitWindowAnswer, hstate]
  | closed => exact absurd hstate h

end Commit

/-! ## The statement -/

/-- Settles O38: each request is answered by its checks in their order, on the state after the taking, which holds the
window records of the state before. -/
theorem windowSetsAreWrittenAndCommitted : Obligations.WindowSetsAreWrittenAndCommitted := by
  unfold Obligations.WindowSetsAreWrittenAndCommitted
  refine ⟨?writeRange, ?write, ?commitRange, ?commit⟩
  case writeRange =>
    intro w enabled openSecond closeSecond dayMask quiet s payload h hrange
    exact exec_turnedAway rfl rfl rfl h (writeWindowAnswer_range hrange _)
  case write =>
    intro w ws openSecond closeSecond s payload h hws hopen hclose
    exact exec_answered rfl rfl rfl h (writeWindowAnswer_replaces hws hopen hclose w _)
  case commitRange =>
    intro w s hw h
    exact exec_turnedAway rfl rfl rfl h (commitWindowAnswer_outside hw _)
  case commit =>
    intro w s h
    split
    case isTrue hclosed => exact exec_answered rfl rfl rfl h (commitWindowAnswer_swaps hclosed)
    case isFalse hopen => exact exec_answered rfl rfl rfl h (commitWindowAnswer_defers hopen)

end Sys2Proof.Machine

/-!
SUPPORT. How a channel moves (Chapter 6): the record after a processed entry (R128), an outcome (R132), the three steps
that close a start (R135 to R137), a start delivered and a start taken (R124, R125), as equations of the shared
operations; and the statement about them: O50.
-/
namespace Sys2Proof.Machine
open Sys2Proof

/-! ## Channel records -/

@[simp] theorem setChannel_setChannel (s : State) (k : ChannelId) (r r' : Channel) :
    (s.setChannel k r).setChannel k r' = s.setChannel k r' := by
  simp [State.setChannel]

@[simp] theorem setChannel_channel_self (s : State) (k : ChannelId) : s.setChannel k (s.channel k) = s := by
  simp [State.setChannel, State.channel]

/-! ## Processed entries (R128) -/

/-- The record after a processed entry that leaves this count and this pointer: one less to process, no wait, and
AWAITING once the quota is spent. -/
def Channel.movedTo (ch : Channel) (count pointer : Nat) : Channel :=
  { ch with
    quota := ch.quota - 1, waiting := none, count := count, pointer := pointer,
    state := if ch.quota - 1 = 0 then .awaiting else .stepping }

section Processed
variable {ch : Channel}

theorem processed_advance (hmode : ch.mode = .one ∨ ch.mode = .all) (hpointer : ch.pointerMode = .advance) :
    ch.processed = ch.movedTo (ch.count - 1) (ch.pointer + 1) := by
  obtain hmode | hmode := hmode <;> simp [Channel.processed, Channel.movedTo, hmode, hpointer]

theorem processed_hold (hmode : ch.mode = .one) (hpointer : ch.pointerMode = .hold) :
    ch.processed = ch.movedTo (ch.count - 1) ch.pointer := by
  simp [Channel.processed, Channel.movedTo, hmode, hpointer]

theorem processed_groupAdvance (hmode : ch.mode = .group) (hpointer : ch.pointerMode = .advance) :
    ch.processed = ch.movedTo (if ch.quota - 1 = 0 then ch.count - 1 else ch.count) (ch.pointer + 1) := by
  by_cases hspent : ch.quota - 1 = 0 <;> simp [Channel.processed, Channel.movedTo, hmode, hpointer, hspent]

theorem processed_groupRewind (hmode : ch.mode = .group) (hpointer : ch.pointerMode = .rewind) :
    ch.processed = ch.movedTo (if ch.quota - 1 = 0 then ch.count - 1 else ch.count)
      (if ch.quota - 1 = 0 then ch.pointer + 1 - ch.groupSize else ch.pointer + 1) := by
  by_cases hspent : ch.quota - 1 = 0 <;> simp [Channel.processed, Channel.movedTo, hmode, hpointer, hspent]

/-- A processed entry is its move, and then the completion it may give. -/
theorem entryProcessed_of_processed {count pointer : Nat} (h : ch.processed = ch.movedTo count pointer) (s : State)
    (k : ChannelId) : s.entryProcessed k ch = (s.setChannel k (ch.movedTo count pointer)).completeIfDone k := by
  rw [State.entryProcessed, h]

end Processed

/-! ## Outcomes (R132) -/

theorem drainOutcome_ignored {s : State} {k : ChannelId} (h : s.halted = true ∨ (s.channel k).state = .idle)
    (outcome : DrainOutcome) : s.drainOutcome k outcome = s := if_pos h

theorem drainOutcome_counted {s : State} {k : ChannelId} (hh : s.halted = false) (hidle : (s.channel k).state ≠ .idle)
    (outcome : DrainOutcome) :
    s.drainOutcome k outcome = (s.setChannel k ((s.channel k).countOutcome outcome)).completeIfDone k :=
  if_neg (by simp [hh, hidle])

/-! ## The close of a start (R135 to R137) -/

/-- CHANNEL_DONE goes to the ports and changes nothing else (R136). -/
theorem postChannelDone_eq (s : State) (k : ChannelId) (result : DoneResult) :
    s.postChannelDone k result = { s with ports := (s.postChannelDone k result).ports } := by
  by_cases hnotice : (s.channel k).completionNotice = true
  · simp [State.postChannelDone, hnotice, State.post, State.setPort]
  · simp [State.postChannelDone, hnotice]

@[simp] theorem postChannelDone_channel (s : State) (k j : ChannelId) (result : DoneResult) :
    (s.postChannelDone k result).channel j = s.channel j := by
  rw [postChannelDone_eq]; rfl

@[simp] theorem postChannelDone_slot (s : State) (k : ChannelId) (result : DoneResult) (j : SlotId) :
    (s.postChannelDone k result).slot j = s.slot j := by
  rw [postChannelDone_eq]; rfl

@[simp] theorem postChannelDone_output (s : State) (k : ChannelId) (result : DoneResult) (o : OutputId) :
    (s.postChannelDone k result).output o = s.output o := by
  rw [postChannelDone_eq]; rfl

/-- CHANNEL_DONE goes to the fleet port and the plant port, where the completion notice is yes (R136). -/
theorem postChannelDone_port (s : State) (k : ChannelId) (result : DoneResult) (p : Port) :
    (s.postChannelDone k result).port p =
      if (s.channel k).completionNotice = true ∧ (p = .fleet ∨ p = .plant) then
        (s.port p).post (.channelDone k result (s.channel k).rested (s.channel k).declined (s.channel k).count
          (s.channel k).currentSource)
      else s.port p := by
  unfold State.postChannelDone
  by_cases hnotice : (s.channel k).completionNotice = true
  · cases p <;> simp [hnotice]
  · simp [hnotice]

/-- The disarm writes a cause slot and nothing else (R148). -/
theorem disarmFor_eq (s : State) (source : Option StartSource) (countLeft : Nat) :
    s.disarmFor source countLeft =
      { s with lines := { s.lines with slots := (s.disarmFor source countLeft).lines.slots } } := by
  unfold State.disarmFor
  split
  · split <;> rfl
  · rfl

/-- Which slot the disarm clears, and when (R148). -/
theorem disarmFor_slot (s : State) (source : Option StartSource) (countLeft : Nat) (j : SlotId) :
    (s.disarmFor source countLeft).slot j =
      if source = some (.cause j) ∧ countLeft = 0 ∧ (s.slot j).disarm = true then
        { s.slot j with startEnable := false }
      else s.slot j := by
  unfold State.disarmFor
  split
  case h_1 i =>
    by_cases hj : j = i
    · subst hj
      by_cases hclears : countLeft = 0 ∧ (s.slot j).disarm = true <;> simp [hclears]
    · have hother : ¬ (some (.cause i) = some (StartSource.cause j) ∧ countLeft = 0 ∧ (s.slot j).disarm = true) :=
        fun h => hj (StartSource.cause.inj (Option.some.inj h.left)).symm
      rw [if_neg hother]
      split
      · rw [slot_setSlot, if_neg hj]
      · rfl
  case h_2 hcause => rw [if_neg fun h => hcause j h.left]

/-- The report to the Cause and Line Unit reaches slots and outputs alone (R137). -/
theorem channelDone_eq (s : State) (k : ChannelId) (source : Option StartSource) (countLeft : Nat) :
    s.channelDone k source countLeft =
      { s with
        lines := { s.lines with
          slots := (s.channelDone k source countLeft).lines.slots,
          outputs := (s.channelDone k source countLeft).lines.outputs } } := by
  unfold State.channelDone
  rw [disarmFor_eq]

theorem channelDone_slot (s : State) (k : ChannelId) (source : Option StartSource) (countLeft : Nat) (j : SlotId) :
    (s.channelDone k source countLeft).slot j = (s.disarmFor source countLeft).slot j := rfl

theorem channelDone_port (s : State) (k : ChannelId) (source : Option StartSource) (countLeft : Nat) (p : Port) :
    (s.channelDone k source countLeft).port p = s.port p := by
  rw [channelDone_eq]
  rfl

/-- The outputs that follow the channel begin a pulse (R160). -/
theorem channelDone_output (s : State) (k : ChannelId) (source : Option StartSource) (countLeft : Nat) (o : OutputId) :
    (s.channelDone k source countLeft).output o = (s.output o).pulsedBy k := by
  unfold State.channelDone
  rw [disarmFor_eq]
  simp [State.output]

/-- The three steps on a channel, whatever record it has: the record closed, the notice, the report. -/
theorem closeStart_setChannel (s : State) (k : ChannelId) (ch : Channel) (result : DoneResult) :
    (s.setChannel k ch).closeStart k result =
      ((s.setChannel k { ch with state := .idle, quota := 0, outstanding := 0 }).postChannelDone k result).channelDone k
        ch.currentSource ch.count := by
  simp [State.closeStart]

/-- The three steps change the record of the channel, the ports, cause slots and outputs, and nothing else. -/
theorem closeStart_eq (s : State) (k : ChannelId) (ch : Channel) (result : DoneResult) :
    (s.setChannel k ch).closeStart k result =
      { s.setChannel k { ch with state := .idle, quota := 0, outstanding := 0 } with
        ports := ((s.setChannel k ch).closeStart k result).ports,
        lines := { s.lines with
          slots := ((s.setChannel k ch).closeStart k result).lines.slots,
          outputs := ((s.setChannel k ch).closeStart k result).lines.outputs } } := by
  rw [closeStart_setChannel, channelDone_eq, postChannelDone_eq]
  rfl

/-- What the three steps of R135 leave, for any record of the channel. -/
theorem startCloses_closeStart (s : State) (k : ChannelId) (ch : Channel) (result : DoneResult) :
    StartCloses k ch result s ((s.setChannel k ch).closeStart k result) := by
  have frame := closeStart_eq s k ch result
  have steps := closeStart_setChannel s k ch result
  refine ⟨?channel, ?others, ?_, ?_, ?_, ?_, ?_, ?_, ?_, ?_, ?_, ?_, ?ports, ?slots, ?outputs⟩
  case channel => rw [frame]; exact (channel_setChannel _ _ _ _).trans (if_pos rfl)
  case others => intro k' hk; rw [frame]; exact (channel_setChannel _ _ _ _).trans (if_neg hk)
  case ports =>
    intro p
    rw [steps, channelDone_port, postChannelDone_port]
    simp
  case slots =>
    intro j
    rw [steps, channelDone_slot, disarmFor_slot]
    simp
  case outputs =>
    intro o
    rw [steps, channelDone_output]
    simp [Output.pulsedBy]
  all_goals rw [frame]
  all_goals rfl

/-! ## Starts (R124, R125) -/

/-- The report of a taken start is the clearing of its cause's flag, whatever record the channel has (R147). -/
theorem reportSource_taken (s : State) (k : ChannelId) (ch : Channel) (source : StartSource) :
    (s.setChannel k ch).reportSource .taken source = (s.startTaken source).setChannel k ch := by
  cases source <;> rfl

theorem setChannel_startTaken (s : State) (k : ChannelId) (ch : Channel) (source : StartSource) :
    (s.setChannel k ch).startTaken source = (s.startTaken source).setChannel k ch := by
  cases source <;> rfl

/-- The record of a channel as a taken start opens it (R124). -/
def Channel.opened (ch : Channel) (source : StartSource) : Channel :=
  { ch with currentSource := some source, rested := 0, declined := 0, lastReason := none }

/-- A start taken with entries left steps (R124). -/
theorem takeStart_steps {s : State} {k : ChannelId} (hcount : (s.channel k).count ≠ 0) (source : StartSource) :
    s.takeStart k source =
      (s.setChannel k { (s.channel k).opened source with
        state := .stepping, quota := (s.channel k).startQuota }).startTaken source := by
  rw [setChannel_startTaken, ← reportSource_taken]
  exact if_neg hcount

/-- A start taken with no entry left closes EMPTY, after its cause's flag is cleared (R124). -/
theorem takeStart_closes {s : State} {k : ChannelId} (hcount : (s.channel k).count = 0) (source : StartSource) :
    StartCloses k ((s.channel k).opened source) .empty (s.startTaken source) (s.takeStart k source) := by
  have hclose : s.takeStart k source =
      ((s.startTaken source).setChannel k ((s.channel k).opened source)).closeStart k .empty := by
    rw [← reportSource_taken]
    exact if_pos hcount
  rw [hclose]
  exact startCloses_closeStart _ k _ .empty

/-- Only the report of a taken start writes a cause slot (R147). -/
theorem reportSource_of_ne_taken {report : CauseReport} (h : report ≠ .taken) (s : State) (source : StartSource) :
    s.reportSource report source = s := by
  cases source with
  | cause k =>
    cases report with
    | taken => exact absurd rfl h
    | pending | replaced | dropped => rfl
  | link | plantRequest | fleetRequest => rfl

/-- A start that reaches a busy channel becomes its one pending start; where its source is the pending source already,
that is the record as it was (R125). -/
theorem recordPending_eq (s : State) (k : ChannelId) (source : StartSource) :
    s.recordPending k source = s.setChannel k { s.channel k with pendingStart := some source } := by
  have pending (t : State) : t.reportSource .pending source = t := reportSource_of_ne_taken (by decide) t source
  have replaced (t : State) (old : StartSource) : t.reportSource .replaced old = t :=
    reportSource_of_ne_taken (by decide) t old
  cases hold : (s.channel k).pendingStart with
  | none => simp only [State.recordPending, hold, pending]
  | some old =>
    by_cases hsame : old = source
    · have hkept : { s.channel k with pendingStart := some source } = s.channel k := by rw [← hsame, ← hold]
      rw [hkept, setChannel_channel_self]
      simp only [State.recordPending, hold, if_pos hsame]
    · simp only [State.recordPending, hold, if_neg hsame, replaced, pending]

theorem deliverStart_idle {s : State} {k : ChannelId} (h : (s.channel k).state = .idle) (source : StartSource) :
    s.deliverStart k source = s.takeStart k source := if_pos h

theorem deliverStart_busy {s : State} {k : ChannelId} (h : (s.channel k).state ≠ .idle) (source : StartSource) :
    s.deliverStart k source = s.setChannel k { s.channel k with pendingStart := some source } :=
  (if_neg h).trans (recordPending_eq s k source)

/-! ## Completion (R135, R138) -/

theorem completeIfDone_not {s : State} {k : ChannelId}
    (h : s.halted = true ∨ (s.channel k).state ≠ .awaiting ∨ (s.channel k).outstanding ≠ 0) :
    s.completeIfDone k = s := by
  refine if_neg ?_
  rintro ⟨hstate, hout, hh⟩
  simp [hstate, hout, hh] at h

/-- A completion closes the start with result DONE, and then come the link and the pending start (R135). -/
theorem completeIfDone_done {s : State} {k : ChannelId} (hh : s.halted = false)
    (hstate : (s.channel k).state = .awaiting) (hout : (s.channel k).outstanding = 0) :
    s.completeIfDone k = ((s.closeStart k .done).followLink k).takePending k := if_pos ⟨hstate, hout, hh⟩

theorem startCloses_done (s : State) (k : ChannelId) : StartCloses k (s.channel k) .done s (s.closeStart k .done) := by
  have h := startCloses_closeStart s k (s.channel k) .done
  rwa [setChannel_channel_self] at h

/-- The link is followed by the count and the link fields that the close left as they were (R138). -/
theorem followLink_of_startCloses {s t : State} {k : ChannelId} {ch : Channel} {result : DoneResult}
    (h : StartCloses k ch result s t) :
    t.followLink k = if ch.count = 0 ∧ ch.linkEnable = true then t.deliverStart ch.linkTarget (.link k) else t := by
  obtain ⟨hchannel, -⟩ := h
  simp only [State.followLink, hchannel]

/-! ## The statement -/

/-- Settles O50: the five legal pairs of R122, the outcomes, and the completion with its link and its pending start,
each by the equation of its operation; a start with no entry left closes as a completion does. -/
theorem entriesAndOutcomesMoveTheChannel : Obligations.EntriesAndOutcomesMoveTheChannel := by
  unfold Obligations.EntriesAndOutcomesMoveTheChannel
  refine ⟨?entries, ?ignored, ?counted, ?incomplete, ?complete, ?starts⟩
  case entries =>
    intro k ch s
    refine ⟨fun hm hp => ?_, fun hm hp => ?_, fun hm hp => ?_, fun hm hp => ?_⟩
    · exact entryProcessed_of_processed (processed_advance hm hp) s k
    · exact entryProcessed_of_processed (processed_hold hm hp) s k
    · exact entryProcessed_of_processed (processed_groupAdvance hm hp) s k
    · exact entryProcessed_of_processed (processed_groupRewind hm hp) s k
  case ignored => exact fun k outcome s h => drainOutcome_ignored h outcome
  case counted =>
    exact fun k s hh hidle => ⟨drainOutcome_counted hh hidle .rested, drainOutcome_counted hh hidle .declined⟩
  case incomplete => exact fun k s h => completeIfDone_not h
  case complete =>
    intro k s hh hstate hout
    have hcloses := startCloses_done s k
    refine ⟨s.closeStart k .done, hcloses, ?_⟩
    rw [completeIfDone_done hh hstate hout, followLink_of_startCloses hcloses]
    rfl
  case starts =>
    intro k source s
    exact ⟨fun hidle => deliverStart_idle hidle source, fun hbusy => deliverStart_busy hbusy source,
      fun hcount => takeStart_steps hcount source, fun hcount => takeStart_closes hcount source⟩

end Sys2Proof.Machine

/-!
SUPPORT. What the values of WRITE_LIST are read as, its checks and the list it leaves (R117), as equations of the
block's answer, and the statement about it: O40.
-/
namespace Sys2Proof.Machine
open Sys2Proof

/-! ## Entry values (R117, R199) -/

/-- A byte that is neither a carrier index nor the code of NONE. -/
theorem asEntry_outside {v : Byte} (hv : 48 ≤ v.toNat ∧ v.toNat ≠ 255) : asEntry v = none := by
  obtain ⟨hcarrier, hnone⟩ := hv
  have hff : v ≠ 0xFF#8 := fun h => hnone (by rw [h]; rfl)
  rw [asEntry, if_neg hff, asCarrier_outside hcarrier, Option.map_none]

/-- An entry is read back from its code: no carrier has the code of NONE. -/
theorem asEntry_optionByte (entry : Option CarrierId) : asEntry (optionByte indexByte entry) = some entry := by
  cases entry with
  | none => rfl
  | some c =>
    have hff : indexByte c ≠ 0xFF#8 := by
      intro h
      have hval : c.val = 255 := by rw [← indexByte_toNat c (by decide), h]; rfl
      omega
    rw [optionByte, asEntry, if_neg hff, asCarrier_indexByte, Option.map_some]

theorem asEntries_cons (v : Byte) (values : List Byte) :
    asEntries (v :: values) = (asEntry v).bind fun e => (asEntries values).map (e :: ·) := by
  unfold asEntries
  rw [List.mapM_cons]
  cases asEntry v with
  | none => rfl
  | some e => cases List.mapM asEntry values <;> rfl

/-- One value that is no entry is enough for the whole list to be none. -/
theorem asEntries_eq_none {values : List Byte} {v : Byte} (hmem : v ∈ values) (hv : asEntry v = none) :
    asEntries values = none := by
  induction hmem with
  | head => rw [asEntries_cons, hv, Option.bind_none]
  | tail w _ ih => rw [asEntries_cons, ih]; cases asEntry w <;> rfl

theorem asEntries_optionBytes (entries : List (Option CarrierId)) :
    asEntries (entries.map (optionByte indexByte)) = some entries := by
  induction entries with
  | nil => rfl
  | cons e entries ih =>
    rw [List.map_cons, asEntries_cons, asEntry_optionByte, ih, Option.bind_some, Option.map_some]

/-! ## The list after a write -/

/-- The entries of the span take the values, and every other entry is as it was (R117). -/
theorem writeEntries_get (list : Vector (Option CarrierId) 256) (first : Nat) (values : List (Option CarrierId))
    (e : Fin 256) :
    (writeEntries list first values)[e.val] =
      if h : first ≤ e.val ∧ e.val - first < values.length then values[e.val - first]'h.2 else list[e.val] := by
  rw [writeEntries, Vector.getElem_ofFn]
  by_cases hfirst : first ≤ e.val
  · by_cases hlast : e.val - first < values.length
    · simp [hfirst, hlast]
    · simp [hfirst, hlast]
  · simp [hfirst]

/-! ## WRITE_LIST -/

/-- A failure of any check of R117 is answered RANGE. -/
theorem writeListAnswer_range {first n : Byte} {values : List Byte}
    (h : n.toNat ≠ values.length ∨ 256 < first.toNat + n.toNat ∨ ∃ v ∈ values, 48 ≤ v.toNat ∧ v.toNat ≠ 255)
    (s : State) : writeListAnswer first n values s = .fail .range s := by
  rw [writeListAnswer]
  cases hn : asRange 1 16 n.toNat with
  | none => rfl
  | some number =>
    obtain ⟨rfl, -⟩ := asRange_eq_some hn
    obtain hcount | hspan | ⟨v, hmem, hv⟩ := h
    · cases asEntries values with
      | none => rfl
      | some => exact if_pos hcount
    · cases asEntries values with
      | none => rfl
      | some => simp only [if_pos hspan, ite_self]
    · rw [asEntries_eq_none hmem (asEntry_outside hv)]

/-- Codes of 1 to 16 entries, as many as the request says, replace the span that begins at `first` (R117). -/
theorem writeListAnswer_replaces {first n : Byte} {entries : List (Option CarrierId)} (h1 : 1 ≤ n.toNat)
    (h16 : n.toNat ≤ 16) (hn : n.toNat = entries.length) (hspan : first.toNat + n.toNat ≤ 256) (s : State) :
    writeListAnswer first n (entries.map (optionByte indexByte)) s =
      .ok { s with rest := { s.rest with list := writeEntries s.rest.list first.toNat entries } } := by
  have hlength : ¬ n.toNat ≠ (entries.map (optionByte indexByte)).length := by
    rw [List.length_map]
    exact fun hne => hne hn
  rw [writeListAnswer, asRange_inside h1 h16, asEntries_optionBytes]
  simp only [if_neg hlength, if_neg (Nat.not_lt.mpr hspan)]

/-- A WRITE_LIST of 1 to 16 values has a payload of 3 to 18 bytes (R199). -/
theorem writeList_allowsLength {first n : Byte} {values : List Byte} (h1 : 1 ≤ values.length)
    (h16 : values.length ≤ 16) : RequestKind.writeList.allowsLength (first :: n :: values).length = true := by
  simp only [RequestKind.allowsLength, RequestKind.row, List.length_cons, Bool.and_eq_true, decide_eq_true_eq]
  omega

/-! ## The statement -/

/-- Settles O40: the checks of R117 on the state after the taking, which holds the Rest List of the state before. -/
theorem writeListReplacesEntries : Obligations.WriteListReplacesEntries := by
  unfold Obligations.WriteListReplacesEntries
  refine ⟨?range, ?replaces⟩
  case range =>
    intro first n values s h h1 h16 hfails
    exact exec_turnedAway rfl (writeList_allowsLength h1 h16) rfl h (writeListAnswer_range hfails _)
  case replaces =>
    rintro first n _ entries s h h1 h16 hn hspan rfl
    have hcount : n.toNat = entries.length := by rw [hn, List.length_map]
    refine ⟨writeEntries s.rest.list first.toNat entries, ?_, writeEntries_get _ _ _⟩
    exact exec_answered rfl (writeList_allowsLength h1 h16) rfl h
      (writeListAnswer_replaces (by omega) (by omega) hcount hspan _)

end Sys2Proof.Machine

/-!
SUPPORT. What the occurrence of a cause does (R145, R146, R151), as one equation for each branch of the shared operation
`State.causeOccurs`, with what a start delivered to an IDLE target leaves of the flag (R147) and of start enable (R148);
and the statement about it: O46.
-/
namespace Sys2Proof.Machine
open Sys2Proof

@[simp] theorem setSlot_setSlot (s : State) (k : SlotId) (r r' : CauseSlot) :
    (s.setSlot k r).setSlot k r' = s.setSlot k r' := by
  simp [State.setSlot]

/-! ## The branches of a cause -/

/-- The state with the flag of a cause slot set, as every occurrence of its cause begins. -/
def State.flagged (s : State) (k : SlotId) : State := s.setSlot k { s.slot k with flag := true }

@[simp] theorem flagged_channel (s : State) (k : SlotId) (j : ChannelId) : (s.flagged k).channel j = s.channel j := rfl

/-- The four branches of a cause, by start enable, SAFE_HALT and the flag (R145, R146, R151). -/
theorem causeOccurs_eq (s : State) (k : SlotId) :
    s.causeOccurs k =
      if (s.slot k).startEnable = true then
        if s.halted = true then s.flagged k else (s.flagged k).deliverStart (s.slot k).target (.cause k)
      else if (s.slot k).flag = true then s.flagged k
      else (s.flagged k).post .fleet (.cause k s.now) := rfl

section Occurs
variable {s : State} {k : SlotId}

/-- A flag already set gathers the occurrence with no notice (R146). -/
theorem causeOccurs_gathered (henable : (s.slot k).startEnable = false) (hflag : (s.slot k).flag = true) :
    s.causeOccurs k = s.flagged k := by
  rw [causeOccurs_eq, if_neg (ne_true_of_eq_false henable), if_pos hflag]

/-- A cleared flag makes the occurrence known to the fleet link (R146). -/
theorem causeOccurs_notifies (henable : (s.slot k).startEnable = false) (hflag : (s.slot k).flag = false) :
    s.causeOccurs k = (s.flagged k).post .fleet (.cause k s.now) := by
  rw [causeOccurs_eq, if_neg (ne_true_of_eq_false henable), if_neg (ne_true_of_eq_false hflag)]

/-- No start is delivered in SAFE_HALT (R151). -/
theorem causeOccurs_halted (henable : (s.slot k).startEnable = true) (hhalt : s.halted = true) :
    s.causeOccurs k = s.flagged k := by
  rw [causeOccurs_eq, if_pos henable, if_pos hhalt]

/-- A busy target records the start, and the flag stays set (R125, R145). -/
theorem causeOccurs_busy (henable : (s.slot k).startEnable = true) (hhalt : s.halted = false)
    (hbusy : (s.channel (s.slot k).target).state ≠ .idle) :
    s.causeOccurs k = (s.flagged k).setChannel (s.slot k).target
      { s.channel (s.slot k).target with pendingStart := some (.cause k) } := by
  rw [causeOccurs_eq, if_pos henable, if_neg (ne_true_of_eq_false hhalt), deliverStart_busy (by simpa using hbusy),
    flagged_channel]

/-- An IDLE target takes the start within the event (R124, R145). -/
theorem causeOccurs_idle (henable : (s.slot k).startEnable = true) (hhalt : s.halted = false)
    (hidle : (s.channel (s.slot k).target).state = .idle) :
    s.causeOccurs k = (s.flagged k).takeStart (s.slot k).target (.cause k) := by
  rw [causeOccurs_eq, if_pos henable, if_neg (ne_true_of_eq_false hhalt), deliverStart_idle (by simpa using hidle)]

end Occurs

/-! ## The start of a cause at an IDLE target -/

/-- A start taken within its cause's event takes the flag back (R147). -/
theorem flagged_startTaken (s : State) (k : SlotId) :
    (s.flagged k).startTaken (.cause k) = s.setSlot k { s.slot k with flag := false } := by
  simp [State.flagged, State.startTaken]

/-- With entries left the target steps, and the flag is clear (R124, R147). -/
theorem flagged_takeStart_steps {s : State} {t : ChannelId} (hcount : (s.channel t).count ≠ 0) (k : SlotId) :
    (s.flagged k).takeStart t (.cause k) =
      (s.setChannel t { (s.channel t).opened (.cause k) with
        state := .stepping, quota := (s.channel t).startQuota }).setSlot k { s.slot k with flag := false } := by
  rw [takeStart_steps (by simpa using hcount), setChannel_startTaken, flagged_startTaken]
  rfl

/-- With no entry left the start closes EMPTY on the state that has the flag clear (R124, R147). -/
theorem flagged_takeStart_closes {s : State} {t : ChannelId} (hcount : (s.channel t).count = 0) (k : SlotId) :
    StartCloses t ((s.channel t).opened (.cause k)) .empty (s.setSlot k { s.slot k with flag := false })
      ((s.flagged k).takeStart t (.cause k)) := by
  have h := takeStart_closes (s := s.flagged k) (k := t) hcount (.cause k)
  rwa [flagged_startTaken] at h

/-- An EMPTY close of the start of a cause leaves its slot with the flag as it was, disarmed where disarm is yes (R148). -/
theorem slot_of_startCloses_cause {s u : State} {t : ChannelId} {ch : Channel} {result : DoneResult} {k : SlotId}
    (h : StartCloses t ch result s u) (hsource : ch.currentSource = some (.cause k)) (hcount : ch.count = 0)
    (henable : (s.slot k).startEnable = true) :
    u.slot k = { s.slot k with startEnable := !(s.slot k).disarm } := by
  obtain ⟨-, -, -, -, -, -, -, -, -, -, -, -, -, hslot, -⟩ := h
  rw [hslot k]
  cases hdisarm : (s.slot k).disarm with
  | true => rw [if_pos ⟨hsource, hcount, rfl⟩]; rfl
  | false => rw [if_neg (by simp), Bool.not_false, ← henable]

/-! ## The statement -/

/-- Settles O46: each branch of the cause by its equation, and a delivered start by the state of its target; the EMPTY
close of a start with no entry left is read off from what R135 leaves. -/
theorem aCauseSetsItsFlagAndStartsItsTarget : Obligations.ACauseSetsItsFlagAndStartsItsTarget := by
  unfold Obligations.ACauseSetsItsFlagAndStartsItsTarget
  intro k s
  refine ⟨causeOccurs_gathered, causeOccurs_notifies, causeOccurs_halted, causeOccurs_busy, ?steps, ?empty⟩
  case steps =>
    intro henable hhalt hidle hcount
    rw [causeOccurs_idle henable hhalt hidle]
    exact flagged_takeStart_steps hcount k
  case empty =>
    intro henable hhalt hidle hcount
    have hcloses := flagged_takeStart_closes hcount k
    have hslot := slot_of_startCloses_cause hcloses rfl hcount (by simpa using henable)
    obtain ⟨hchannel, -⟩ := hcloses
    rw [causeOccurs_idle henable hhalt hidle, hchannel]
    exact ⟨by simpa using hslot, rfl, rfl⟩

end Sys2Proof.Machine

/-!
SUPPORT. What the blocks' operations leave of SAFE_HALT, as one relation (`HaltFrame`): they keep the Fault Stack, and
while the part is halted no drain, settling, lowering or start begins. One lemma per operation; the operations that begin
one of the four do so outside SAFE_HALT only.
-/
namespace Sys2Proof.Machine
open Sys2Proof

/-! ## The relation -/

/-- A branch state that SAFE_HALT allows (R178). -/
abbrev BranchState.Quiet (state : BranchState) : Prop := state ≠ .settling ∧ state ≠ .lowering

/-- The Fault Stack is as it was, and in SAFE_HALT no carrier has entered DRAINING, no branch SETTLING or LOWERING, and
no channel has left IDLE. -/
structure HaltFrame (s t : State) : Prop where
  stack : t.stack = s.stack
  carriers : s.halted = true → ∀ c, (s.carrier c).state ≠ .draining → (t.carrier c).state ≠ .draining
  branches : s.halted = true → ∀ b, (s.branch b).state.Quiet → (t.branch b).state.Quiet
  channels : s.halted = true → ∀ k, (s.channel k).state = .idle → (t.channel k).state = .idle

namespace HaltFrame

theorem refl (s : State) : HaltFrame s s := ⟨rfl, fun _ _ => id, fun _ _ => id, fun _ _ => id⟩

theorem halted_eq {s t : State} (h : HaltFrame s t) : t.halted = s.halted := by simp [State.halted, h.stack]

theorem trans {s t u : State} (h : HaltFrame s t) (k : HaltFrame t u) : HaltFrame s u where
  stack := k.stack.trans h.stack
  carriers hs c := k.carriers (h.halted_eq.trans hs) c ∘ h.carriers hs c
  branches hs b := k.branches (h.halted_eq.trans hs) b ∘ h.branches hs b
  channels hs j := k.channels (h.halted_eq.trans hs) j ∘ h.channels hs j

/-- Outside SAFE_HALT only the Fault Stack counts. -/
theorem of_running {s t : State} (hs : s.halted = false) (h : t.stack = s.stack) : HaltFrame s t := by
  constructor <;> simp [hs, h]

/-- The states of the records are as they were. -/
theorem of_states {s t : State} (hstack : t.stack = s.stack) (hc : ∀ c, (t.carrier c).state = (s.carrier c).state)
    (hb : ∀ b, (t.branch b).state = (s.branch b).state) (hk : ∀ k, (t.channel k).state = (s.channel k).state) :
    HaltFrame s t := by
  constructor <;> simp [hstack, hc, hb, hk]

/-- The records are as they were. -/
theorem of_records {s t : State} (hstack : t.stack = s.stack) (hc : t.table.carriers = s.table.carriers)
    (hb : t.ctrl.branches = s.ctrl.branches) (hk : t.rest.channels = s.rest.channels) : HaltFrame s t := by
  refine of_states hstack (fun c => ?_) (fun b => ?_) (fun k => ?_)
  · simp [State.carrier, hc]
  · simp [State.branch, hb]
  · simp [State.channel, hk]

theorem foldl {α : Type} (f : State → α → State) (hf : ∀ u a, HaltFrame u (f u a)) (l : List α) (s : State) :
    HaltFrame s (l.foldl f s) := by
  induction l generalizing s with
  | nil => exact refl s
  | cons a l ih => exact (hf s a).trans (ih _)

/-- A fold over the carriers of a round. -/
theorem round (f : WakeRound → CarrierId → WakeRound) (hf : ∀ w c, HaltFrame w.state (f w c).state)
    (l : List CarrierId) (w : WakeRound) : HaltFrame w.state (l.foldl f w).state := by
  induction l generalizing w with
  | nil => exact refl _
  | cons c l ih => exact (hf w c).trans (ih _)

end HaltFrame

theorem DrainFrame.stack {s t : State} (h : DrainFrame s t) : t.stack = s.stack := by
  obtain ⟨-, -, -, -, -, -, -, hstack, -⟩ := h
  exact hstack

theorem BranchFrame.stack {s t : State} (h : BranchFrame s t) : t.stack = s.stack := by
  obtain ⟨-, -, -, -, -, -, -, hstack, -⟩ := h
  exact hstack

/-! ## Records -/

/-- A carrier record written, in a state that is DRAINING only where it was. -/
theorem setCarrier_haltFrame (s : State) (c : CarrierId) {r : Carrier}
    (hr : (s.carrier c).state ≠ .draining → r.state ≠ .draining) : HaltFrame s (s.setCarrier c r) where
  stack := rfl
  carriers _ d hd := by
    rw [carrier_setCarrier]
    split
    case isTrue h => exact hr (h ▸ hd)
    case isFalse => exact hd
  branches _ _ := id
  channels _ _ := id

/-- A branch record written, in a state that is SETTLING or LOWERING only where it was. -/
theorem setBranch_haltFrame (s : State) (b : BranchId) {r : Branch}
    (hr : (s.branch b).state.Quiet → r.state.Quiet) : HaltFrame s (s.setBranch b r) where
  stack := rfl
  carriers _ _ := id
  branches _ d hd := by
    rw [branch_setBranch]
    split
    case isTrue h => exact hr (h ▸ hd)
    case isFalse => exact hd
  channels _ _ := id

/-- A channel record written, which stays IDLE if it was. -/
theorem setChannel_haltFrame (s : State) (k : ChannelId) {ch : Channel}
    (hch : (s.channel k).state = .idle → ch.state = .idle) : HaltFrame s (s.setChannel k ch) where
  stack := rfl
  carriers _ _ := id
  branches _ _ := id
  channels _ j hj := by
    rw [channel_setChannel]
    split
    case isTrue h => exact hch (h ▸ hj)
    case isFalse => exact hj

theorem setArb_haltFrame (s : State) (a : Arbiter) : HaltFrame s (s.setArb a) := .of_records rfl rfl rfl rfl
theorem setBgd_haltFrame (s : State) (b : BranchId) (high : Bool) : HaltFrame s (s.setBgd b high) :=
  .of_records rfl rfl rfl rfl
theorem setWindow_haltFrame (s : State) (w : WindowId) (r : Window) : HaltFrame s (s.setWindow w r) :=
  .of_records rfl rfl rfl rfl
theorem setSiteTime_haltFrame (s : State) (n : Nat) : HaltFrame s (s.setSiteTime n) := .of_records rfl rfl rfl rfl
theorem setSlot_haltFrame (s : State) (k : SlotId) (r : CauseSlot) : HaltFrame s (s.setSlot k r) :=
  .of_records rfl rfl rfl rfl
theorem setPort_haltFrame (s : State) (p : Port) (q : PortState) : HaltFrame s (s.setPort p q) :=
  .of_records rfl rfl rfl rfl
theorem lines_haltFrame (s : State) (u : CauseUnit) : HaltFrame s { s with lines := u } := .of_records rfl rfl rfl rfl

theorem post_haltFrame (s : State) (p : Port) (n : Notice) : HaltFrame s (s.post p n) := setPort_haltFrame s p _

theorem postOwner_haltFrame (s : State) (c : CarrierId) (n : Notice) : HaltFrame s (s.postOwner c n) := by
  unfold State.postOwner
  split
  · exact .refl s
  · exact post_haltFrame s _ n

/-! ## Starts, completions and drains -/

theorem reportSource_haltFrame (s : State) (report : CauseReport) (source : StartSource) :
    HaltFrame s (s.reportSource report source) := by
  unfold State.reportSource State.causeReport
  split
  · split
    · exact setSlot_haltFrame s _ _
    · exact .refl s
    · exact .refl s
    · exact .refl s
  · exact .refl s
  · exact .refl s
  · exact .refl s

/-- No completion is taken in SAFE_HALT (R135). -/
theorem completeIfDone_haltFrame (s : State) (k : ChannelId) : HaltFrame s (s.completeIfDone k) := by
  unfold State.completeIfDone
  split
  case isTrue h =>
    obtain ⟨-, -, hrunning⟩ := h
    exact .of_running hrunning (completeDone_drainFrame s k).stack
  case isFalse => exact .refl s

/-- An outcome changes nothing in SAFE_HALT (R132). -/
theorem drainOutcome_haltFrame (s : State) (k : ChannelId) (outcome : DrainOutcome) :
    HaltFrame s (s.drainOutcome k outcome) := by
  cases hs : s.halted with
  | false => exact .of_running hs (drainOutcome_drainFrame s k outcome).stack
  | true =>
    rw [drainOutcome_ignored (.inl hs)]
    exact .refl s

theorem reportOutcome_haltFrame (s : State) (k : Option ChannelId) (outcome : DrainOutcome) :
    HaltFrame s (s.reportOutcome k outcome) := by
  unfold State.reportOutcome
  split
  · exact .refl s
  · exact drainOutcome_haltFrame s _ outcome

theorem entryProcessed_haltFrame {s : State} {k : ChannelId} (hk : (s.channel k).state ≠ .idle) (ch : Channel) :
    HaltFrame s (s.entryProcessed k ch) :=
  (setChannel_haltFrame s k fun hidle => absurd hidle hk).trans (completeIfDone_haltFrame _ k)

/-- The retry of a channel that waits starts no drain in SAFE_HALT (R8), and finds the channel out of IDLE. -/
theorem processEntry_haltFrame {s : State} {k : ChannelId} (hk : (s.channel k).state ≠ .idle) :
    HaltFrame s (s.processEntry k) := by
  cases hs : s.halted with
  | false => exact .of_running hs (processEntry_drainFrame s k).stack
  | true =>
    unfold State.processEntry State.entryDeclined
    simp only [drainAnswer_halted hs]
    split
    · exact entryProcessed_haltFrame hk _
    · exact entryProcessed_haltFrame hk _

theorem offerSlots_haltFrame (s : State) (t : TenantId) : HaltFrame s (s.offerSlots t) := by
  refine .foldl _ (fun u k => ?_) channelIds s
  unfold State.offerSlotTo
  split
  case isTrue h =>
    obtain ⟨hwaits, -⟩ := h
    have hblocked : (u.channel k).state = .blocked := by simp_all [Channel.waitsOn]
    exact processEntry_haltFrame (by simp [hblocked])
  case isFalse => exact .refl u

theorem offerOwnersSlots_haltFrame (s : State) (c : CarrierId) : HaltFrame s (s.offerOwnersSlots c) := by
  unfold State.offerOwnersSlots
  split
  · exact .refl s
  · exact offerSlots_haltFrame s _

/-- What a cancel does once the record is ON again: the notice and the outcome (R16). -/
theorem cancelled_haltFrame (s : State) (c : CarrierId) (reason : CancelReason) :
    HaltFrame (s.setCarrier c ((s.carrier c).cancelled reason)) (s.cancelDrain c reason) :=
  (postOwner_haltFrame _ c _).trans (reportOutcome_haltFrame _ _ _)

theorem cancelDrain_haltFrame (s : State) (c : CarrierId) (reason : CancelReason) :
    HaltFrame s (s.cancelDrain c reason) :=
  (setCarrier_haltFrame s c fun _ => by simp [Carrier.cancelled]).trans (cancelled_haltFrame s c reason)

theorem cancelAndOffer_haltFrame (s : State) (c : CarrierId) (reason : CancelReason) :
    HaltFrame s (s.cancelAndOffer c reason) :=
  (cancelDrain_haltFrame s c reason).trans (offerOwnersSlots_haltFrame _ c)

/-! ## Branches and grants -/

@[simp] theorem enter_state (r : Branch) (state : BranchState) : (r.enter state).state = state := rfl

theorem enterBranch_haltFrame (s : State) (b : BranchId) {state : BranchState} (h : state.Quiet) :
    HaltFrame s (s.enterBranch b state) := setBranch_haltFrame s b fun _ => h

theorem sendUnmute_haltFrame (s : State) (c : CarrierId) : HaltFrame s (s.sendUnmute c) := by
  refine (setCarrier_haltFrame s c ?_).trans (postOwner_haltFrame _ c _)
  exact id

theorem reportPowered_haltFrame (s : State) (b : BranchId) : HaltFrame s (s.reportPowered b) := by
  refine .foldl _ (fun u c => ?_) _ s
  unfold State.unmuteMember
  split
  · exact sendUnmute_haltFrame u c
  · exact .refl u

/-- The settle conditions fail in SAFE_HALT (R56). -/
theorem settleTest_haltFrame (s : State) (b : BranchId) : HaltFrame s (s.settleTest b) := by
  cases hs : s.halted with
  | false => exact .of_running hs (settleTest_branchFrame s b).stack
  | true =>
    rw [State.settleTest, if_neg (by simp [State.settleConditions, hs])]
    exact .refl s

/-- A branch lowers only from SETTLING, which no branch is in SAFE_HALT (R57). -/
theorem beginLowering_haltFrame {s : State} {b : BranchId} (hb : (s.branch b).state = .settling) :
    HaltFrame s (s.beginLowering b) :=
  setBranch_haltFrame s b fun hquiet => absurd hb hquiet.1

theorem lingerExpires_haltFrame {s : State} {b : BranchId} (hb : (s.branch b).state = .settling) :
    HaltFrame s (s.lingerExpires b) := by
  unfold State.lingerExpires
  split
  · exact setBranch_haltFrame s b id
  · exact beginLowering_haltFrame hb

theorem endRestHold_haltFrame (s : State) : HaltFrame s s.endRestHold := by
  refine HaltFrame.trans (lines_haltFrame s _) (.foldl _ (fun u b => ?_) branchIds (s.setRestHold false))
  unfold State.lowerIfHeld
  split
  case isTrue h =>
    obtain ⟨hsettling, -⟩ := h
    exact beginLowering_haltFrame hsettling
  case isFalse => exact .refl u

theorem powerGood_haltFrame {consider : State → State} (hc : ∀ u, HaltFrame u (consider u)) (s : State)
    (b : BranchId) : HaltFrame s (s.powerGood consider b) :=
  ((((enterBranch_haltFrame s b (by decide)).trans (setArb_haltFrame _ _)).trans (hc _)).trans
    (reportPowered_haltFrame _ b)).trans (settleTest_haltFrame _ b)

theorem takeGrant_haltFrame {consider : State → State} (hc : ∀ u, HaltFrame u (consider u)) (s : State) (b : BranchId)
    (g : Grant) : HaltFrame s (s.takeGrant consider b g) := by
  have hraising := (setArb_haltFrame s (s.arb.give b g)).trans (setBranch_haltFrame _ b
    (r := { (s.branch b).enter .raising with
      raiseLevel := (s.branch b).raiseLevel, grant := g, rampDeadline := some (secondsAfter s.now s.ctrl.rampUp) })
    fun _ => by simp [BranchState.Quiet])
  unfold State.takeGrant
  dsimp only
  split
  · exact hraising.trans (powerGood_haltFrame hc _ b)
  · exact hraising

theorem considerGrantsUpTo_haltFrame (n : Nat) (s : State) : HaltFrame s (considerGrantsUpTo n s) := by
  induction n generalizing s with
  | zero => exact .refl s
  | succ n ih =>
    unfold considerGrantsUpTo
    split
    · exact .refl s
    · exact (takeGrant_haltFrame ih s _ _).trans (ih _)

theorem considerGrants_haltFrame (s : State) : HaltFrame s s.considerGrants := considerGrantsUpTo_haltFrame _ s

/-- What `enterQueued` does once the branch is QUEUED: the entry is placed and the arbiter considers grants. -/
theorem queued_haltFrame (s : State) (b : BranchId) (level : Nat) :
    HaltFrame (s.setBranch b { (s.branch b).enter .queued with raiseLevel := level }) (s.enterQueued b level) :=
  (setArb_haltFrame _ _).trans (considerGrants_haltFrame _)

theorem enterQueued_haltFrame (s : State) (b : BranchId) (level : Nat) : HaltFrame s (s.enterQueued b level) :=
  (setBranch_haltFrame s b fun _ => by simp [BranchState.Quiet]).trans (queued_haltFrame s b level)

theorem raiseQueued_haltFrame (s : State) (b : BranchId) (level : Nat) : HaltFrame s (s.raiseQueued b level) := by
  unfold State.raiseQueued
  dsimp only
  split
  · refine ((setBranch_haltFrame s b ?_).trans (setArb_haltFrame _ _)).trans (considerGrants_haltFrame _)
    exact id
  · exact .refl s

theorem releaseGrant_haltFrame (s : State) (b : BranchId) (g : Grant) : HaltFrame s (s.releaseGrant b g) :=
  (setArb_haltFrame s _).trans (considerGrants_haltFrame _)

theorem memberWaking_haltFrame (s : State) (b : BranchId) (level : Nat) : HaltFrame s (s.memberWaking b level) := by
  unfold State.memberWaking
  dsimp only
  split
  · exact reportPowered_haltFrame s b
  · exact (enterBranch_haltFrame s b (by decide)).trans (reportPowered_haltFrame _ b)
  · exact setBranch_haltFrame s b id
  · exact enterQueued_haltFrame s b level
  · exact raiseQueued_haltFrame s b level
  · exact setBranch_haltFrame s b id
  all_goals exact .refl s

theorem memberRaised_haltFrame (s : State) (b : BranchId) (level : Nat) : HaltFrame s (s.memberRaised b level) := by
  unfold State.memberRaised
  dsimp only
  split
  · exact raiseQueued_haltFrame s b level
  · exact setBranch_haltFrame s b id
  all_goals exact .refl s

theorem memberReport_haltFrame (s : State) (report : MemberReport) : HaltFrame s (s.memberReport report) := by
  cases report with
  | waking b level => exact memberWaking_haltFrame s b level
  | raised b level => exact memberRaised_haltFrame s b level

theorem goDark_haltFrame (s : State) (b : BranchId) : HaltFrame s (s.goDark b) := by
  have hdark := enterBranch_haltFrame s b (state := .dark) (by decide)
  unfold State.goDark
  dsimp only
  split
  · exact hdark.trans (enterQueued_haltFrame _ b _)
  · exact hdark

/-! ## Wakes -/

theorem wakeCarrier_haltFrame (s : State) (c : CarrierId) (level : Nat) :
    HaltFrame s (s.wakeCarrier c level).state := by
  unfold State.wakeCarrier
  dsimp only
  split
  · exact .refl s
  · exact .refl s
  · exact cancelDrain_haltFrame s c .wake
  · split
    · exact setCarrier_haltFrame s c fun _ => by simp [Carrier.woken]
    · exact setCarrier_haltFrame s c id
  · split
    · exact setCarrier_haltFrame s c id
    · exact .refl s
  · exact setCarrier_haltFrame s c id

theorem deliver_haltFrame (w : WakeRound) (c : CarrierId) (level : Nat) :
    HaltFrame w.state (w.deliver c level).state := wakeCarrier_haltFrame w.state c level

theorem finish_haltFrame (w : WakeRound) : HaltFrame w.state w.finish :=
  (HaltFrame.foldl _ offerOwnersSlots_haltFrame w.freed w.state).trans
    (.foldl _ memberReport_haltFrame w.reports _)

theorem wakeRound_haltFrame (s : State) (reaches : Carrier → Bool) (level : Nat) :
    HaltFrame s (s.wakeRound reaches level).finish := by
  refine HaltFrame.trans (.round _ (fun w c => ?_) carrierIds (WakeRound.start s)) (finish_haltFrame _)
  split
  · exact deliver_haltFrame w c level
  · exact .refl _

theorem wakeOne_haltFrame (s : State) (c : CarrierId) (level : Nat) : HaltFrame s (s.wakeOne c level) :=
  (wakeCarrier_haltFrame s c level).trans (finish_haltFrame ((WakeRound.start s).deliver c level))

/-! ## Causes, the rest hold and windows -/

/-- In SAFE_HALT a cause sets its flag and starts nothing (R151). -/
theorem causeOccurs_haltFrame (s : State) (k : SlotId) : HaltFrame s (s.causeOccurs k) := by
  have hflagged : HaltFrame s (s.flagged k) := setSlot_haltFrame s k _
  rw [causeOccurs_eq]
  split
  · split
    case isTrue => exact hflagged
    case isFalse hrunning =>
      exact hflagged.trans (.of_running (Bool.eq_false_iff.mpr hrunning) (deliverStart_drainFrame _ _ _).stack)
  · split
    · exact hflagged
    · exact hflagged.trans (post_haltFrame _ _ _)

theorem holdBecomes_haltFrame (s : State) (inEffect : Bool) : HaltFrame s (s.holdBecomes inEffect) := by
  unfold State.holdBecomes
  split
  · exact endRestHold_haltFrame s
  · exact lines_haltFrame s _

theorem holdawkActs_haltFrame (s : State) (active : Bool) : HaltFrame s (s.holdawkActs active) := by
  unfold State.holdawkActs
  split
  · exact .refl s
  · exact holdBecomes_haltFrame s _
  · exact holdBecomes_haltFrame s true
  · exact .refl s
  · exact (holdBecomes_haltFrame s true).trans (wakeRound_haltFrame _ _ 7)
  · exact holdBecomes_haltFrame s false

theorem openEvent_haltFrame (s : State) (w : WindowId) : HaltFrame s (s.openEvent w) :=
  ((setWindow_haltFrame s w _).trans (causeOccurs_haltFrame _ _)).trans (post_haltFrame _ _ _)

theorem closeCancels_haltFrame (s : State) (w : WindowId) (c : CarrierId) : HaltFrame s (s.closeCancels w c) := by
  unfold State.closeCancels
  split
  · exact cancelAndOffer_haltFrame s c .windowClosed
  · exact .refl s

theorem deliverClose_haltFrame (round : WakeRound) (w : WindowId) (c : CarrierId) :
    HaltFrame round.state (round.deliverClose w c).state := by
  unfold WakeRound.deliverClose
  dsimp only
  split
  · split
    · exact deliver_haltFrame round c 1
    · exact (deliver_haltFrame round c _).trans (deliver_haltFrame _ c 1)
  · exact .refl _

theorem endLatchedHold_haltFrame (s : State) : HaltFrame s s.endLatchedHold := by
  unfold State.endLatchedHold
  split
  · exact endRestHold_haltFrame s
  · exact .refl s

theorem closeSwap_haltFrame (s : State) (w : WindowId) : HaltFrame s (s.closeSwap w) := by
  unfold State.closeSwap
  dsimp only
  split
  · exact setWindow_haltFrame s w _
  · exact .refl s

theorem closeEvent_haltFrame (s : State) (w : WindowId) : HaltFrame s (s.closeEvent w) := by
  have hclosed : HaltFrame s (s.closeWindow w) := (setWindow_haltFrame s w _).trans (post_haltFrame _ _ _)
  have hcancels (u : State) : HaltFrame u (carrierIds.foldl (fun v c => v.closeCancels w c) u) :=
    .foldl _ (fun v c => closeCancels_haltFrame v w c) carrierIds u
  have hwakes (u : State) :
      HaltFrame u (carrierIds.foldl (fun round c => round.deliverClose w c) (WakeRound.start u)).finish :=
    HaltFrame.trans (.round _ (fun r c => deliverClose_haltFrame r w c) carrierIds (WakeRound.start u))
      (finish_haltFrame _)
  exact (((hclosed.trans (hcancels _)).trans (hwakes _)).trans (endLatchedHold_haltFrame _)).trans
    (closeSwap_haltFrame _ w)

theorem recompute_haltFrame (s : State) : HaltFrame s s.recompute := by
  refine .foldl _ (fun u w => ?_) windowIds s
  unfold State.recomputeWindow
  split
  · exact openEvent_haltFrame u w
  · exact closeEvent_haltFrame u w
  · exact .refl u
  · exact .refl u

theorem advanceTime_haltFrame (s : State) : HaltFrame s s.advanceTime :=
  (setSiteTime_haltFrame s _).trans (recompute_haltFrame _)

/-- A step of site time moves deadlines, and no record's state (R100). -/
theorem stepTime_haltFrame (s : State) (new : Nat) : HaltFrame s (s.stepTime new) := by
  refine .of_states rfl (fun c => ?_) (fun b => ?_) fun _ => rfl
  · simp [State.stepTime, State.carrier, Carrier.moveDeadlines]
  · simp [State.stepTime, State.branch, Branch.moveDeadlines]

end Sys2Proof.Machine

/-!
SUPPORT. Entry into SAFE_HALT leaves the part quiet in every order of the reactions (R177, R178), and the rules of the
Fault Stack and of SAFE_HALT as one relation (`KeepsHaltRules`) that every operation but device reset keeps, those that
push a record, settle one or resolve one among them (R164 to R170).
-/
namespace Sys2Proof.Machine
open Sys2Proof

/-! ## The reactions to SAFE_HALT -/

/-- A reaction that brings about a property in SAFE_HALT, which no operation undoes there. -/
structure Quiets (reaction : State → State) (P : State → Prop) : Prop where
  frame : ∀ u, HaltFrame u (reaction u)
  done : ∀ u, u.halted = true → P (reaction u)
  kept : ∀ u v, HaltFrame u v → u.halted = true → P u → P v

namespace Quiets

/-- A reaction followed by an operation that undoes nothing. -/
theorem followed {reaction next : State → State} {P : State → Prop} (h : Quiets reaction P)
    (hnext : ∀ u, HaltFrame u (next u)) : Quiets (fun u => next (reaction u)) P where
  frame u := (h.frame u).trans (hnext _)
  done u hu := h.kept _ _ (hnext _) ((h.frame u).halted_eq.trans hu) (h.done u hu)
  kept := h.kept

/-- A fold of a reaction over records brings each of them to its own property. -/
theorem foldl_done {α : Type} {f : State → α → State} {P : α → State → Prop} (h : ∀ a, Quiets (fun u => f u a) (P a))
    (l : List α) {s : State} (hs : s.halted = true) : ∀ a ∈ l, P a (l.foldl f s) := by
  induction l generalizing s with
  | nil => simp
  | cons a l ih =>
    have hnext : (f s a).halted = true := ((h a).frame s).halted_eq.trans hs
    have hrest := HaltFrame.foldl f (fun u b => (h b).frame u) l (f s a)
    rw [List.forall_mem_cons]
    exact ⟨(h a).kept _ _ hrest hnext ((h a).done s hs), ih hnext⟩

/-- A reaction on every record, one after the other. -/
theorem foldl {α : Type} {f : State → α → State} {P : α → State → Prop} (h : ∀ a, Quiets (fun u => f u a) (P a))
    {l : List α} (hl : ∀ a, a ∈ l) : Quiets (fun u => l.foldl f u) (fun u => ∀ a, P a u) where
  frame := .foldl f (fun u a => (h a).frame u) l
  done _ hu a := foldl_done h l hu a (hl a)
  kept u v huv hu hall a := (h a).kept u v huv hu (hall a)

/-- Three reactions in a row leave what each of them brings about. -/
theorem three {r₁ r₂ r₃ : State → State} {P₁ P₂ P₃ : State → Prop} (h₁ : Quiets r₁ P₁) (h₂ : Quiets r₂ P₂)
    (h₃ : Quiets r₃ P₃) {s : State} (hs : s.halted = true) :
    P₁ (r₃ (r₂ (r₁ s))) ∧ P₂ (r₃ (r₂ (r₁ s))) ∧ P₃ (r₃ (r₂ (r₁ s))) := by
  have hs₁ : (r₁ s).halted = true := (h₁.frame s).halted_eq.trans hs
  have hs₂ : (r₂ (r₁ s)).halted = true := (h₂.frame _).halted_eq.trans hs₁
  exact ⟨((h₁.followed h₂.frame).followed h₃.frame).done s hs, (h₂.followed h₃.frame).done _ hs₁, h₃.done _ hs₂⟩

end Quiets

/-- No carrier is DRAINING. -/
def State.NoDrain (s : State) : Prop := ∀ c, (s.carrier c).state ≠ .draining

/-- No branch is SETTLING or LOWERING. -/
def State.NoLowering (s : State) : Prop := ∀ b, (s.branch b).state.Quiet

/-- Every channel is IDLE. -/
def State.NoStart (s : State) : Prop := ∀ k, (s.channel k).state = .idle

theorem haltQuiet_iff (s : State) : HaltQuiet s ↔ (s.halted = true → s.NoDrain ∧ s.NoLowering ∧ s.NoStart) := Iff.rfl

theorem haltCancel_quiets (c : CarrierId) :
    Quiets (fun u => u.haltCancel c) (fun u => (u.carrier c).state ≠ .draining) where
  frame u := by
    unfold State.haltCancel
    split
    · exact cancelAndOffer_haltFrame u c .halt
    · exact .refl u
  done u hu := by
    unfold State.haltCancel
    split
    case isTrue =>
      have hrest := (cancelled_haltFrame u c .halt).trans (offerOwnersSlots_haltFrame _ c)
      exact hrest.carriers hu c (by simp [Carrier.cancelled])
    case isFalse hnot => exact hnot
  kept u v huv hu := huv.carriers hu c

/-- The Carrier Table's reaction ends every drain (R27). -/
theorem carriersHaltReaction_quiets : Quiets State.carriersHaltReaction State.NoDrain := by
  have hcancels : Quiets (fun u => carrierIds.foldl (fun v c => v.haltCancel c) u) State.NoDrain :=
    .foldl haltCancel_quiets List.mem_finRange
  have hreacted := hcancels.followed fun u =>
    wakeRound_haltFrame u (fun r => r.state == .resting || r.state == .barred) 7
  exact hreacted

theorem branchHaltReaction_quiets (b : BranchId) :
    Quiets (fun u => u.branchHaltReaction b) (fun u => (u.branch b).state.Quiet) where
  frame u := by
    unfold State.branchHaltReaction
    split
    · exact enterBranch_haltFrame u b (by decide)
    · exact enterQueued_haltFrame u b 7
    all_goals exact .refl u
  done u hu := by
    unfold State.branchHaltReaction
    split
    · simp [State.enterBranch, BranchState.Quiet]
    · exact (queued_haltFrame u b 7).branches hu b (by simp [BranchState.Quiet])
    all_goals simp_all [BranchState.Quiet]
  kept u v huv hu := huv.branches hu b

/-- The Branch Controller's reaction ends every settling and lowering (R77). -/
theorem branchesHaltReaction_quiets : Quiets State.branchesHaltReaction State.NoLowering :=
  Quiets.foldl branchHaltReaction_quiets List.mem_finRange

theorem channelHaltReaction_quiets (k : ChannelId) :
    Quiets (fun u => u.channelHaltReaction k) (fun u => (u.channel k).state = .idle) := by
  have hstopped (u : State) : HaltFrame
      (u.setChannel k { u.channel k with state := .idle, quota := 0, pendingStart := none, waiting := none })
      (u.channelHaltReaction k) := by
    unfold State.channelHaltReaction
    dsimp only
    split
    · exact .refl _
    · exact reportSource_haltFrame _ _ _
  exact {
    frame := fun u => (setChannel_haltFrame u k fun _ => rfl).trans (hstopped u)
    done := fun u hu => (hstopped u).channels hu k (by simp)
    kept := fun u v huv hu => huv.channels hu k }

/-- The Rest Channels' reaction stops every channel (R140). -/
theorem channelsHaltReaction_quiets : Quiets State.channelsHaltReaction State.NoStart :=
  Quiets.foldl channelHaltReaction_quiets List.mem_finRange

theorem haltReactions_haltFrame (s : State) (order : HaltOrder) : HaltFrame s (s.haltReactions order) := by
  have hc := carriersHaltReaction_quiets.frame
  have hb := branchesHaltReaction_quiets.frame
  have hk := channelsHaltReaction_quiets.frame
  cases order
  case carriersBranchesChannels => exact ((hc s).trans (hb _)).trans (hk _)
  case carriersChannelsBranches => exact ((hc s).trans (hk _)).trans (hb _)
  case branchesCarriersChannels => exact ((hb s).trans (hc _)).trans (hk _)
  case branchesChannelsCarriers => exact ((hb s).trans (hk _)).trans (hc _)
  case channelsCarriersBranches => exact ((hk s).trans (hc _)).trans (hb _)
  case channelsBranchesCarriers => exact ((hk s).trans (hb _)).trans (hc _)

/-- In every order, the reactions leave the part quiet (R177, R178). -/
theorem haltReactions_haltQuiet (s : State) (order : HaltOrder) : HaltQuiet (s.haltReactions order) := by
  rw [haltQuiet_iff, (haltReactions_haltFrame s order).halted_eq]
  intro hs
  have qc := carriersHaltReaction_quiets
  have qb := branchesHaltReaction_quiets
  have qk := channelsHaltReaction_quiets
  cases order
  case carriersBranchesChannels => obtain ⟨c, b, k⟩ := qc.three qb qk hs; exact ⟨c, b, k⟩
  case carriersChannelsBranches => obtain ⟨c, k, b⟩ := qc.three qk qb hs; exact ⟨c, b, k⟩
  case branchesCarriersChannels => obtain ⟨b, c, k⟩ := qb.three qc qk hs; exact ⟨c, b, k⟩
  case branchesChannelsCarriers => obtain ⟨b, k, c⟩ := qb.three qk qc hs; exact ⟨c, b, k⟩
  case channelsCarriersBranches => obtain ⟨k, c, b⟩ := qk.three qc qb hs; exact ⟨c, b, k⟩
  case channelsBranchesCarriers => obtain ⟨k, b, c⟩ := qk.three qb qc hs; exact ⟨c, b, k⟩

theorem announceHalt_stack (s : State) (reason : HaltReason) :
    (s.announceHalt reason).stack = { s.stack with halt := some { reason := reason, time := s.recordedTime } } :=
  (HaltFrame.foldl _ (fun u p => post_haltFrame u p (.halt reason)) allPorts _).stack

/-- Entry into SAFE_HALT leaves the records of the Fault Stack (R177). -/
theorem enterHalt_stack (s : State) (reason : HaltReason) :
    (s.enterHalt reason).stack = { s.stack with halt := some { reason := reason, time := s.recordedTime } } :=
  (haltReactions_haltFrame _ _).stack.trans (announceHalt_stack _ reason)

theorem enterHalt_haltQuiet (s : State) (reason : HaltReason) : HaltQuiet (s.enterHalt reason) :=
  haltReactions_haltQuiet _ _

/-! ## The rules of the Fault Stack and of SAFE_HALT -/

/-- R166 and R178 from one state to another: the stack stays within its places, SAFE_HALT stays quiet, and in SAFE_HALT
the part stays halted and the records are those there were, but for their settled marks (R168). -/
structure KeepsHaltRules (s t : State) : Prop where
  bounded : StackBounded s → StackBounded t
  quiet : HaltQuiet s → HaltQuiet t
  frozen : s.halted = true → t.halted = true ∧ ∃ settle : FaultRecord → FaultRecord,
    t.stack.records = s.stack.records.map settle ∧ ∀ r, (settle r).failure = r.failure

theorem HaltFrame.keeps {s t : State} (h : HaltFrame s t) : KeepsHaltRules s t where
  bounded hs := by simpa [StackBounded, h.stack] using hs
  quiet hs := by
    rw [haltQuiet_iff] at hs ⊢
    intro ht
    have hhalted : s.halted = true := h.halted_eq.symm.trans ht
    obtain ⟨hdrain, hlowering, hstart⟩ := hs hhalted
    exact ⟨fun c => h.carriers hhalted c (hdrain c), fun b => h.branches hhalted b (hlowering b),
      fun k => h.channels hhalted k (hstart k)⟩
  frozen hs := ⟨h.halted_eq.trans hs, id, by simp [h.stack], fun _ => rfl⟩

namespace KeepsHaltRules

theorem refl (s : State) : KeepsHaltRules s s := (HaltFrame.refl s).keeps

theorem trans {s t u : State} (h : KeepsHaltRules s t) (k : KeepsHaltRules t u) : KeepsHaltRules s u where
  bounded := k.bounded ∘ h.bounded
  quiet := k.quiet ∘ h.quiet
  frozen hs := by
    obtain ⟨ht, settle, hrecords, hsame⟩ := h.frozen hs
    obtain ⟨hu, settle', hrecords', hsame'⟩ := k.frozen ht
    exact ⟨hu, settle' ∘ settle, by simp [hrecords', hrecords], fun r => (hsame' _).trans (hsame r)⟩

/-- Outside SAFE_HALT, and staying there, only the depth of the stack counts. -/
theorem of_running {s t : State} (hs : s.halted = false) (ht : t.halted = false)
    (hbounded : StackBounded s → StackBounded t) : KeepsHaltRules s t where
  bounded := hbounded
  quiet _ := by simp [HaltQuiet, ht]
  frozen h := by simp [hs] at h

end KeepsHaltRules

/-! ## Records pushed, settled and resolved -/

/-- HALT, and a double fault, outside SAFE_HALT (R167, R176). -/
theorem enterHalt_keeps {s : State} (hs : s.halted = false) (reason : HaltReason) :
    KeepsHaltRules s (s.enterHalt reason) where
  bounded h := by simpa [StackBounded, enterHalt_stack] using h
  quiet _ := enterHalt_haltQuiet s reason
  frozen h := by simp [hs] at h

/-- A push adds its record only outside SAFE_HALT and below 8 records (R164, R166, R167). -/
theorem pushFault_keeps (s : State) (r : FaultRecord) : KeepsHaltRules s (s.pushFault r) := by
  unfold State.pushFault
  split
  case isTrue => exact .refl s
  case isFalse hrunning =>
    have hs : s.halted = false := Bool.eq_false_iff.mpr hrunning
    split
    case isTrue hplace =>
      have hpushed : KeepsHaltRules s (s.setStack { s.stack with records := r :: s.stack.records }) :=
        .of_running hs hs fun _ => hplace
      exact hpushed.trans (post_haltFrame _ _ _).keeps
    case isFalse => exact enterHalt_keeps hs _

/-- A settled mark changes neither kind nor subject of its record. -/
theorem settle_failure (r : FaultRecord) (c : CarrierId) : (r.settle c).failure = r.failure := by
  cases r <;> rfl

/-- LIVE settles records, in SAFE_HALT too (R168). -/
theorem settleRecords_keeps (s : State) (c : CarrierId) : KeepsHaltRules s (s.settleRecords c) where
  bounded h := by simpa [StackBounded, State.settleRecords] using h
  quiet := id
  frozen hs := ⟨hs, (·.settle c), rfl, (settle_failure · c)⟩

/-! ## Failures and dispositions -/

theorem rampDownFails_keeps (s : State) (b : BranchId) : KeepsHaltRules s (s.rampDownFails b) :=
  (enterBranch_haltFrame s b (by decide)).keeps.trans (pushFault_keeps _ _)

theorem rampUpFails_keeps (s : State) (b : BranchId) : KeepsHaltRules s (s.rampUpFails b) :=
  ((enterBranch_haltFrame s b (by decide)).trans (releaseGrant_haltFrame _ b _)).keeps.trans (pushFault_keeps _ _)

theorem liveTimesOut_keeps (s : State) (c : CarrierId) : KeepsHaltRules s (s.liveTimesOut c) := by
  refine (setCarrier_haltFrame s c ?_).keeps.trans (pushFault_keeps _ _)
  exact id

theorem memberLosesPower_haltFrame (s : State) (c : CarrierId) : HaltFrame s (s.memberLosesPower c) := by
  have hlost : HaltFrame s (s.setCarrier c (s.carrier c).lostPower) :=
    setCarrier_haltFrame s c fun _ => by simp [Carrier.lostPower]
  unfold State.memberLosesPower
  dsimp only
  split
  · exact hlost
  · exact ((hlost.trans (postOwner_haltFrame _ c _)).trans (reportOutcome_haltFrame _ _ _)).trans
      (offerOwnersSlots_haltFrame _ c)
  · exact setCarrier_haltFrame s c id
  all_goals exact .refl s

theorem carriersLosePower_haltFrame (s : State) (b : BranchId) : HaltFrame s (s.carriersLosePower b) :=
  ((HaltFrame.foldl _ memberLosesPower_haltFrame _ s).trans
    (.foldl _ (fun u c => postOwner_haltFrame u c (.branchDown c b)) _ _)).trans
    (.foldl _ memberReport_haltFrame _ _)

theorem losePower_keeps (s : State) (b : BranchId) : KeepsHaltRules s (s.losePower b) :=
  ((enterBranch_haltFrame s b (by decide)).trans (carriersLosePower_haltFrame _ b)).keeps.trans (pushFault_keeps _ _)

theorem resolveToPowered_keeps (s : State) (b : BranchId) : KeepsHaltRules s (s.resolveToPowered b) := by
  have hpowered := enterBranch_haltFrame s b (state := .powered) (by decide)
  unfold State.resolveToPowered
  dsimp only
  split
  · exact ((hpowered.trans (reportPowered_haltFrame _ b)).trans (settleTest_haltFrame _ b)).keeps
  · exact hpowered.keeps.trans (losePower_keeps _ b)

theorem barMember_haltFrame (s : State) (b : BranchId) (c : CarrierId) : HaltFrame s (s.barMember b c) := by
  unfold State.barMember
  dsimp only
  split
  · exact (setCarrier_haltFrame s c fun _ => by simp).trans (postOwner_haltFrame _ c _)
  · exact (setCarrier_haltFrame s c fun _ => by simp).trans (postOwner_haltFrame _ c _)
  all_goals exact .refl s

theorem retireBranch_haltFrame (s : State) (b : BranchId) : HaltFrame s (s.retireBranch b) :=
  (enterBranch_haltFrame s b (by decide)).trans (.foldl _ (fun u c => barMember_haltFrame u b c) _ _)

/-- The dispositions of a branch record, which RESOLVE hands on outside SAFE_HALT only (R169). -/
theorem disposeBranchFault_keeps {s : State} (hs : s.halted = false) (kind : BranchFault) (b : BranchId)
    (d : Disposition) : KeepsHaltRules s (s.disposeBranchFault kind b d) := by
  unfold State.disposeBranchFault
  split
  · split
    · exact (HaltFrame.of_running hs (beginLowering_branchFrame s b).stack).keeps
    · exact resolveToPowered_keeps s b
  · refine (setBranch_haltFrame s b ?_).keeps.trans (resolveToPowered_keeps _ b)
    exact id
  · exact (enterQueued_haltFrame s b _).keeps
  · exact (enterQueued_haltFrame s b 7).keeps
  · exact (retireBranch_haltFrame s b).keeps
  · exact (retireBranch_haltFrame s b).keeps

theorem comesLive_haltFrame (s : State) (c : CarrierId) : HaltFrame s (s.comesLive c) := by
  refine (setCarrier_haltFrame s c fun _ => by simp [Carrier.live]).trans (.foldl _ (fun u m => ?_) allClaimants _)
  unfold State.postCarrierOn
  split
  · exact post_haltFrame u _ _
  · exact .refl u

theorem disposeLiveTimeout_haltFrame (s : State) (c : CarrierId) (d : Disposition) :
    HaltFrame s (s.disposeLiveTimeout c d) := by
  unfold State.disposeLiveTimeout
  split
  · split
    · exact sendUnmute_haltFrame s c
    · exact comesLive_haltFrame s c
  · exact .refl s

theorem dispose_keeps {s : State} (hs : s.halted = false) (r : FaultRecord) (d : Disposition) :
    KeepsHaltRules s (s.dispose r d) := by
  unfold State.dispose
  split
  · split
    · exact disposeBranchFault_keeps hs _ _ d
    · exact .refl s
  · split
    · exact .refl s
    · exact (disposeLiveTimeout_haltFrame s _ d).keeps

/-- RESOLVE takes one record away before its disposition acts (R170). -/
theorem resolveTop_keeps {s : State} {top : FaultRecord} {below : List FaultRecord}
    (hrecords : s.stack.records = top :: below) (hs : s.halted = false) (d : Disposition) :
    KeepsHaltRules s (s.resolveTop top below d) := by
  have hremoved : KeepsHaltRules s (s.setStack { s.stack with records := below }) := by
    refine .of_running hs hs fun hbounded => ?_
    simp only [StackBounded, hrecords, List.length_cons] at hbounded
    exact Nat.le_of_succ_le hbounded
  exact hremoved.trans (dispose_keeps (s := s.setStack { s.stack with records := below }) hs top d)

end Sys2Proof.Machine

/-!
SUPPORT. Every request and every event keeps the rules of the Fault Stack and of SAFE_HALT (`KeepsHaltRules`), or is
a device reset, which empties the stack and ends SAFE_HALT (R163, R181); and the statements about RESOLVE's checks and
the two invariants: O27, O53, O54.
-/
namespace Sys2Proof.Machine
open Sys2Proof

/-! ## Answers -/

theorem ok_keeps {s t : State} (h : HaltFrame s t) : KeepsHaltRules s (Answer.ok t).state := h.keeps

theorem okWith_keeps {s t : State} (h : HaltFrame s t) (payload : List Byte) :
    KeepsHaltRules s (Answer.okWith payload t).state := h.keeps

/-! ## Requests of the tenants -/

theorem ownCarrier_keeps {p : Port} {b : Byte} {s : State} {act : CarrierId → Answer}
    (h : ∀ c, KeepsHaltRules s (act c).state) : KeepsHaltRules s (ownCarrier p b s act).state := by
  unfold ownCarrier
  split
  · exact .refl s
  · split
    · exact h _
    · exact .refl s

theorem offerAnswer_keeps (p : Port) (b : Byte) (s : State) : KeepsHaltRules s (offerAnswer p b s).state := by
  refine ownCarrier_keeps fun c => ?_
  split
  · exact .refl s
  · split
    · exact .refl s
    · exact ok_keeps (setCarrier_haltFrame s c id)

theorem withdrawAnswer_keeps (p : Port) (b : Byte) (s : State) : KeepsHaltRules s (withdrawAnswer p b s).state := by
  refine ownCarrier_keeps fun c => ?_
  split
  · exact .refl s
  · split
    · exact ok_keeps (cancelAndOffer_haltFrame s c .withdrawn)
    · exact ok_keeps (setCarrier_haltFrame s c id)

theorem memberResting_haltFrame (s : State) (c : CarrierId) : HaltFrame s (s.memberResting c) := by
  unfold State.memberResting
  split
  · exact .refl s
  · exact settleTest_haltFrame s _

theorem restCarrier_haltFrame (s : State) (c : CarrierId) : HaltFrame s (s.restCarrier c) :=
  ((((setCarrier_haltFrame s c fun _ => by simp [Carrier.rest]).trans (postOwner_haltFrame _ c _)).trans
    (reportOutcome_haltFrame _ _ _)).trans (offerOwnersSlots_haltFrame _ c)).trans (memberResting_haltFrame _ c)

theorem drainedAnswer_keeps (p : Port) (b : Byte) (s : State) : KeepsHaltRules s (drainedAnswer p b s).state := by
  refine ownCarrier_keeps fun c => ?_
  split
  · exact ok_keeps (restCarrier_haltFrame s c)
  · exact .refl s

theorem liveAnswer_keeps (p : Port) (b : Byte) (s : State) : KeepsHaltRules s (liveAnswer p b s).state := by
  refine ownCarrier_keeps fun c => ?_
  split
  · exact (comesLive_haltFrame s c).keeps.trans (settleRecords_keeps _ c)
  · exact .refl s

theorem wakeAnswer_keeps (p : Port) (b level : Byte) (s : State) : KeepsHaltRules s (wakeAnswer p b level s).state := by
  unfold wakeAnswer
  split
  · exact .refl s
  · exact ownCarrier_keeps fun c => okWith_keeps (wakeOne_haltFrame s c _) _

theorem holdCarrier_haltFrame (s : State) (c : CarrierId) (m : Claimant) (level : Nat) :
    HaltFrame s (s.holdCarrier c m level) := by
  have hclaimed : HaltFrame s (s.placeClaim c m) := setCarrier_haltFrame s c id
  unfold State.holdCarrier
  dsimp only
  split
  · exact hclaimed.trans (cancelAndOffer_haltFrame _ c .claimed)
  · exact hclaimed.trans (wakeOne_haltFrame _ c level)

theorem holdAnswer_keeps (p : Port) (b level : Byte) (s : State) : KeepsHaltRules s (holdAnswer p b level s).state := by
  unfold holdAnswer
  split
  · split
    · exact .refl s
    · split
      · exact .refl s
      · exact okWith_keeps (holdCarrier_haltFrame s _ _ _) _
  · exact .refl s

theorem releaseAnswer_keeps (p : Port) (b : Byte) (s : State) : KeepsHaltRules s (releaseAnswer p b s).state := by
  unfold releaseAnswer
  split
  · split
    · exact .refl s
    · split
      · exact .refl s
      · refine okWith_keeps ?_ _
        exact setCarrier_haltFrame s _ id
  · exact .refl s

/-! ## Requests of the plant controller -/

theorem forceWakeAnswer_keeps (scope index : Byte) (s : State) :
    KeepsHaltRules s (forceWakeAnswer scope index s).state := by
  unfold forceWakeAnswer
  split
  · exact .refl s
  · split
    · exact .refl s
    · exact okWith_keeps (wakeRound_haltFrame s _ 7) _

theorem setBudgetAnswer_keeps (budget : Byte) (s : State) : KeepsHaltRules s (setBudgetAnswer budget s).state := by
  unfold setBudgetAnswer
  split
  · exact .refl s
  · refine okWith_keeps ?_ _
    split
    · exact (setArb_haltFrame s _).trans (considerGrants_haltFrame _)
    · exact setArb_haltFrame s _

theorem setRampAnswer_keeps (d u : Byte) (s : State) : KeepsHaltRules s (setRampAnswer d u s).state := by
  unfold setRampAnswer
  split
  · exact ok_keeps (.of_records rfl rfl rfl rfl)
  · exact .refl s

theorem pinBranch_haltFrame (s : State) (b : BranchId) : HaltFrame s (s.pinBranch b) := by
  have hpinned : HaltFrame s (s.setBranch b { s.branch b with lineMode := .pinned }) := setBranch_haltFrame s b id
  unfold State.pinBranch
  dsimp only
  split
  · exact setBranch_haltFrame s b fun _ => by simp [BranchState.Quiet]
  · exact hpinned.trans (enterQueued_haltFrame _ b 1)
  · exact hpinned
  · exact hpinned
  · exact hpinned
  · exact hpinned
  · exact hpinned
  · exact hpinned
  · exact .refl s

theorem pinAnswer_keeps (b : Byte) (s : State) : KeepsHaltRules s (pinAnswer b s).state := by
  unfold pinAnswer
  split
  · exact .refl s
  · split
    · exact .refl s
    · split
      · exact .refl s
      · exact ok_keeps (pinBranch_haltFrame s _)

theorem unpinAnswer_keeps (b : Byte) (s : State) : KeepsHaltRules s (unpinAnswer b s).state := by
  unfold unpinAnswer
  split
  · exact .refl s
  · split
    · exact .refl s
    · split
      · exact .refl s
      · refine ok_keeps ((setBranch_haltFrame s _ ?_).trans (settleTest_haltFrame _ _))
        exact id

theorem restoreMember_haltFrame (w : WakeRound) (b : BranchId) (c : CarrierId) :
    HaltFrame w.state (w.restoreMember b c).state := by
  have hrestored : HaltFrame w.state
      ((w.state.setCarrier c { w.state.carrier c with state := .resting }).postOwner c (.restored c b)) :=
    (setCarrier_haltFrame w.state c fun _ => by simp).trans (postOwner_haltFrame _ c _)
  unfold WakeRound.restoreMember
  dsimp only
  split
  · split
    · exact hrestored
    · exact hrestored.trans (wakeCarrier_haltFrame _ c _)
  · exact .refl _

theorem queueIfPinned_haltFrame (s : State) (b : BranchId) : HaltFrame s (s.queueIfPinned b) := by
  unfold State.queueIfPinned
  split
  · exact enterQueued_haltFrame s b 1
  · exact .refl s

theorem bringBack_haltFrame (s : State) (b : BranchId) : HaltFrame s (s.bringBack b) :=
  (((enterBranch_haltFrame s b (by decide)).trans
    (.round _ (fun w c => restoreMember_haltFrame w b c) _ (WakeRound.start _))).trans (finish_haltFrame _)).trans
    (queueIfPinned_haltFrame _ b)

theorem returnBranchAnswer_keeps (b : Byte) (s : State) : KeepsHaltRules s (returnBranchAnswer b s).state := by
  unfold returnBranchAnswer
  split
  · exact .refl s
  · split
    · exact ok_keeps (bringBack_haltFrame s _)
    · exact .refl s

theorem resolveAnswer_keeps (kind subject disposition : Byte) (s : State) :
    KeepsHaltRules s (resolveAnswer kind subject disposition s).state := by
  unfold resolveAnswer
  split
  · split
    case h_1 => exact .refl s
    case h_2 top below hrecords =>
      split
      case isTrue => exact .refl s
      case isFalse hrunning =>
        split
        · exact resolveTop_keeps hrecords (Bool.eq_false_iff.mpr hrunning) _
        · exact .refl s
  · exact .refl s

theorem haltAnswer_keeps (s : State) : KeepsHaltRules s (haltAnswer s).state := by
  unfold haltAnswer
  split
  case isTrue => exact .refl s
  case isFalse hrunning => exact enterHalt_keeps (Bool.eq_false_iff.mpr hrunning) .plant

theorem setHoldMode_haltFrame (s : State) (mode : HoldMode) (invert : Bool) :
    HaltFrame s (s.setHoldMode mode invert) := by
  have hset := lines_haltFrame s { s.lines with holdMode := mode, holdInvert := invert }
  exact hset.trans (holdBecomes_haltFrame _ _)

theorem setHoldModeAnswer_keeps (mode invert : Byte) (s : State) :
    KeepsHaltRules s (setHoldModeAnswer mode invert s).state := by
  unfold setHoldModeAnswer
  split
  · exact okWith_keeps (setHoldMode_haltFrame s _ _) _
  · exact .refl s

theorem clearHoldAnswer_keeps (s : State) : KeepsHaltRules s (clearHoldAnswer s).state := by
  unfold clearHoldAnswer
  split
  · exact .refl s
  · split
    · exact ok_keeps (endRestHold_haltFrame s)
    · exact .refl s

theorem setOutputAnswer_keeps (output source channel : Byte) (s : State) :
    KeepsHaltRules s (setOutputAnswer output source channel s).state := by
  unfold setOutputAnswer
  split
  · exact okWith_keeps (lines_haltFrame s _) _
  · exact .refl s

/-- START_CHANNEL is turned away in SAFE_HALT (R126). -/
theorem startChannelAnswer_keeps (p : Port) (channel : Byte) (s : State) :
    KeepsHaltRules s (startChannelAnswer p channel s).state := by
  unfold startChannelAnswer
  split
  · exact .refl s
  · split
    case isTrue => exact .refl s
    case isFalse hrunning =>
      exact okWith_keeps (HaltFrame.of_running (Bool.eq_false_iff.mpr hrunning) (deliverStart_drainFrame s _ _).stack) _

/-! ## Requests of the fleet link -/

theorem provisionBranchAnswer_keeps (b : Byte) (s : State) : KeepsHaltRules s (provisionBranchAnswer b s).state := by
  unfold provisionBranchAnswer
  split
  · exact .refl s
  · split
    · exact .refl s
    · split
      · exact .refl s
      · exact ok_keeps (setBranch_haltFrame s _ fun _ => by simp [BranchState.Quiet])

theorem deprovisionBranchAnswer_keeps (b : Byte) (s : State) :
    KeepsHaltRules s (deprovisionBranchAnswer b s).state := by
  unfold deprovisionBranchAnswer
  split
  · exact .refl s
  · split
    · exact ok_keeps (setBranch_haltFrame s _ fun _ => by simp [BranchState.Quiet, Branch.unused])
    · exact .refl s

theorem placeCarrier_haltFrame (s : State) (c : CarrierId) (pv : Provision) : HaltFrame s (s.placeCarrier c pv) := by
  refine (setCarrier_haltFrame s c fun _ => ?_).trans (setBranch_haltFrame _ pv.branch ?_)
  · simp
  · exact id

theorem provisionCarrierAnswer_keeps (carrier owner sector branch layer window : Byte) (s : State) :
    KeepsHaltRules s (provisionCarrierAnswer carrier owner sector branch layer window s).state := by
  unfold provisionCarrierAnswer
  split
  · split
    · exact .refl s
    · split
      · exact .refl s
      · split
        · exact .refl s
        · exact ok_keeps (placeCarrier_haltFrame s _ _)
  · exact .refl s

theorem memberRemoved_haltFrame (s : State) (b : BranchId) (c : CarrierId) : HaltFrame s (s.memberRemoved b c) := by
  refine (setBranch_haltFrame s b ?_).trans (settleTest_haltFrame _ b)
  exact id

theorem removeCarrier_haltFrame (s : State) (c : CarrierId) : HaltFrame s (s.removeCarrier c) := by
  have hvacated : HaltFrame s (s.setCarrier c Carrier.vacant) :=
    setCarrier_haltFrame s c fun _ => by simp [Carrier.vacant]
  unfold State.removeCarrier
  dsimp only
  split
  · exact hvacated
  · exact hvacated.trans (memberRemoved_haltFrame _ _ c)

theorem deprovisionCarrierAnswer_keeps (carrier : Byte) (s : State) :
    KeepsHaltRules s (deprovisionCarrierAnswer carrier s).state := by
  unfold deprovisionCarrierAnswer
  split
  · exact .refl s
  · split
    · exact ok_keeps (removeCarrier_haltFrame s _)
    · exact .refl s

theorem deliverFloor_haltFrame (w : WakeRound) (t : TenantId) (sec : SectorId) (floor : Nat) (c : CarrierId) :
    HaltFrame w.state (w.deliverFloor t sec floor c).state := by
  unfold WakeRound.deliverFloor
  dsimp only
  split
  · exact deliver_haltFrame w c 7
  · exact .refl _

theorem floorSet_haltFrame (s : State) (t : TenantId) (sec : SectorId) (floor : Nat) :
    HaltFrame s (s.floorSet t sec floor).state := by
  have hset : HaltFrame s (s.setFloorOf t sec floor) := .of_records rfl rfl rfl rfl
  unfold State.floorSet
  dsimp only
  split
  · exact hset.trans (.round _ (fun w c => deliverFloor_haltFrame w t sec floor c) carrierIds (WakeRound.start _))
  · exact hset

theorem setFloorAnswer_keeps (tenant sector floor : Byte) (s : State) :
    KeepsHaltRules s (setFloorAnswer tenant sector floor s).state := by
  unfold setFloorAnswer
  split
  · exact okWith_keeps ((floorSet_haltFrame s _ _ _).trans (finish_haltFrame _)) _
  · exact .refl s

theorem setTimersAnswer_keeps (drainTime liveTime linger : Half) (s : State) :
    KeepsHaltRules s (setTimersAnswer drainTime liveTime linger s).state := by
  unfold setTimersAnswer
  split
  · exact ok_keeps (.of_records rfl rfl rfl rfl)
  · exact .refl s

theorem setDrainLimitAnswer_keeps (tenant limit : Byte) (s : State) :
    KeepsHaltRules s (setDrainLimitAnswer tenant limit s).state := by
  have hset (t : TenantId) (n : Nat) : HaltFrame s (s.setDrainLimit t n) := .of_records rfl rfl rfl rfl
  unfold setDrainLimitAnswer
  split
  · refine ok_keeps ?_
    split
    · exact (hset _ _).trans (offerSlots_haltFrame _ _)
    · exact hset _ _
  · exact .refl s

theorem timeSet_haltFrame (s : State) (second : Nat) : HaltFrame s (s.timeSet second) := by
  unfold State.timeSet
  split
  · exact .refl s
  · exact (stepTime_haltFrame s second).trans (recompute_haltFrame _)

theorem setTimeAnswer_keeps (second : Triple) (s : State) : KeepsHaltRules s (setTimeAnswer second s).state := by
  unfold setTimeAnswer
  split
  · exact okWith_keeps (timeSet_haltFrame s _) _
  · exact .refl s

theorem writeWindowAnswer_keeps (window enabled : Byte) (openSecond closeSecond : Triple) (dayMask quiet : Byte)
    (s : State) :
    KeepsHaltRules s (writeWindowAnswer window enabled openSecond closeSecond dayMask quiet s).state := by
  unfold writeWindowAnswer
  split
  · exact ok_keeps (setWindow_haltFrame s _ _)
  · exact .refl s

theorem commitWindowAnswer_keeps (window : Byte) (s : State) : KeepsHaltRules s (commitWindowAnswer window s).state := by
  unfold commitWindowAnswer
  split
  · exact .refl s
  · dsimp only
    split
    · exact okWith_keeps (setWindow_haltFrame s _ _) _
    · exact okWith_keeps (setWindow_haltFrame s _ _) _

theorem writeChannelAnswer_keeps
    (channel mode pointerMode base count groupSize linkEnable linkTarget completionNotice : Byte) (s : State) :
    KeepsHaltRules s
      (writeChannelAnswer channel mode pointerMode base count groupSize linkEnable linkTarget completionNotice
        s).state := by
  unfold writeChannelAnswer
  split
  · split
    · exact .refl s
    · split
      · exact ok_keeps (setChannel_haltFrame s _ id)
      · exact .refl s
  · exact .refl s

theorem writeListAnswer_keeps (first number : Byte) (entries : List Byte) (s : State) :
    KeepsHaltRules s (writeListAnswer first number entries s).state := by
  unfold writeListAnswer
  split
  · split
    · exact .refl s
    · split
      · exact .refl s
      · exact ok_keeps (.of_records rfl rfl rfl rfl)
  · exact .refl s

/-- MAP_CAUSE delivers no start in SAFE_HALT (R151). -/
theorem startMapped_haltFrame (s : State) (k : SlotId) (wasEnabled : Bool) :
    HaltFrame s (s.startMapped k wasEnabled) := by
  unfold State.startMapped
  dsimp only
  split
  case isTrue h =>
    obtain ⟨-, -, -, hrunning⟩ := h
    exact .of_running hrunning (deliverStart_drainFrame s _ _).stack
  case isFalse => exact .refl s

theorem mapCauseAnswer_keeps (slot target enable disarm : Byte) (s : State) :
    KeepsHaltRules s (mapCauseAnswer slot target enable disarm s).state := by
  unfold mapCauseAnswer
  split
  · exact okWith_keeps ((setSlot_haltFrame s _ _).trans (startMapped_haltFrame _ _ _)) _
  · exact .refl s

theorem clearCauseAnswer_keeps (slot : Byte) (s : State) : KeepsHaltRules s (clearCauseAnswer slot s).state := by
  unfold clearCauseAnswer
  split
  · exact .refl s
  · split
    · exact .refl s
    · exact ok_keeps (setSlot_haltFrame s _ _)

theorem setInputAnswer_keeps (input edgeMode role level tenantMask sectorMask : Byte) (s : State) :
    KeepsHaltRules s (setInputAnswer input edgeMode role level tenantMask sectorMask s).state := by
  unfold setInputAnswer
  split
  · exact okWith_keeps (lines_haltFrame s _) _
  · exact .refl s

/-! ## Reads -/

theorem readCarrierAnswer_state (carrier : Byte) (s : State) : (readCarrierAnswer carrier s).state = s := by
  unfold readCarrierAnswer
  split <;> rfl

theorem readBranchAnswer_state (branch : Byte) (s : State) : (readBranchAnswer branch s).state = s := by
  unfold readBranchAnswer
  split <;> rfl

theorem readWindowAnswer_state (window : Byte) (s : State) : (readWindowAnswer window s).state = s := by
  unfold readWindowAnswer
  split <;> rfl

theorem readChannelAnswer_state (channel : Byte) (s : State) : (readChannelAnswer channel s).state = s := by
  unfold readChannelAnswer
  split <;> rfl

theorem readFaultsAnswer_state (depth : Byte) (s : State) : (readFaultsAnswer depth s).state = s := by
  unfold readFaultsAnswer
  split
  · rfl
  · split <;> rfl

theorem KeepsHaltRules.of_eq {s t : State} (h : t = s) : KeepsHaltRules s t := h ▸ .refl s

/-! ## What a command leaves -/

/-- The command answers a next state, in which a device reset has emptied the Fault Stack and ended SAFE_HALT (R163,
R181), or which keeps the rules. -/
def HaltRulesAfter (s : State) (r : Result) : Prop :=
  ∃ t, r = .next t ∧ (t.stack = FaultStack.initial ∨ KeepsHaltRules s t)

theorem KeepsHaltRules.after {s t : State} (h : KeepsHaltRules s t) : HaltRulesAfter s (.next t) := ⟨t, rfl, .inr h⟩

/-- A frame taken, by the port itself or by the block it is handed to (R188). -/
theorem takeFrame_cases (s : State) (p : Port) (frame : List Byte) (onPermitted : State → State) :
    KeepsHaltRules s (s.takeFrame p frame onPermitted)
      ∨ s.takeFrame p frame onPermitted = onPermitted (s.takeOut p frame) := by
  unfold State.takeFrame
  split
  · split
    · exact .inl ((setPort_haltFrame s p _).trans (setPort_haltFrame _ p _)).keeps
    · exact .inr rfl
  · exact .inl (.refl s)

theorem takeRequest_haltRules {p : Port} {k : RequestKind} {payload : List Byte} {block : State → Answer} {s : State}
    (h : ∀ u, KeepsHaltRules u (block u).state) : HaltRulesAfter s (takeRequest p k payload block s) := by
  refine KeepsHaltRules.after ?_
  obtain hkeeps | heq := takeFrame_cases s p (requestFrame k payload) fun s =>
    (block s).state.placeReply p { kind := k.code, status := (block s).status, payload := (block s).payload }
  · exact hkeeps
  · rw [heq]
    exact ((setPort_haltFrame s p _).keeps.trans (h _)).trans (setPort_haltFrame _ p _).keeps

theorem execRestart_haltRules (p : Port) (s : State) : HaltRulesAfter s (execRestart p s) := by
  obtain hkeeps | heq := takeFrame_cases s p (requestFrame .restart []) State.deviceReset
  · exact hkeeps.after
  · exact ⟨_, rfl, .inl (heq ▸ rfl)⟩

theorem execPortReset_haltRules (p : Port) (s : State) : HaltRulesAfter s (execPortReset p s) := by
  refine KeepsHaltRules.after ?_
  split
  · exact ((setPort_haltFrame s p _).trans (setPort_haltFrame _ p _)).keeps
  · exact .refl s

theorem takeFrame_id_keeps (s : State) (p : Port) (frame : List Byte) : KeepsHaltRules s (s.takeFrame p frame id) := by
  obtain hkeeps | heq := takeFrame_cases s p frame id
  · exact hkeeps
  · rw [heq]
    exact (setPort_haltFrame s p _).keeps

theorem execUnknownRequestFrame_haltRules (p : Port) (frame : List Byte) (s : State) :
    HaltRulesAfter s (execUnknownRequestFrame p frame s) := by
  refine KeepsHaltRules.after ?_
  split
  · exact .refl s
  · exact takeFrame_id_keeps s p frame
  · exact takeFrame_id_keeps s p frame

/-- A select period writes its port. -/
theorem keeps_of_setPort {s t : State} {p : Port} (h : ∃ q, t = s.setPort p q) : KeepsHaltRules s t := by
  obtain ⟨q, rfl⟩ := h
  exact (setPort_haltFrame s p q).keeps

theorem execWriteTransaction_haltRules (p : Port) (phase : WritePhase) (s : State) :
    HaltRulesAfter s (execWriteTransaction p phase s) := by
  refine KeepsHaltRules.after ?_
  cases phase with
  | whole bytes => exact keeps_of_setPort (wholePeriod_setPort s p bytes)
  | clocked bytes => exact keeps_of_setPort (clockBytes_setPort s p bytes)
  | released bytes => exact keeps_of_setPort (releaseSelect_setPort s p bytes)

theorem execReadTransaction_haltRules (p : Port) (phase : ReadPhase) (s : State) :
    HaltRulesAfter s (execReadTransaction p phase s) := by
  refine KeepsHaltRules.after ?_
  cases phase with
  | whole clocked => exact keeps_of_setPort (wholePeriod_setPort s p _)
  | asserted => exact keeps_of_setPort (assertSelect_setPort s p)
  | opened =>
    dsimp only
    split
    · exact .refl s
    · exact keeps_of_setPort (clockBytes_setPort s p _)
  | clocked more => exact keeps_of_setPort (clockBytes_setPort s p _)
  | released clocked => exact keeps_of_setPort (releaseSelect_setPort s p _)

/-! ## Deadlines, time and lines -/

theorem execSiteTimeAdvance_haltRules (s : State) : HaltRulesAfter s (execSiteTimeAdvance s) := by
  refine KeepsHaltRules.after ?_
  split
  · exact .refl s
  · exact (advanceTime_haltFrame s).keeps

/-- An expiry is its event between two settings of site time (log 3). -/
theorem expire_keeps {s : State} {event : State → State}
    (h : ∀ d, KeepsHaltRules (s.setSiteTime d) (event (s.setSiteTime d))) (deadline : Option Nat) :
    KeepsHaltRules s (s.expire deadline event) := by
  unfold State.expire
  split
  · exact .refl s
  · split
    · exact ((setSiteTime_haltFrame s _).keeps.trans (h _)).trans (setSiteTime_haltFrame _ _).keeps
    · exact .refl s

theorem execDrainDeadlineExpiry_haltRules (c : CarrierId) (s : State) :
    HaltRulesAfter s (execDrainDeadlineExpiry c s) := by
  refine KeepsHaltRules.after ?_
  split
  · exact expire_keeps (fun _ => (cancelAndOffer_haltFrame _ c .timeout).keeps) _
  · exact .refl s

theorem execLiveDeadlineExpiry_haltRules (c : CarrierId) (s : State) :
    HaltRulesAfter s (execLiveDeadlineExpiry c s) := by
  refine KeepsHaltRules.after ?_
  split
  · exact expire_keeps (fun _ => liveTimesOut_keeps _ c) _
  · exact .refl s

theorem execLingerDeadlineExpiry_haltRules (b : BranchId) (s : State) :
    HaltRulesAfter s (execLingerDeadlineExpiry b s) := by
  refine KeepsHaltRules.after ?_
  split
  case isTrue hsettling =>
    exact expire_keeps (fun d => (lingerExpires_haltFrame (s := s.setSiteTime d) hsettling).keeps) _
  case isFalse => exact .refl s

theorem execRampDownDeadlineExpiry_haltRules (b : BranchId) (s : State) :
    HaltRulesAfter s (execRampDownDeadlineExpiry b s) := by
  refine KeepsHaltRules.after ?_
  split
  · exact expire_keeps (fun _ => rampDownFails_keeps _ b) _
  · exact .refl s

theorem execRampUpDeadlineExpiry_haltRules (b : BranchId) (s : State) :
    HaltRulesAfter s (execRampUpDeadlineExpiry b s) := by
  refine KeepsHaltRules.after ?_
  split
  · exact expire_keeps (fun _ => rampUpFails_keeps _ b) _
  · exact .refl s

theorem execChannelStep_haltRules (k : ChannelId) (s : State) : HaltRulesAfter s (execChannelStep k s) := by
  refine KeepsHaltRules.after ?_
  split
  case isTrue h =>
    obtain ⟨hstepping, -⟩ := h
    exact (processEntry_haltFrame (by simp [hstepping])).keeps
  case isFalse => exact .refl s

theorem bgdFalls_keeps (s : State) (b : BranchId) : KeepsHaltRules s (s.bgdFalls b) := by
  unfold State.bgdFalls
  split
  · exact (goDark_haltFrame s b).keeps
  · exact losePower_keeps s b
  · exact losePower_keeps s b
  all_goals exact .refl s

theorem execBgdFall_haltRules (b : BranchId) (s : State) : HaltRulesAfter s (execBgdFall b s) := by
  refine KeepsHaltRules.after ?_
  split
  · exact (setBgd_haltFrame s b false).keeps.trans (bgdFalls_keeps _ b)
  · exact .refl s

theorem bgdRises_haltFrame (s : State) (b : BranchId) : HaltFrame s (s.bgdRises b) := by
  unfold State.bgdRises
  split
  · exact powerGood_haltFrame considerGrants_haltFrame s b
  all_goals exact .refl s

theorem execBgdRise_haltRules (b : BranchId) (s : State) : HaltRulesAfter s (execBgdRise b s) := by
  refine KeepsHaltRules.after ?_
  split
  · exact .refl s
  · exact ((setBgd_haltFrame s b true).trans (bgdRises_haltFrame _ b)).keeps

theorem countedEdge_haltFrame (s : State) (i : InputId) : HaltFrame s (s.countedEdge i) := by
  unfold State.countedEdge
  dsimp only
  split
  · exact causeOccurs_haltFrame s _
  · exact wakeRound_haltFrame s _ _

theorem execEvEdge_haltRules (i : InputId) (high : Bool) (s : State) : HaltRulesAfter s (execEvEdge i high s) := by
  refine KeepsHaltRules.after ?_
  split
  · exact .refl s
  · dsimp only
    split
    · exact ((lines_haltFrame s _).trans (countedEdge_haltFrame _ i)).keeps
    · exact (lines_haltFrame s _).keeps

theorem execHoldawkEdge_haltRules (high : Bool) (s : State) : HaltRulesAfter s (execHoldawkEdge high s) := by
  refine KeepsHaltRules.after ?_
  split
  · exact .refl s
  · exact ((lines_haltFrame s _).trans (holdawkActs_haltFrame _ _)).keeps

theorem execEndOfDeviceReset_haltRules (s : State) : HaltRulesAfter s (execEndOfDeviceReset s) := by
  have hended : HaltFrame s { s with resetting := false } := .of_records rfl rfl rfl rfl
  exact hended.keeps.after

/-! ## Every command and every step -/

theorem exec_haltRules (i : Instr) (s : State) : HaltRulesAfter s (exec i s) := by
  cases i with
  | offer => exact takeRequest_haltRules (offerAnswer_keeps _ _)
  | withdraw => exact takeRequest_haltRules (withdrawAnswer_keeps _ _)
  | drained => exact takeRequest_haltRules (drainedAnswer_keeps _ _)
  | live => exact takeRequest_haltRules (liveAnswer_keeps _ _)
  | wake => exact takeRequest_haltRules (wakeAnswer_keeps _ _ _)
  | hold => exact takeRequest_haltRules (holdAnswer_keeps _ _ _)
  | release => exact takeRequest_haltRules (releaseAnswer_keeps _ _)
  | forceWake => exact takeRequest_haltRules (forceWakeAnswer_keeps _ _)
  | setBudget => exact takeRequest_haltRules (setBudgetAnswer_keeps _)
  | setRamp => exact takeRequest_haltRules (setRampAnswer_keeps _ _)
  | pin => exact takeRequest_haltRules (pinAnswer_keeps _)
  | unpin => exact takeRequest_haltRules (unpinAnswer_keeps _)
  | returnBranch => exact takeRequest_haltRules (returnBranchAnswer_keeps _)
  | resolve => exact takeRequest_haltRules (resolveAnswer_keeps _ _ _)
  | halt => exact takeRequest_haltRules haltAnswer_keeps
  | setHoldMode => exact takeRequest_haltRules (setHoldModeAnswer_keeps _ _)
  | clearHold => exact takeRequest_haltRules clearHoldAnswer_keeps
  | setOutput => exact takeRequest_haltRules (setOutputAnswer_keeps _ _ _)
  | startChannel => exact takeRequest_haltRules (startChannelAnswer_keeps _ _)
  | provisionBranch => exact takeRequest_haltRules (provisionBranchAnswer_keeps _)
  | deprovisionBranch => exact takeRequest_haltRules (deprovisionBranchAnswer_keeps _)
  | provisionCarrier => exact takeRequest_haltRules (provisionCarrierAnswer_keeps _ _ _ _ _ _)
  | deprovisionCarrier => exact takeRequest_haltRules (deprovisionCarrierAnswer_keeps _)
  | setFloor => exact takeRequest_haltRules (setFloorAnswer_keeps _ _ _)
  | setTimers => exact takeRequest_haltRules (setTimersAnswer_keeps _ _ _)
  | setDrainLimit => exact takeRequest_haltRules (setDrainLimitAnswer_keeps _ _)
  | setTime => exact takeRequest_haltRules (setTimeAnswer_keeps _)
  | writeWindow => exact takeRequest_haltRules (writeWindowAnswer_keeps _ _ _ _ _ _)
  | commitWindow => exact takeRequest_haltRules (commitWindowAnswer_keeps _)
  | writeChannel => exact takeRequest_haltRules (writeChannelAnswer_keeps _ _ _ _ _ _ _ _ _)
  | writeList => exact takeRequest_haltRules (writeListAnswer_keeps _ _ _)
  | mapCause => exact takeRequest_haltRules (mapCauseAnswer_keeps _ _ _ _)
  | clearCause => exact takeRequest_haltRules (clearCauseAnswer_keeps _)
  | setInput => exact takeRequest_haltRules (setInputAnswer_keeps _ _ _ _ _ _)
  | restart => exact execRestart_haltRules _ s
  | readSite => exact takeRequest_haltRules .refl
  | readCarrier => exact takeRequest_haltRules fun u => .of_eq (readCarrierAnswer_state _ u)
  | readBranch => exact takeRequest_haltRules fun u => .of_eq (readBranchAnswer_state _ u)
  | readWindow => exact takeRequest_haltRules fun u => .of_eq (readWindowAnswer_state _ u)
  | readChannel => exact takeRequest_haltRules fun u => .of_eq (readChannelAnswer_state _ u)
  | readCauses => exact takeRequest_haltRules .refl
  | readFaults => exact takeRequest_haltRules fun u => .of_eq (readFaultsAnswer_state _ u)
  | portReset => exact execPortReset_haltRules _ s
  | unknownRequestFrame => exact execUnknownRequestFrame_haltRules _ _ s
  | writeTransaction => exact execWriteTransaction_haltRules _ _ s
  | readTransaction => exact execReadTransaction_haltRules _ _ s
  | deviceReset => exact ⟨_, rfl, .inl rfl⟩
  | siteTimeAdvance => exact execSiteTimeAdvance_haltRules s
  | drainDeadlineExpiry => exact execDrainDeadlineExpiry_haltRules _ s
  | liveDeadlineExpiry => exact execLiveDeadlineExpiry_haltRules _ s
  | lingerDeadlineExpiry => exact execLingerDeadlineExpiry_haltRules _ s
  | rampDownDeadlineExpiry => exact execRampDownDeadlineExpiry_haltRules _ s
  | rampUpDeadlineExpiry => exact execRampUpDeadlineExpiry_haltRules _ s
  | donePulseEnd => exact (lines_haltFrame s _).keeps.after
  | bgdFall => exact execBgdFall_haltRules _ s
  | bgdRise => exact execBgdRise_haltRules _ s
  | evEdge => exact execEvEdge_haltRules _ _ s
  | holdawkEdge => exact execHoldawkEdge_haltRules _ s
  | channelStep => exact execChannelStep_haltRules _ s
  | endOfDeviceReset => exact execEndOfDeviceReset_haltRules s

/-- What a step can do to the Fault Stack and to SAFE_HALT. -/
theorem step_haltRules {s t : State} (h : step s = .next t) : t.stack = FaultStack.initial ∨ KeepsHaltRules s t := by
  unfold step at h
  split at h
  · cases h
    exact .inr (.refl s)
  · next c rest _ =>
    obtain ⟨u, hexec, hrules⟩ := exec_haltRules c { s with pending := rest }
    cases hexec.symm.trans h
    have hqueue : HaltFrame s { s with pending := rest } := .of_records rfl rfl rfl rfl
    exact hrules.imp_right hqueue.keeps.trans

/-! ## RESOLVE's checks -/

theorem asDisposition_outside {b : Byte} (h : 1 < b.toNat) : asDisposition b = none := by
  simp only [asDisposition, asOneOf, List.getElem?_eq_none_iff, List.length_cons, List.length_nil]
  omega

/-- A kind or a subject outside its coding (R169, R197). -/
theorem asFailure_outside {kind subject : Byte}
    (h : 3 < kind.toNat ∨ (kind.toNat < 3 ∧ 16 ≤ subject.toNat) ∨ (kind.toNat = 3 ∧ 48 ≤ subject.toNat)) :
    asFailure kind subject = none := by
  have hbranch (f : BranchId → Failure) (hs : kind.toNat < 3) : (asBranch subject).map f = none := by
    rw [asBranch_outside (by omega), Option.map_none]
  have hcarrier (f : CarrierId → Failure) (hs : kind.toNat = 3) : (asCarrier subject).map f = none := by
    rw [asCarrier_outside (by omega), Option.map_none]
  unfold asFailure
  split
  case isTrue hk => exact hbranch _ (by simp [hk])
  split
  case isTrue hk => exact hbranch _ (by simp [hk])
  split
  case isTrue hk => exact hbranch _ (by simp [hk])
  split
  case isTrue hk => exact hcarrier _ (by simp [hk])
  case isFalse => rfl

theorem resolveAnswer_range {kind subject disposition : Byte}
    (h : asFailure kind subject = none ∨ asDisposition disposition = none) (s : State) :
    resolveAnswer kind subject disposition s = .fail .range s := by
  obtain h | h := h <;> simp [resolveAnswer, h]

section Checks
variable {f : Failure} {d : Disposition} {s : State}

theorem resolveAnswer_empty (hempty : s.stack.records = []) :
    resolveAnswer f.kindCode f.subjectCode d.code s = .fail .state s := by
  simp [resolveAnswer, hempty]

variable {top : FaultRecord} {below : List FaultRecord}

theorem resolveAnswer_halted (hrecords : s.stack.records = top :: below) (hs : s.halted = true) :
    resolveAnswer f.kindCode f.subjectCode d.code s = .fail .halted s := by
  simp [resolveAnswer, hrecords, hs]

theorem resolveAnswer_stale (hrecords : s.stack.records = top :: below) (hs : s.halted = false)
    (hother : top.failure ≠ f) :
    resolveAnswer f.kindCode f.subjectCode d.code s =
      { state := s, status := .stale,
        payload := [top.failure.kindCode, top.failure.subjectCode, byteOf (below.length + 1)] } := by
  simp [resolveAnswer, hrecords, hs, hother]

end Checks

/-! ## The statements -/

/-- Settles O27: the four checks, each on the state after the taking, which holds the Fault Stack of the state before. -/
theorem resolveIsChecked : Obligations.ResolveIsChecked := by
  unfold Obligations.ResolveIsChecked
  refine ⟨fun kind subject disposition s h hrange => ?range, fun f d s h => ⟨fun hempty => ?state,
    fun top below hrecords => ⟨fun hs => ?halted, fun hs hother => ?stale⟩⟩⟩
  case range =>
    have hnone : asFailure kind subject = none ∨ asDisposition disposition = none := by
      obtain hkind | hdisposition | hbranch | hcarrier := hrange
      · exact .inl (asFailure_outside (.inl hkind))
      · exact .inr (asDisposition_outside hdisposition)
      · exact .inl (asFailure_outside (.inr (.inl hbranch)))
      · exact .inl (asFailure_outside (.inr (.inr hcarrier)))
    exact exec_turnedAway rfl rfl rfl h (resolveAnswer_range hnone _)
  case state => exact exec_turnedAway rfl rfl rfl h (resolveAnswer_empty hempty)
  case halted => exact exec_turnedAway rfl rfl rfl h (resolveAnswer_halted hrecords hs)
  case stale => exact exec_answered rfl rfl rfl h (resolveAnswer_stale hrecords hs hother)

/-- Settles O53: a step is a device reset, after which the stack is empty, or keeps the rules of the stack. -/
theorem theStackStaysBoundedAndIsFrozenInAHalt : Obligations.TheStackStaysBoundedAndIsFrozenInAHalt := by
  unfold Obligations.TheStackStaysBoundedAndIsFrozenInAHalt
  refine ⟨fun s t hbounded hstep => ?bounded, fun s t hs hstep => ?frozen⟩
  case bounded =>
    obtain hreset | hkeeps := step_haltRules hstep
    · simp [StackBounded, hreset, FaultStack.initial]
    · exact hkeeps.bounded hbounded
  case frozen =>
    obtain hreset | hkeeps := step_haltRules hstep
    · exact .inl (by rw [hreset]; rfl)
    · obtain ⟨-, hsettle⟩ := hkeeps.frozen hs
      exact .inr hsettle

/-- Settles O54: a step is a device reset, which ends SAFE_HALT, or keeps SAFE_HALT quiet: entry into it stops what
R178 names, and nothing of it begins there. -/
theorem aHaltStaysQuiet : Obligations.AHaltStaysQuiet := by
  unfold Obligations.AHaltStaysQuiet
  intro s t hquiet hstep
  obtain hreset | hkeeps := step_haltRules hstep
  · simp [HaltQuiet, State.halted, hreset, FaultStack.initial]
  · exact hkeeps.quiet hquiet

end Sys2Proof.Machine

/-!
SUPPORT. The arrival of a frame at a port (R186): what it leaves unchanged, and its two cases by the places of the
inbound queue; a whole write select period as that arrival; and the statement about it: O4.
-/
namespace Sys2Proof.Machine
open Sys2Proof

/-! ## Arrival -/

section Arrival
variable {q : PortState} {frame : List Byte}

/-- A free place: the frame goes to the back of the queue, whatever its bytes. -/
theorem arrive_of_room (h : q.inbound.length < 4) : q.arrive frame = { q with inbound := q.inbound ++ [frame] } :=
  if_pos h

/-- No free place: only the overrun mark tells of the frame. -/
theorem arrive_of_full (h : 4 ≤ q.inbound.length) : q.arrive frame = { q with overrun := true } :=
  if_neg (Nat.not_lt.mpr h)

/-- Arrival changes nothing of a port but its inbound queue and its overrun mark. -/
theorem arrive_frame (q : PortState) (frame : List Byte) :
    q.arrive frame = { q with inbound := (q.arrive frame).inbound, overrun := (q.arrive frame).overrun } := by
  obtain hroom | hfull := Nat.lt_or_ge q.inbound.length 4
  · rw [arrive_of_room hroom]
  · rw [arrive_of_full hfull]

@[simp] theorem arrive_replies : (q.arrive frame).replies = q.replies := by rw [arrive_frame]

@[simp] theorem arrive_notices : (q.arrive frame).notices = q.notices := by rw [arrive_frame]

@[simp] theorem arrive_overflow : (q.arrive frame).overflow = q.overflow := by rw [arrive_frame]

@[simp] theorem arrive_selected : (q.arrive frame).selected = q.selected := by rw [arrive_frame]

end Arrival

/-! ## A whole write select period -/

/-- The bytes of a whole write select period make one frame, which arrives at the release (R184, R186). -/
theorem exec_writeTransaction_whole {p : Port} {first : Byte} {s : State} (hfirst : first ≠ 0x00#8)
    (hrunning : s.resetting = false) (hidle : (s.port p).selected = none) (rest : List Byte) :
    exec (.writeTransaction p (.whole (first :: rest))) s
      = .next (s.setPort p ((s.port p).written (first :: rest))) := by
  have hkind : (s.port p).kindAfter false .undecided (first :: rest) = .write (first :: rest) := by
    simp [PortState.kindAfter, hfirst]
  have hperiod : s.wholePeriod p (first :: rest) = s.setPort p ((s.port p).endPeriod
      ((s.port p).clock false (s.port p).newPeriod (first :: rest))) := by
    simp [State.wholePeriod, PortState.periodBegun, hidle, hrunning]
  have hshifted : ((s.port p).clock false (s.port p).newPeriod (first :: rest)).shifted
      = ((s.port p).summary :: zeroBytes (first :: rest).length).take (first :: rest).length := by
    rw [clock_shifted, PortState.newPeriod, hkind]
    rfl
  show Host.Outcome.next (s.wholePeriod p (first :: rest)) = _
  rw [hperiod, endPeriod_write _ _ (first :: rest) hkind, hshifted, PortState.written]

section Written
variable {q : PortState} {frame : List Byte}

theorem written_of_room (h : q.inbound.length < 4) :
    (q.written frame).inbound = q.inbound ++ [frame] ∧ (q.written frame).overrun = q.overrun := by
  simp [PortState.written, arrive_of_room, h]

theorem written_of_full (h : 4 ≤ q.inbound.length) :
    (q.written frame).inbound = q.inbound ∧ (q.written frame).overrun = true := by
  simp [PortState.written, arrive_of_full, h]

/-- READY after a write that found a free place: deasserted exactly where the queue becomes full (R191). -/
theorem ready_setPort_written {p : Port} {s : State} (hrunning : s.resetting = false) (hroom : q.inbound.length < 4) :
    (s.setPort p (q.written frame)).ready p = decide (q.inbound.length < 3) := by
  obtain ⟨hinbound, -⟩ := written_of_room (frame := frame) hroom
  have hplaces : q.inbound.length + 1 < 4 ↔ q.inbound.length < 3 := Nat.succ_lt_succ_iff
  simp [State.ready, Config.inboundPlaces, hinbound, hrunning, hplaces]

end Written

/-! ## The statement -/

/-- Settles O4: the select period writes its port with the arrival of its frame, which finds a free place or not. -/
theorem aWrittenFrameIsQueuedOrDiscarded : Obligations.AWrittenFrameIsQueuedOrDiscarded := by
  unfold Obligations.AWrittenFrameIsQueuedOrDiscarded
  intro p first rest s hfirst hrunning hidle
  refine ⟨_, exec_writeTransaction_whole hfirst hrunning hidle rest, ⟨rfl, rfl, rfl, rfl, rfl, rfl, rfl, rfl⟩,
    fun r hr => ?others, rfl, hrunning, ?port⟩
  case others => rw [port_setPort, if_neg hr]
  case port =>
    rw [port_setPort, if_pos rfl]
    refine ⟨arrive_replies, arrive_notices, arrive_overflow, arrive_selected, fun hroom => ?room, written_of_full⟩
    case room =>
      obtain ⟨hqueued, hmark⟩ := written_of_room hroom
      exact ⟨hqueued, hmark, ready_setPort_written hrunning hroom⟩

end Sys2Proof.Machine

/-!
SUPPORT. Invariants of the blocks' work. `KeptByWork P` lists the elementary updates that the blocks' operations are made
of (what happens to a carrier record, to a branch record with the arbiter's, to a channel), each with the facts under
which it is made; a property that keeps under each of them keeps under every operation of the blocks, one lemma per
operation.
-/
namespace Sys2Proof.Machine
open Sys2Proof

/-! ## Elementary updates -/

/-- A level that R18 gives a wake; it is asked for where `strict` holds. -/
def LevelOk (strict : Prop) (level : Nat) : Prop := strict → 1 ≤ level ∧ level ≤ 7

/-- What the blocks do to one carrier record, provisioning and site time apart. -/
inductive CarrierMove (strict : Prop) (r : Carrier) : Carrier → Prop
  | offer (h : r.provision.isSome = true) : CarrierMove strict r { r with offered := true }
  | withdraw (ho : r.offered = true) (hs : r.state ≠ .draining) : CarrierMove strict r { r with offered := false }
  | drain (now time : Nat) (k : ChannelId) (hs : r.state = .on) (ho : r.offered = true) (hc : r.claims = 0#5) :
      CarrierMove strict r
        { r with state := .draining, drainDeadline := some (secondsAfter now time), drainChannel := some k }
  | cancel (set : BitVec 5) (reason : CancelReason) (hs : r.state = .draining) :
      CarrierMove strict r ({ r with claims := set }.cancelled reason)
  | rest (hs : r.state = .draining) : CarrierMove strict r r.rest
  | unmute (now time : Nat) (hs : r.state = .waking) :
      CarrierMove strict r { r with liveDeadline := some (secondsAfter now time), unmuteSent := true }
  | wake (level : Nat) (hs : r.state = .resting) (hl : LevelOk strict level) : CarrierMove strict r (r.woken level)
  | pend (level : Nat) (hs : r.state = .resting ∨ r.state = .barred) (hl : LevelOk strict level) :
      CarrierMove strict r { r with pendingWake := max r.pendingWake level }
  | raise (level : Nat) (hs : r.state = .waking) (hl : LevelOk strict level) :
      CarrierMove strict r { r with wakeLevel := some level }
  | losePower (hs : r.state = .on ∨ r.state = .draining) : CarrierMove strict r r.lostPower
  | mute (hs : r.state = .waking) : CarrierMove strict r { r with unmuteSent := false, liveDeadline := none }
  | barResting (hs : r.state = .resting) : CarrierMove strict r { r with state := .barred }
  | barWaking (hs : r.state = .waking) :
      CarrierMove strict r
        { r with state := .barred, pendingWake := r.wakeLevel.getD 0, wakeLevel := none, liveDeadline := none,
                 unmuteSent := false }
  | restore (hs : r.state = .barred) : CarrierMove strict r { r with state := .resting }
  | live (hs : r.state = .waking) : CarrierMove strict r r.live
  | claim (set : BitVec 5) (hs : r.state ≠ .vacant) (hd : r.state ≠ .draining) :
      CarrierMove strict r { r with claims := set }
  | unclaim (m : Claimant) (hs : r.state ≠ .vacant) : CarrierMove strict r { r with claims := dropClaim r.claims m }
  | timeout (hs : r.state = .waking) : CarrierMove strict r { r with liveDeadline := none }

/-- What the blocks do to one branch record while the arbiter's record stays, provisioning and site time apart. -/
inductive BranchMove (strict : Prop) (r : Branch) : Branch → Prop
  | enter (mode : LineMode) (state : BranchState)
      (hs : r.state ∈ [.powered, .settling, .lowering, .faulted, .out, .dark])
      (ht : state ∈ [.powered, .dark, .faulted, .out]) :
      BranchMove strict r ({ r with lineMode := mode }.enter state)
  | settle (now linger : Nat) (hs : r.state = .powered) :
      BranchMove strict r { r.enter .settling with lingerDeadline := some (secondsAfter now linger) }
  | expire (hs : r.state = .settling) : BranchMove strict r { r with lingerDeadline := none, lingerExpired := true }
  | lower (now limit : Nat) (hs : r.state = .settling ∨ r.state = .faulted) :
      BranchMove strict r { r.enter .lowering with rampDeadline := some (secondsAfter now limit) }
  | seen (hs : r.state = .lowering) : BranchMove strict r { r with wakeSeen := true }
  | raise (level : Nat) (hs : r.state = .raising) (hl : LevelOk strict level) :
      BranchMove strict r { r with raiseLevel := max r.raiseLevel level }
  | mode (mode : LineMode) : BranchMove strict r { r with lineMode := mode }

/-- The records that the elementary updates speak of are as they were. -/
structure Aside (s t : State) : Prop where
  carriers : t.table.carriers = s.table.carriers
  branches : t.ctrl.branches = s.ctrl.branches
  arb : t.arb = s.arb
  timer : t.timer = s.timer
  rest : t.rest = s.rest
  inputs : t.lines.inputs = s.lines.inputs
  halted : t.halted = s.halted

/-- The branch is QUEUED at a level, and its entry placed (R60, R92). -/
def State.queuedAt (s : State) (b : BranchId) (level : Nat) : State :=
  (s.setBranch b { (s.branch b).enter .queued with raiseLevel := level }).setArb
    { s.arb with
      queue := placeEntry { branch := b, level := level, stamp := s.arb.entryCounter } s.arb.queue,
      entryCounter := s.arb.entryCounter + 1 }

/-- A QUEUED branch and its entry at a higher level (R93). -/
def State.raisedTo (s : State) (b : BranchId) (level : Nat) : State :=
  (s.setBranch b { s.branch b with raiseLevel := level }).setArb
    { s.arb with queue := raiseEntry b level s.arb.queue }

/-- The branch holds a grant and is RAISING (R65, R94). -/
def State.granted (s : State) (b : BranchId) (g : Grant) : State :=
  (s.setArb (s.arb.give b g)).setBranch b
    { (s.branch b).enter .raising with
      raiseLevel := (s.branch b).raiseLevel, grant := g, rampDeadline := some (secondsAfter s.now s.ctrl.rampUp) }

/-- The branch has left RAISING and its grant is released (R66, R67, R96). -/
def State.released (s : State) (b : BranchId) (state : BranchState) : State :=
  (s.enterBranch b state).setArb (s.arb.drop b (s.branch b).grant)

/-- The channel record that SAFE_HALT leaves (R140). -/
def Channel.stopped (ch : Channel) : Channel :=
  { ch with state := .idle, quota := 0, pendingStart := none, waiting := none }

/-- A channel that reads the entry at its pointer: at a step or at a retry (R127, R129). -/
def Channel.Reads (ch : Channel) : Prop := ch.state = .stepping ∨ ch.state = .blocked

/-- The property keeps under the elementary updates of the carrier and branch records, the arbiter's record apart. -/
structure KeptByRecords (strict : Prop) (P : State → Prop) : Prop where
  aside : ∀ {s t}, P s → Aside s t → P t
  carrier : ∀ {s c r}, P s → CarrierMove strict (s.carrier c) r → P (s.setCarrier c r)
  branch : ∀ {s b r}, P s → BranchMove strict (s.branch b) r → P (s.setBranch b r)

/-- The property keeps under each single update of the arbiter's record too, and so while the arbiter considers grants. -/
structure KeptByGrants (strict : Prop) (P : State → Prop) : Prop extends KeptByRecords strict P where
  queue : ∀ {s b level}, P s → LevelOk strict level → (s.branch b).state ∈ [.lowering, .dark, .faulted] →
    P (s.queuedAt b level)
  raise : ∀ {s b level}, P s → LevelOk strict level → (s.branch b).state = .queued → (s.branch b).raiseLevel < level →
    P (s.raisedTo b level)
  grant : ∀ {s e g}, P s → s.arb.nextGrant = some (e, g) → P (s.granted e.branch g)
  release : ∀ {s b state}, P s → (s.branch b).state = .raising → state = .powered ∨ state = .faulted →
    P (s.released b state)

/-- The property keeps under every update of the blocks, where the arbiter's are those that end with its grants
considered. -/
structure KeptByWork (strict : Prop) (P : State → Prop) : Prop extends KeptByRecords strict P where
  enterQueued : ∀ {s b level}, P s → LevelOk strict level → (s.branch b).state ∈ [.lowering, .dark, .faulted] →
    P (s.enterQueued b level)
  raiseQueued : ∀ {s b level}, P s → LevelOk strict level → (s.branch b).state = .queued → P (s.raiseQueued b level)
  powerGood : ∀ {s b}, P s → (s.branch b).state = .raising → P (s.powerGood State.considerGrants b)
  failRaise : ∀ {s b}, P s → (s.branch b).state = .raising →
    P ((s.enterBranch b .faulted).releaseGrant b (s.branch b).grant)
  decline : ∀ {s k reason}, P s → (s.channel k).Reads → P (s.entryDeclined k reason)
  entry : ∀ {s k}, P s → (s.channel k).Reads →
    P (s.entryProcessed k { s.channel k with outstanding := (s.channel k).outstanding + 1 })
  wait : ∀ {s k t}, P s → (s.channel k).Reads →
    P (s.setChannel k { s.channel k with state := .blocked, waiting := some t })
  outcome : ∀ {s k o}, P s → P (s.drainOutcome k o)
  deliverStart : ∀ {s k source}, P s → s.halted = false → P (s.deliverStart k source)
  stop : ∀ {s k}, P s → s.halted = true → P (s.setChannel k (s.channel k).stopped)
  halt : ∀ {s cause}, P s → s.halted = false → P (s.setStack { s.stack with halt := some cause })
  pendingLevel : ∀ {s c}, strict → P s → (s.carrier c).pendingWake ≤ 7
  wakeLevel : ∀ {s c l}, strict → P s → (s.carrier c).wakeLevel = some l → 1 ≤ l ∧ l ≤ 7

/-! ## Levels and folds -/

theorem levelOk_seven (strict : Prop) : LevelOk strict 7 := fun _ => by decide

theorem levelOk_one (strict : Prop) : LevelOk strict 1 := fun _ => by decide

theorem foldl_keeps {α : Type} (P : State → Prop) {f : State → α → State} (hf : ∀ u a, P u → P (f u a)) (l : List α)
    {s : State} (hs : P s) : P (l.foldl f s) := by
  induction l generalizing s with
  | nil => exact hs
  | cons a l ih => exact ih (hf s a hs)

@[simp] theorem setCarrier_setCarrier (s : State) (c : CarrierId) (r r' : Carrier) :
    (s.setCarrier c r).setCarrier c r' = s.setCarrier c r' := by
  simp [State.setCarrier]

@[simp] theorem setBranch_setBranch (s : State) (b : BranchId) (r r' : Branch) :
    (s.setBranch b r).setBranch b r' = s.setBranch b r' := by
  simp [State.setBranch]

/-- Ports, lines but the inputs, and the Fault Stack's records stand aside. -/
theorem Aside.refl (s : State) : Aside s s := ⟨rfl, rfl, rfl, rfl, rfl, rfl, rfl⟩

theorem post_aside (s : State) (p : Port) (n : Notice) : Aside s (s.post p n) := ⟨rfl, rfl, rfl, rfl, rfl, rfl, rfl⟩

theorem setPort_aside (s : State) (p : Port) (q : PortState) : Aside s (s.setPort p q) :=
  ⟨rfl, rfl, rfl, rfl, rfl, rfl, rfl⟩

theorem setSlot_aside (s : State) (k : SlotId) (r : CauseSlot) : Aside s (s.setSlot k r) :=
  ⟨rfl, rfl, rfl, rfl, rfl, rfl, rfl⟩

theorem setRestHold_aside (s : State) (inEffect : Bool) : Aside s (s.setRestHold inEffect) :=
  ⟨rfl, rfl, rfl, rfl, rfl, rfl, rfl⟩

/-- Records pushed, settled or removed. -/
theorem setStack_aside {s : State} {f : FaultStack} (h : f.halt = s.stack.halt) : Aside s (s.setStack f) :=
  ⟨rfl, rfl, rfl, rfl, rfl, rfl, by simp [State.halted, h]⟩

/-! ## Branches -/

namespace KeptByRecords
section Operations
variable {strict : Prop} {P : State → Prop} (h : KeptByRecords strict P) {s : State}
include h

theorem post (hs : P s) (p : Port) (n : Notice) : P (s.post p n) := h.aside hs (post_aside s p n)

theorem postOwner (hs : P s) (c : CarrierId) (n : Notice) : P (s.postOwner c n) := by
  unfold State.postOwner
  split
  · exact hs
  · exact h.post hs _ n

theorem sendUnmute (hs : P s) {c : CarrierId} (hc : (s.carrier c).state = .waking) : P (s.sendUnmute c) :=
  h.postOwner (h.carrier hs (.unmute _ _ hc)) c _

theorem reportPowered (hs : P s) (b : BranchId) : P (s.reportPowered b) := by
  refine foldl_keeps P (fun u c hu => ?_) _ hs
  unfold State.unmuteMember
  split
  case isTrue hwaking =>
    obtain ⟨hwaking, -⟩ := hwaking
    exact h.sendUnmute hu hwaking
  case isFalse => exact hu

theorem enterBranch (hs : P s) {b : BranchId} {state : BranchState}
    (hb : (s.branch b).state ∈ [.powered, .settling, .lowering, .faulted, .out, .dark])
    (ht : state ∈ [.powered, .dark, .faulted, .out]) : P (s.enterBranch b state) :=
  h.branch hs (.enter (s.branch b).lineMode state hb ht)

theorem beginLowering (hs : P s) {b : BranchId} (hb : (s.branch b).state = .settling ∨ (s.branch b).state = .faulted) :
    P (s.beginLowering b) := h.branch hs (.lower _ _ hb)

theorem lingerExpires (hs : P s) {b : BranchId} (hb : (s.branch b).state = .settling) : P (s.lingerExpires b) := by
  unfold State.lingerExpires
  split
  · exact h.branch hs (.expire hb)
  · exact h.beginLowering hs (.inl hb)

theorem settleTest (hs : P s) (b : BranchId) : P (s.settleTest b) := by
  unfold State.settleTest
  split
  case isFalse => exact hs
  case isTrue hmet =>
    have hpowered : (s.branch b).state = .powered := by simp_all [State.settleConditions]
    have hsettled := h.branch hs (.settle s.now s.ctrl.linger hpowered)
    unfold State.enterSettling
    dsimp only
    split
    · exact h.lingerExpires hsettled (by simp)
    · exact hsettled

theorem endRestHold (hs : P s) : P s.endRestHold := by
  refine foldl_keeps P (fun u b hu => ?_) branchIds (h.aside hs (setRestHold_aside s false))
  unfold State.lowerIfHeld
  split
  case isTrue hsettling =>
    obtain ⟨hsettling, -⟩ := hsettling
    exact h.beginLowering hu (.inl hsettling)
  case isFalse => exact hu

end Operations
end KeptByRecords

/-! ## Grants -/

/-- A property that neither the branch records nor the arbiter's bear on. -/
theorem KeptByRecords.grants {strict : Prop} {P : State → Prop} (h : KeptByRecords strict P)
    (branch : ∀ {s b r}, P s → P (s.setBranch b r)) (arb : ∀ {s a}, P s → P (s.setArb a)) : KeptByGrants strict P where
  toKeptByRecords := h
  queue hs _ _ := arb (branch hs)
  raise hs _ _ _ := arb (branch hs)
  grant hs _ := branch (arb hs)
  release hs _ _ := arb (branch hs)

namespace KeptByGrants
section Operations
variable {strict : Prop} {P : State → Prop} (h : KeptByGrants strict P) {s : State}
include h

theorem powerGood {consider : State → State} (hc : ∀ u, P u → P (consider u)) (hs : P s) {b : BranchId}
    (hb : (s.branch b).state = .raising) : P (s.powerGood consider b) :=
  h.settleTest (h.reportPowered (hc _ (h.release hs hb (.inl rfl))) b) b

theorem takeGrant {consider : State → State} (hc : ∀ u, P u → P (consider u)) (hs : P s) {e : QueueEntry} {g : Grant}
    (hg : s.arb.nextGrant = some (e, g)) : P (s.takeGrant consider e.branch g) := by
  have hgranted := h.grant hs hg
  unfold State.takeGrant
  dsimp only
  split
  · exact h.powerGood hc hgranted (by simp [State.granted])
  · exact hgranted

theorem considerGrantsUpTo (n : Nat) (hs : P s) : P (considerGrantsUpTo n s) := by
  induction n generalizing s with
  | zero => exact hs
  | succ n ih =>
    unfold Machine.considerGrantsUpTo
    split
    · exact hs
    · next hg => exact ih (h.takeGrant (fun u hu => ih hu) hs hg)

theorem considerGrants (hs : P s) : P s.considerGrants := h.considerGrantsUpTo _ hs

theorem enterQueued {b : BranchId} {level : Nat} (hs : P s) (hl : LevelOk strict level)
    (hb : (s.branch b).state ∈ [.lowering, .dark, .faulted]) : P (s.enterQueued b level) :=
  h.considerGrants (h.queue hs hl hb)

theorem raiseQueued {b : BranchId} {level : Nat} (hs : P s) (hl : LevelOk strict level)
    (hb : (s.branch b).state = .queued) : P (s.raiseQueued b level) := by
  unfold State.raiseQueued
  dsimp only
  split
  case isTrue hlevel => exact h.considerGrants (h.raise hs hl hb hlevel)
  case isFalse => exact hs

theorem powerGood_considered {b : BranchId} (hs : P s) (hb : (s.branch b).state = .raising) :
    P (s.powerGood State.considerGrants b) := h.powerGood (fun _ hu => h.considerGrants hu) hs hb

theorem failRaise {b : BranchId} (hs : P s) (hb : (s.branch b).state = .raising) :
    P ((s.enterBranch b .faulted).releaseGrant b (s.branch b).grant) := h.considerGrants (h.release hs hb (.inr rfl))

end Operations
end KeptByGrants

namespace KeptByWork

section Operations
variable {strict : Prop} {P : State → Prop} (h : KeptByWork strict P) {s : State}
include h

/-! ## Drains -/

theorem reportOutcome (hs : P s) (k : Option ChannelId) (o : DrainOutcome) : P (s.reportOutcome k o) := by
  unfold State.reportOutcome
  split
  · exact hs
  · exact h.outcome hs

end Operations
end KeptByWork

/-- A drain is started only for a carrier that is ON, offered and unclaimed (R8). -/
theorem eligible_of_started {s : State} {c : CarrierId} (h : s.drainAnswer c = .started) :
    (s.carrier c).state = .on ∧ (s.carrier c).offered = true ∧ (s.carrier c).claims = 0#5 := by
  unfold State.drainAnswer at h
  dsimp only at h
  split at h
  · cases h
  · split at h
    · cases h
    · repeat' split at h
      all_goals simp_all

namespace KeptByWork
section Operations
variable {strict : Prop} {P : State → Prop} (h : KeptByWork strict P) {s : State}
include h

theorem startDrain (hs : P s) {c : CarrierId} (k : ChannelId) (hc : s.drainAnswer c = .started) :
    P (s.startDrain c k) := by
  obtain ⟨hon, hoffered, hclaims⟩ := eligible_of_started hc
  exact h.postOwner (h.carrier hs (.drain _ _ k hon hoffered hclaims)) c _

theorem processEntry (hs : P s) {k : ChannelId} (hk : (s.channel k).Reads) : P (s.processEntry k) := by
  unfold State.processEntry
  split
  · exact h.decline hs hk
  · next c _ =>
    split
    · next hstarted =>
      have hchannel : (s.startDrain c k).channel k = s.channel k := by
        unfold State.startDrain State.postOwner
        dsimp only
        split <;> rfl
      exact h.entry (h.startDrain hs k hstarted) (hchannel ▸ hk)
    · exact h.decline hs hk
    · exact h.wait hs hk

theorem offerSlots (hs : P s) (t : TenantId) : P (s.offerSlots t) := by
  refine foldl_keeps P (fun u k hu => ?_) channelIds hs
  unfold State.offerSlotTo
  split
  case isTrue hwaits =>
    obtain ⟨hwaits, -⟩ := hwaits
    have hblocked : (u.channel k).state = .blocked := by simp_all [Channel.waitsOn]
    exact h.processEntry hu (.inr hblocked)
  case isFalse => exact hu

theorem offerOwnersSlots (hs : P s) (c : CarrierId) : P (s.offerOwnersSlots c) := by
  unfold State.offerOwnersSlots
  split
  · exact hs
  · exact h.offerSlots hs _

theorem cancelDrain (hs : P s) {c : CarrierId} (hc : (s.carrier c).state = .draining) (reason : CancelReason) :
    P (s.cancelDrain c reason) :=
  h.reportOutcome (h.postOwner (h.carrier hs (.cancel (s.carrier c).claims reason hc)) c _) _ _

theorem cancelAndOffer (hs : P s) {c : CarrierId} (hc : (s.carrier c).state = .draining) (reason : CancelReason) :
    P (s.cancelAndOffer c reason) := h.offerOwnersSlots (h.cancelDrain hs hc reason) c

/-! ## Reports -/

theorem memberWaking (hs : P s) {level : Nat} (hl : LevelOk strict level) (b : BranchId) :
    P (s.memberWaking b level) := by
  unfold State.memberWaking
  dsimp only
  split
  · exact h.reportPowered hs b
  · next hb => exact h.reportPowered (h.enterBranch hs (by simp [hb]) (by simp)) b
  · next hb => exact h.branch hs (.seen hb)
  · next hb => exact h.enterQueued hs hl (by simp [hb])
  · next hb => exact h.raiseQueued hs hl hb
  · next hb => exact h.branch hs (.raise level hb hl)
  all_goals exact hs

theorem memberRaised (hs : P s) {level : Nat} (hl : LevelOk strict level) (b : BranchId) :
    P (s.memberRaised b level) := by
  unfold State.memberRaised
  dsimp only
  split
  · next hb => exact h.raiseQueued hs hl hb
  · next hb => exact h.branch hs (.raise level hb hl)
  all_goals exact hs

end Operations
end KeptByWork

/-- The level that a report names. -/
def MemberReport.level : MemberReport → Nat
  | .waking _ level => level
  | .raised _ level => level

/-- The highest wake level of the WAKING members is a wake level, or 0 where none is WAKING (R63). -/
theorem highestWake_le {strict : Prop} {P : State → Prop} (h : KeptByWork strict P) {s : State} (hs : P s)
    (b : BranchId) : strict → s.highestWake b ≤ 7 := by
  intro hstrict
  refine List.foldlRecOn (motive := fun m => m ≤ 7) _ _ (Nat.zero_le 7) fun m hm c _ => ?_
  split
  · refine Nat.max_le.mpr ⟨hm, ?_⟩
    cases hl : (s.carrier c).wakeLevel with
    | none => exact Nat.zero_le 7
    | some l => exact (h.wakeLevel hstrict hs hl).2
  · exact hm

namespace KeptByWork
section Operations
variable {strict : Prop} {P : State → Prop} (h : KeptByWork strict P) {s : State}
include h

theorem memberReport (hs : P s) {report : MemberReport} (hl : LevelOk strict report.level) :
    P (s.memberReport report) := by
  cases report with
  | waking b level => exact h.memberWaking hs hl b
  | raised b level => exact h.memberRaised hs hl b

theorem levelOk_highestWake (hs : P s) (b : BranchId) : LevelOk strict (max 1 (s.highestWake b)) :=
  fun hstrict => ⟨Nat.le_max_left _ _, Nat.max_le.mpr ⟨by decide, highestWake_le h hs b hstrict⟩⟩

theorem goDark (hs : P s) {b : BranchId} (hb : (s.branch b).state = .lowering) : P (s.goDark b) := by
  have hdark := h.enterBranch hs (b := b) (state := .dark) (by simp [hb]) (by simp)
  unfold State.goDark
  dsimp only
  split
  · exact h.enterQueued hdark (h.levelOk_highestWake hdark b) (by simp [State.enterBranch])
  · exact hdark

/-! ## Wakes -/

/-- One wake keeps the property, and the report it owes names a wake level. -/
theorem wakeCarrier (hs : P s) (c : CarrierId) {level : Nat} (hl : LevelOk strict level) :
    P (s.wakeCarrier c level).state ∧ ∀ report ∈ (s.wakeCarrier c level).report, LevelOk strict report.level := by
  have hlevel (f : BranchId → MemberReport) (hf : ∀ b, (f b).level = level) :
      ∀ report ∈ (s.carrier c).reportWith f, LevelOk strict report.level := by
    intro report hreport
    obtain ⟨pv, -, rfl⟩ := Option.map_eq_some_iff.mp hreport
    exact (hf _).symm ▸ hl
  unfold State.wakeCarrier
  dsimp only
  split
  · exact ⟨hs, by simp⟩
  · exact ⟨hs, by simp⟩
  · next hstate => exact ⟨h.cancelDrain hs hstate .wake, by simp⟩
  · next hstate =>
    split
    · exact ⟨h.carrier hs (.wake level hstate hl), hlevel (.waking · level) fun _ => rfl⟩
    · exact ⟨h.carrier hs (.pend level (.inl hstate) hl), by simp⟩
  · next hstate =>
    split
    · exact ⟨h.carrier hs (.raise level hstate hl), hlevel (.raised · level) fun _ => rfl⟩
    · exact ⟨hs, by simp⟩
  · next hstate => exact ⟨h.carrier hs (.pend level (.inr hstate) hl), by simp⟩

end Operations
end KeptByWork

/-- The state of a round in progress has the property, and the reports it owes name wake levels. -/
def WakeRound.Kept (strict : Prop) (P : State → Prop) (w : WakeRound) : Prop :=
  P w.state ∧ ∀ report ∈ w.reports, LevelOk strict report.level

theorem start_kept {strict : Prop} {P : State → Prop} {s : State} (hs : P s) : (WakeRound.start s).Kept strict P :=
  ⟨hs, by simp [WakeRound.start]⟩

theorem foldl_kept {strict : Prop} {P : State → Prop} {f : WakeRound → CarrierId → WakeRound}
    (hf : ∀ w c, w.Kept strict P → (f w c).Kept strict P) (l : List CarrierId) {w : WakeRound} (hw : w.Kept strict P) :
    (l.foldl f w).Kept strict P := by
  induction l generalizing w with
  | nil => exact hw
  | cons c l ih => exact ih (hf w c hw)

namespace KeptByWork
section Rounds
variable {strict : Prop} {P : State → Prop} (h : KeptByWork strict P)
include h

theorem deliver {w : WakeRound} (hw : w.Kept strict P) (c : CarrierId) {level : Nat} (hl : LevelOk strict level) :
    (w.deliver c level).Kept strict P := by
  obtain ⟨hs, hreports⟩ := hw
  obtain ⟨hs', hreport⟩ := h.wakeCarrier hs c hl
  refine ⟨hs', fun report hmem => ?_⟩
  obtain hold | hnew := List.mem_append.mp hmem
  · exact hreports report hold
  · exact hreport report (Option.mem_toList.mp hnew)

/-- A wake at the pending wake of a record that holds one. -/
theorem deliverPending {w : WakeRound} (hw : w.Kept strict P) {c : CarrierId} (hp : (w.state.carrier c).pendingWake ≠ 0) :
    (w.deliver c (w.state.carrier c).pendingWake).Kept strict P :=
  h.deliver hw c fun hstrict => ⟨Nat.one_le_iff_ne_zero.mpr hp, h.pendingLevel hstrict hw.1⟩

theorem finish {w : WakeRound} (hw : w.Kept strict P) : P w.finish := by
  obtain ⟨hs, hreports⟩ := hw
  have hoffered : P (w.freed.foldl (fun s c => s.offerOwnersSlots c) w.state) :=
    foldl_keeps P (fun u c hu => h.offerOwnersSlots hu c) w.freed hs
  exact List.foldlRecOn (motive := P) _ _ hoffered fun u hu report hreport =>
    h.memberReport hu (hreports report hreport)

theorem wakeRound {s : State} (hs : P s) (reaches : Carrier → Bool) {level : Nat} (hl : LevelOk strict level) :
    (s.wakeRound reaches level).Kept strict P := by
  unfold State.wakeRound WakeRound.deliverAll
  refine foldl_kept (fun w c hw => ?_) carrierIds (start_kept hs)
  split
  · exact h.deliver hw c hl
  · exact hw

theorem wakeOne {s : State} (hs : P s) (c : CarrierId) {level : Nat} (hl : LevelOk strict level) :
    P (s.wakeOne c level) := h.finish (h.deliver (start_kept hs) c hl)

end Rounds

section Events
variable {strict : Prop} {P : State → Prop} (h : KeptByWork strict P) {s : State}
include h

/-! ## SAFE_HALT -/

theorem carriersHaltReaction (hs : P s) : P s.carriersHaltReaction := by
  refine h.finish (h.wakeRound (foldl_keeps P (fun u c hu => ?_) carrierIds hs) _ (levelOk_seven strict))
  unfold State.haltCancel
  split
  case isTrue hdraining => exact h.cancelAndOffer hu hdraining .halt
  case isFalse => exact hu

theorem branchesHaltReaction (hs : P s) : P s.branchesHaltReaction := by
  refine foldl_keeps P (fun u b hu => ?_) branchIds hs
  unfold State.branchHaltReaction
  split
  · next hb => exact h.enterBranch hu (by simp [hb]) (by simp)
  · next hb => exact h.enterQueued hu (levelOk_seven strict) (by simp [hb])
  all_goals exact hu

theorem channelHaltReaction (hs : P s) (hhalted : s.halted = true) (k : ChannelId) : P (s.channelHaltReaction k) := by
  have hstopped := h.stop (k := k) hs hhalted
  unfold State.channelHaltReaction
  dsimp only
  split
  · exact hstopped
  · next source _ => cases source <;> exact hstopped

end Events
end KeptByWork

theorem channelHaltReaction_halted (s : State) (k : ChannelId) : (s.channelHaltReaction k).halted = s.halted := by
  unfold State.channelHaltReaction
  dsimp only
  split
  · rfl
  · next source _ => cases source <;> rfl

namespace KeptByWork
section Events
variable {strict : Prop} {P : State → Prop} (h : KeptByWork strict P) {s : State}
include h

theorem channelsHaltReaction (hs : P s) (hhalted : s.halted = true) : P s.channelsHaltReaction := by
  have hboth : P s.channelsHaltReaction ∧ s.channelsHaltReaction.halted = true :=
    foldl_keeps (fun u => P u ∧ u.halted = true) (fun u k hu => ⟨h.channelHaltReaction hu.1 hu.2 k, (channelHaltReaction_halted u k).trans hu.2⟩) channelIds
      ⟨hs, hhalted⟩
  exact hboth.1

theorem haltReactions (hs : P s) (hhalted : s.halted = true) (order : HaltOrder) : P (s.haltReactions order) := by
  have hcarriers (u : State) (hu : u.halted = true) : u.carriersHaltReaction.halted = true :=
    (carriersHaltReaction_quiets.frame u).halted_eq.trans hu
  have hbranches (u : State) (hu : u.halted = true) : u.branchesHaltReaction.halted = true :=
    (branchesHaltReaction_quiets.frame u).halted_eq.trans hu
  cases order with
  | carriersBranchesChannels =>
    exact h.channelsHaltReaction (h.branchesHaltReaction (h.carriersHaltReaction hs)) (hbranches _ (hcarriers _ hhalted))
  | carriersChannelsBranches =>
    exact h.branchesHaltReaction (h.channelsHaltReaction (h.carriersHaltReaction hs) (hcarriers _ hhalted))
  | branchesCarriersChannels =>
    exact h.channelsHaltReaction (h.carriersHaltReaction (h.branchesHaltReaction hs)) (hcarriers _ (hbranches _ hhalted))
  | branchesChannelsCarriers =>
    exact h.carriersHaltReaction (h.channelsHaltReaction (h.branchesHaltReaction hs) (hbranches _ hhalted))
  | channelsCarriersBranches =>
    exact h.branchesHaltReaction (h.carriersHaltReaction (h.channelsHaltReaction hs hhalted))
  | channelsBranchesCarriers =>
    exact h.carriersHaltReaction (h.branchesHaltReaction (h.channelsHaltReaction hs hhalted))

theorem enterHalt (hs : P s) (hhalted : s.halted = false) (reason : HaltReason) : P (s.enterHalt reason) := by
  have hdrawn : P { s with haltDraws := s.haltDraws + 1 } := h.aside hs ⟨rfl, rfl, rfl, rfl, rfl, rfl, rfl⟩
  have hannounced : P ({ s with haltDraws := s.haltDraws + 1 }.announceHalt reason) :=
    foldl_keeps P (fun u p hu => h.post hu p _) allPorts (h.halt hdrawn hhalted (cause := { reason := reason, time := s.recordedTime }))
  exact h.haltReactions hannounced (by simp [State.halted, announceHalt_stack]) _

/-! ## Pushes and failures -/

theorem pushFault (hs : P s) (r : FaultRecord) : P (s.pushFault r) := by
  unfold State.pushFault
  split
  case isTrue => exact hs
  case isFalse hrunning =>
    split
    · exact h.post (h.aside hs (setStack_aside (f := { s.stack with records := r :: s.stack.records }) rfl)) _ _
    · exact h.enterHalt hs (Bool.eq_false_iff.mpr hrunning) _

theorem rampDownFails (hs : P s) {b : BranchId} (hb : (s.branch b).state = .lowering) : P (s.rampDownFails b) :=
  h.pushFault (h.enterBranch hs (by simp [hb]) (by simp)) _

theorem rampUpFails (hs : P s) {b : BranchId} (hb : (s.branch b).state = .raising) : P (s.rampUpFails b) :=
  h.pushFault (h.failRaise hs hb) _

theorem liveTimesOut (hs : P s) {c : CarrierId} (hc : (s.carrier c).state = .waking) : P (s.liveTimesOut c) :=
  h.pushFault (h.carrier hs (.timeout hc)) _

theorem memberLosesPower (hs : P s) (c : CarrierId) : P (s.memberLosesPower c) := by
  unfold State.memberLosesPower
  dsimp only
  split
  · next hc => exact h.carrier hs (.losePower (.inl hc))
  · next hc =>
    exact h.offerOwnersSlots (h.reportOutcome (h.postOwner (h.carrier hs (.losePower (.inr hc))) c _) _ _) c
  · next hc => exact h.carrier hs (.mute hc)
  all_goals exact hs

theorem carriersLosePower (hs : P s) (b : BranchId) : P (s.carriersLosePower b) := by
  have hlost := foldl_keeps P (fun u c hu => h.memberLosesPower hu c) (s.branch b).members hs
  have hnotified := foldl_keeps P (fun u c hu => h.postOwner hu c (.branchDown c b)) (s.branch b).members hlost
  refine List.foldlRecOn (motive := P) _ _ hnotified fun u hu report hreport => ?_
  obtain ⟨-, -, rfl⟩ := List.mem_map.mp hreport
  exact h.memberReport hu (levelOk_seven strict)

theorem losePower (hs : P s) {b : BranchId} (hb : (s.branch b).state = .powered ∨ (s.branch b).state = .settling) :
    P (s.losePower b) :=
  h.pushFault (h.carriersLosePower (h.enterBranch hs (by rcases hb with hb | hb <;> simp [hb]) (by simp)) b) _

/-! ## Resolutions -/

theorem resolveToPowered (hs : P s) {b : BranchId} (hb : (s.branch b).state = .faulted) : P (s.resolveToPowered b) := by
  have hpowered := h.enterBranch hs (b := b) (state := .powered) (by simp [hb]) (by simp)
  unfold State.resolveToPowered
  dsimp only
  split
  · exact h.settleTest (h.reportPowered hpowered b) b
  · exact h.losePower hpowered (.inl (by simp [State.enterBranch]))

theorem barMember (hs : P s) (b : BranchId) (c : CarrierId) : P (s.barMember b c) := by
  unfold State.barMember
  dsimp only
  split
  · next hc => exact h.postOwner (h.carrier hs (.barResting hc)) c _
  · next hc => exact h.postOwner (h.carrier hs (.barWaking hc)) c _
  all_goals exact hs

theorem retireBranch (hs : P s) {b : BranchId} (hb : (s.branch b).state = .faulted) : P (s.retireBranch b) :=
  foldl_keeps P (fun u c hu => h.barMember hu b c) _ (h.enterBranch hs (by simp [hb]) (by simp))

theorem disposeBranchFault (hs : P s) {b : BranchId} (hb : (s.branch b).state = .faulted) (kind : BranchFault)
    (d : Disposition) : P (s.disposeBranchFault kind b d) := by
  unfold State.disposeBranchFault
  split
  · split
    · exact h.beginLowering hs (.inr hb)
    · exact h.resolveToPowered hs hb
  · exact h.resolveToPowered (h.branch hs (.mode .pinned)) (by simp [hb])
  · exact h.enterQueued hs (h.levelOk_highestWake hs b) (by simp [hb])
  · exact h.enterQueued hs (levelOk_seven strict) (by simp [hb])
  · exact h.retireBranch hs hb
  · exact h.retireBranch hs hb

theorem comesLive (hs : P s) {c : CarrierId} (hc : (s.carrier c).state = .waking) : P (s.comesLive c) := by
  refine foldl_keeps P (fun u m hu => ?_) allClaimants (h.carrier hs (.live hc))
  unfold State.postCarrierOn
  split
  · exact h.post hu _ _
  · exact hu

theorem disposeLiveTimeout (hs : P s) (c : CarrierId) (d : Disposition) : P (s.disposeLiveTimeout c d) := by
  unfold State.disposeLiveTimeout
  split
  case isTrue hunmuted =>
    obtain ⟨hwaking, -, -⟩ := hunmuted
    cases d with
    | retry => exact h.sendUnmute hs hwaking
    | retire => exact h.comesLive hs hwaking
  case isFalse => exact hs

theorem dispose (hs : P s) (r : FaultRecord) (d : Disposition) : P (s.dispose r d) := by
  unfold State.dispose
  split
  · split
    case isTrue hb => exact h.disposeBranchFault hs hb _ d
    case isFalse => exact hs
  · split
    · exact hs
    · exact h.disposeLiveTimeout hs _ d

/-! ## Causes, the rest hold and the close of a window -/

theorem causeOccurs (hs : P s) (k : SlotId) : P (s.causeOccurs k) := by
  have hflagged : P (s.flagged k) := h.aside hs (setSlot_aside s k _)
  rw [causeOccurs_eq]
  split
  · split
    case isTrue => exact hflagged
    case isFalse hrunning => exact h.deliverStart hflagged (Bool.eq_false_iff.mpr hrunning)
  · split
    · exact hflagged
    · exact h.post hflagged _ _

theorem holdBecomes (hs : P s) (inEffect : Bool) : P (s.holdBecomes inEffect) := by
  unfold State.holdBecomes
  split
  · exact h.endRestHold hs
  · exact h.aside hs (setRestHold_aside s inEffect)

theorem holdawkActs (hs : P s) (active : Bool) : P (s.holdawkActs active) := by
  unfold State.holdawkActs
  split
  · exact hs
  · exact h.holdBecomes hs _
  · exact h.holdBecomes hs true
  · exact hs
  · exact h.finish (h.wakeRound (h.holdBecomes hs true) _ (levelOk_seven strict))
  · exact h.holdBecomes hs false

theorem closeCancels (hs : P s) (w : WindowId) (c : CarrierId) : P (s.closeCancels w c) := by
  unfold State.closeCancels
  split
  case isTrue hdraining =>
    obtain ⟨hdraining, -⟩ := hdraining
    exact h.cancelAndOffer hs hdraining .windowClosed
  case isFalse => exact hs

theorem deliverClose {round : WakeRound} (hround : round.Kept strict P) (w : WindowId) (c : CarrierId) :
    (round.deliverClose w c).Kept strict P := by
  unfold WakeRound.deliverClose
  dsimp only
  split
  · split
    case isTrue => exact h.deliver hround c (levelOk_one strict)
    case isFalse hpending => exact h.deliver (h.deliverPending hround hpending) c (levelOk_one strict)
  · exact hround

theorem endLatchedHold (hs : P s) : P s.endLatchedHold := by
  unfold State.endLatchedHold
  split
  · exact h.endRestHold hs
  · exact hs

end Events
end KeptByWork

end Sys2Proof.Machine

/-!
SUPPORT. Invariants of the commands. `KeptByCommands P` adds to the elementary updates of the blocks those that only a
request, site time or device reset makes; a property that keeps under each of them keeps under every command, and so
under every step.
-/
namespace Sys2Proof.Machine
open Sys2Proof

/-- What the first two checks of WRITE_CHANNEL leave of a setting (R121, R122). -/
structure ChannelSetting.Accepted (c : ChannelSetting) : Prop where
  base : c.base ≤ 255
  count : c.count ≤ 255
  groupSize : 1 ≤ c.groupSize ∧ c.groupSize ≤ 16
  span : c.spanOk = true

/-- The property keeps under every elementary update of the blocks and of the commands. -/
structure KeptByCommands (strict : Prop) (P : State → Prop) : Prop extends KeptByWork strict P where
  place : ∀ {s c pv}, P s → (s.carrier c).state = .vacant → (s.branch pv.branch).state = .powered →
    (s.branch pv.branch).members.length < Config.memberPlaces → P (s.placeCarrier c pv)
  vacate : ∀ {s c}, P s → (s.carrier c).state = .on → (s.carrier c).provision = none →
    P (s.setCarrier c Carrier.vacant)
  remove : ∀ {s c pv}, P s → (s.carrier c).state = .on → (s.carrier c).provision = some pv →
    P ((s.setCarrier c Carrier.vacant).setBranch pv.branch
      { s.branch pv.branch with members := removeIndex c (s.branch pv.branch).members })
  provisionBranch : ∀ {s b}, P s → (s.branch b).state = .unused →
    P (s.setBranch b { Branch.unused with state := .powered })
  deprovisionBranch : ∀ {s b}, P s → (s.branch b).state = .powered → (s.branch b).members = [] →
    P (s.setBranch b Branch.unused)
  budget : ∀ {s n}, P s → 1 ≤ n → n ≤ 4 →
    P (if s.arb.budget < n then (s.setArb { s.arb with budget := n }).considerGrants
      else s.setArb { s.arb with budget := n })
  rewrite : ∀ {s k c}, P s → (s.channel k).state = .idle → (s.channel k).pendingStart = none → c.Accepted →
    P (s.setChannel k ((s.channel k).rewritten c))
  list : ∀ {s l}, P s → P { s with rest := { s.rest with list := l } }
  input : ∀ {s i setting}, P s → 1 ≤ setting.level → setting.level ≤ 7 → P (s.setInput i setting)
  inputLevel : ∀ {s i}, strict → P s → 1 ≤ (s.input i).level ∧ (s.input i).level ≤ 7
  openWindow : ∀ {s w}, P s → s.evaluates w = true → P (s.setWindow w { s.window w with state := .isOpen })
  closeEvent : ∀ {s w}, P s → P (s.closeEvent w)
  shadow : ∀ {s w ws}, P s → ws.WellFormed → P (s.setWindow w { s.window w with shadow := ws })
  swap : ∀ {s w}, P s → P (s.setWindow w { s.window w with active := (s.window w).shadow })
  swapLater : ∀ {s w}, P s → (s.window w).state = .isOpen → P (s.setWindow w { s.window w with swapPending := true })
  siteTime : ∀ {s u n}, P s → P u → n = s.now ∨ n = nextSecond s.now → P (u.setSiteTime n)
  stepTime : ∀ {s n}, P s → n < Config.weekSeconds → P (s.stepTime n)
  deviceReset : ∀ {s}, P s → P s.deviceReset

/-! ## Operands -/

theorem asRange_bounds {low high n m : Nat} (h : asRange low high n = some m) : low ≤ m ∧ m ≤ high := by
  unfold asRange at h
  split at h
  case isTrue hrange =>
    cases h
    exact hrange
  case isFalse => cases h

theorem asLevel_levelOk {b : Byte} {level : Nat} (h : asLevel b = some level) (strict : Prop) : LevelOk strict level :=
  fun _ => asRange_bounds h

/-- A byte is a base or a count. -/
theorem asChannelSetting_bounds {m p b n g le lt cn : Byte} {c : ChannelSetting}
    (h : asChannelSetting m p b n g le lt cn = some c) :
    c.base ≤ 255 ∧ c.count ≤ 255 ∧ 1 ≤ c.groupSize ∧ c.groupSize ≤ 16 := by
  simp only [asChannelSetting, Option.bind_eq_bind, Option.bind_eq_some_iff, Option.some.injEq] at h
  obtain ⟨_, -, _, -, size, hsize, _, -, _, -, _, -, rfl⟩ := h
  exact ⟨Nat.le_of_lt_succ b.isLt, Nat.le_of_lt_succ n.isLt, asRange_bounds hsize⟩

theorem asInputSetting_level {e r l t x : Byte} {setting : InputSetting}
    (h : asInputSetting e r l t x = some setting) : 1 ≤ setting.level ∧ setting.level ≤ 7 := by
  simp only [asInputSetting, Option.bind_eq_bind, Option.bind_eq_some_iff, Option.some.injEq] at h
  obtain ⟨_, -, _, -, level, hlevel, _, -, _, -, rfl⟩ := h
  exact asRange_bounds hlevel

theorem asWindowSet_wellFormed {enabled dayMask quiet : Byte} {openSecond closeSecond : Triple} {ws : WindowSet}
    (h : asWindowSet enabled openSecond closeSecond dayMask quiet = some ws) : ws.WellFormed := by
  simp only [asWindowSet, Option.bind_eq_bind, Option.bind_eq_some_iff] at h
  obtain ⟨e, -, o, hopen, c, hclose, _, -, q, hquiet, h⟩ := h
  split at h
  · cases h
  · next hdiffer =>
    cases h
    have hopenMax : o ≤ 86399 := (asRange_bounds hopen).2
    have hcloseMax : c ≤ 86399 := (asRange_bounds hclose).2
    exact ⟨Nat.lt_succ_of_le hopenMax, Nat.lt_succ_of_le hcloseMax, (asRange_bounds hquiet).2,
      fun he heq => hdiffer ⟨he, heq⟩⟩

theorem ok_kept {P : State → Prop} {t : State} (ht : P t) : P (Answer.ok t).state := ht

theorem okWith_kept {P : State → Prop} {t : State} (ht : P t) (payload : List Byte) :
    P (Answer.okWith payload t).state := ht

theorem lines_aside {s : State} {u : CauseUnit} (hu : u.inputs = s.lines.inputs) : Aside s { s with lines := u } :=
  ⟨rfl, rfl, rfl, rfl, rfl, hu, rfl⟩

theorem setBgd_aside (s : State) (b : BranchId) (high : Bool) : Aside s (s.setBgd b high) :=
  ⟨rfl, rfl, rfl, rfl, rfl, rfl, rfl⟩

/-- The close event of a window, for a property that the Window Timer's records do not bear on. -/
theorem KeptByWork.closeEvent_of_timer {strict : Prop} {P : State → Prop} (h : KeptByWork strict P)
    (timer : ∀ {s t}, P s → P { s with timer := t }) {s : State} (hs : P s) (w : WindowId) : P (s.closeEvent w) := by
  have hclosed : P (s.closeWindow w) :=
    h.post (timer hs (t := (s.setWindow w { s.window w with state := .closed }).timer)) _ _
  have hcancelled := foldl_keeps P (fun u c hu => h.closeCancels hu w c) carrierIds hclosed
  have hround := foldl_kept (fun _ c hr => h.deliverClose hr w c) carrierIds (start_kept hcancelled)
  have hended := h.endLatchedHold (h.finish hround)
  unfold State.closeEvent State.closeSwap
  dsimp only
  split
  · exact timer hended
  · exact hended

namespace KeptByCommands

/-! ## Requests of the tenants -/

section Requests
variable {strict : Prop} {P : State → Prop} (h : KeptByCommands strict P) {s : State}
include h

omit h in
theorem ownCarrier {p : Port} {b : Byte} {act : CarrierId → Answer} (hs : P s)
    (hact : ∀ c, ownedByPort p (s.carrier c) = true → P (act c).state) : P (ownCarrier p b s act).state := by
  unfold Machine.ownCarrier
  split
  · exact hs
  · split
    case isTrue howner => exact hact _ howner
    case isFalse => exact hs

omit h in
theorem provisioned_of_owned {p : Port} {r : Carrier} (hr : ownedByPort p r = true) : r.provision.isSome = true := by
  cases hpv : r.provision with
  | some pv => rfl
  | none => cases p <;> simp [ownedByPort, Carrier.ownedBy, hpv] at hr

theorem offerAnswer (hs : P s) (p : Port) (b : Byte) : P (offerAnswer p b s).state := by
  refine ownCarrier hs fun c howner => ?_
  split
  · exact hs
  · split
    · exact hs
    · exact h.carrier hs (.offer (provisioned_of_owned howner))

theorem withdrawAnswer (hs : P s) (p : Port) (b : Byte) : P (withdrawAnswer p b s).state := by
  refine ownCarrier hs fun c _ => ?_
  split
  case isTrue => exact hs
  case isFalse hoffered =>
    split
    case isTrue hdraining => exact h.cancelAndOffer hs hdraining .withdrawn
    case isFalse hdraining => exact h.carrier hs (.withdraw (Bool.not_eq_false _ ▸ hoffered) hdraining)

theorem memberResting (hs : P s) (c : CarrierId) : P (s.memberResting c) := by
  unfold State.memberResting
  split
  · exact hs
  · exact h.settleTest hs _

theorem restCarrier (hs : P s) {c : CarrierId} (hc : (s.carrier c).state = .draining) : P (s.restCarrier c) :=
  h.memberResting
    (h.offerOwnersSlots (h.reportOutcome (h.postOwner (h.carrier hs (.rest hc)) c _) _ _) c) c

theorem drainedAnswer (hs : P s) (p : Port) (b : Byte) : P (drainedAnswer p b s).state := by
  refine ownCarrier hs fun c _ => ?_
  split
  case isTrue hdraining => exact h.restCarrier hs hdraining
  case isFalse => exact hs

theorem liveAnswer (hs : P s) (p : Port) (b : Byte) : P (liveAnswer p b s).state := by
  refine ownCarrier hs fun c _ => ?_
  split
  case isTrue hunmuted =>
    obtain ⟨hwaking, -⟩ := hunmuted
    exact h.aside (h.comesLive hs hwaking) (setStack_aside rfl)
  case isFalse => exact hs

theorem wakeAnswer (hs : P s) (p : Port) (b level : Byte) : P (wakeAnswer p b level s).state := by
  unfold Machine.wakeAnswer
  split
  · exact hs
  · next hlevel => exact ownCarrier hs fun c _ => h.wakeOne hs c (asLevel_levelOk hlevel strict)

/-- A HOLD of a DRAINING carrier adds the claim and cancels the drain in one (R35, R36). -/
theorem holdCarrier (hs : P s) {c : CarrierId} (hc : (s.carrier c).state ≠ .vacant) (m : Claimant) {level : Nat}
    (hl : LevelOk strict level) : P (s.holdCarrier c m level) := by
  unfold State.holdCarrier
  dsimp only
  split
  case isTrue hdraining =>
    have hdraining : (s.carrier c).state = .draining := by simpa [State.placeClaim] using hdraining
    have hcancelled := h.carrier hs (.cancel (addClaim (s.carrier c).claims m) .claimed hdraining)
    have hcancel : (s.placeClaim c m).cancelDrain c .claimed =
        ((s.setCarrier c
          ({ s.carrier c with claims := addClaim (s.carrier c).claims m }.cancelled .claimed)).postOwner c
          (.drainCancel c .claimed)).reportOutcome (s.carrier c).drainChannel .declined := by
      simp [State.cancelDrain, State.placeClaim]
    exact h.offerOwnersSlots (hcancel ▸ h.reportOutcome (h.postOwner hcancelled c _) _ _) c
  case isFalse hdraining =>
    have hdraining : (s.carrier c).state ≠ .draining := by simpa [State.placeClaim] using hdraining
    exact h.wakeOne (h.carrier hs (.claim _ hc hdraining)) c hl

theorem holdAnswer (hs : P s) (p : Port) (b level : Byte) : P (holdAnswer p b level s).state := by
  unfold Machine.holdAnswer
  split
  · next hlevel =>
    split
    case isTrue => exact hs
    case isFalse hvacant =>
      split
      · exact hs
      · exact h.holdCarrier hs hvacant _ (asLevel_levelOk hlevel strict)
  · exact hs

theorem releaseAnswer (hs : P s) (p : Port) (b : Byte) : P (releaseAnswer p b s).state := by
  unfold Machine.releaseAnswer
  split
  · split
    case isTrue => exact hs
    case isFalse hvacant =>
      split
      · exact hs
      · exact h.carrier hs (.unclaim _ hvacant)
  · exact hs

/-! ## Requests of the plant controller -/

theorem forceWakeAnswer (hs : P s) (scope index : Byte) : P (forceWakeAnswer scope index s).state := by
  unfold Machine.forceWakeAnswer
  split
  · exact hs
  · split
    · exact hs
    · exact okWith_kept (h.finish (h.wakeRound hs _ (levelOk_seven strict))) _

theorem setBudgetAnswer (hs : P s) (b : Byte) : P (setBudgetAnswer b s).state := by
  unfold Machine.setBudgetAnswer
  split
  · exact hs
  · next hrange =>
    exact okWith_kept (h.budget hs (asRange_bounds hrange).1 (asRange_bounds hrange).2) _

theorem setRampAnswer (hs : P s) (d u : Byte) : P (setRampAnswer d u s).state := by
  unfold Machine.setRampAnswer
  split
  · exact h.aside hs ⟨rfl, rfl, rfl, rfl, rfl, rfl, rfl⟩
  · exact hs

theorem pinBranch (hs : P s) (b : BranchId) : P (s.pinBranch b) := by
  have hpinned := h.branch (b := b) hs (.mode .pinned)
  unfold State.pinBranch
  dsimp only
  split
  · next hb => exact h.branch hs (.enter .pinned .powered (by simp [hb]) (by simp))
  · next hb => exact h.enterQueued hpinned (levelOk_one strict) (by simp [hb])
  all_goals first | exact hpinned | exact hs

theorem pinAnswer (hs : P s) (b : Byte) : P (pinAnswer b s).state := by
  unfold Machine.pinAnswer
  split
  · exact hs
  · split
    · exact hs
    · split
      · exact hs
      · exact h.pinBranch hs _

theorem unpinAnswer (hs : P s) (b : Byte) : P (unpinAnswer b s).state := by
  unfold Machine.unpinAnswer
  split
  · exact hs
  · split
    · exact hs
    · split
      · exact hs
      · exact h.settleTest (h.branch hs (.mode .follow)) _

theorem restoreMember {w : WakeRound} (hw : w.Kept strict P) (b : BranchId) (c : CarrierId) :
    (w.restoreMember b c).Kept strict P := by
  unfold WakeRound.restoreMember
  dsimp only
  split
  case isFalse => exact hw
  case isTrue hbarred =>
    obtain ⟨hs, hreports⟩ := hw
    have hrestored : WakeRound.Kept strict P { w with
        state := (w.state.setCarrier c { w.state.carrier c with state := .resting }).postOwner c (.restored c b) } :=
      ⟨h.postOwner (h.carrier hs (.restore hbarred)) c _, hreports⟩
    split
    case isTrue => exact hrestored
    case isFalse hpending =>
      exact h.deliver hrestored c fun hstrict =>
        ⟨Nat.one_le_iff_ne_zero.mpr hpending, h.pendingLevel hstrict hs⟩

theorem queueIfPinned (hs : P s) (b : BranchId) : P (s.queueIfPinned b) := by
  unfold State.queueIfPinned
  split
  case isTrue hdark =>
    obtain ⟨hdark, -⟩ := hdark
    exact h.enterQueued hs (levelOk_one strict) (by simp [hdark])
  case isFalse => exact hs

theorem bringBack (hs : P s) {b : BranchId} (hb : (s.branch b).state = .out) : P (s.bringBack b) :=
  h.queueIfPinned (h.finish (foldl_kept (fun _ c hw => h.restoreMember hw b c) _
    (start_kept (h.enterBranch hs (by simp [hb]) (by simp))))) b

theorem returnBranchAnswer (hs : P s) (b : Byte) : P (returnBranchAnswer b s).state := by
  unfold Machine.returnBranchAnswer
  split
  · exact hs
  · split
    case isTrue hout => exact h.bringBack hs hout
    case isFalse => exact hs

theorem resolveAnswer (hs : P s) (kind subject disposition : Byte) :
    P (resolveAnswer kind subject disposition s).state := by
  unfold Machine.resolveAnswer
  split
  · split
    · exact hs
    · split
      · exact hs
      · split
        · next top below _ _ _ =>
          have hremoved : P (s.setStack { s.stack with records := below }) := h.aside hs (setStack_aside rfl)
          exact okWith_kept (h.dispose hremoved top _) _
        · exact hs
  · exact hs

theorem haltAnswer (hs : P s) : P (haltAnswer s).state := by
  unfold Machine.haltAnswer
  split
  case isTrue => exact hs
  case isFalse hrunning => exact h.enterHalt hs (Bool.eq_false_iff.mpr hrunning) .plant

theorem setHoldModeAnswer (hs : P s) (mode invert : Byte) : P (setHoldModeAnswer mode invert s).state := by
  unfold Machine.setHoldModeAnswer
  split
  · next mode invert _ _ =>
    have hset : P { s with lines := { s.lines with holdMode := mode, holdInvert := invert } } :=
      h.aside hs (lines_aside rfl)
    exact okWith_kept (h.holdBecomes hset _) _
  · exact hs

theorem clearHoldAnswer (hs : P s) : P (clearHoldAnswer s).state := by
  unfold Machine.clearHoldAnswer
  split
  · exact hs
  · split
    · exact ok_kept (h.endRestHold hs)
    · exact hs

theorem setOutputAnswer (hs : P s) (output source channel : Byte) : P (setOutputAnswer output source channel s).state := by
  unfold Machine.setOutputAnswer
  split
  · exact h.aside hs ⟨rfl, rfl, rfl, rfl, rfl, rfl, rfl⟩
  · exact hs

theorem startChannelAnswer (hs : P s) (p : Port) (channel : Byte) : P (startChannelAnswer p channel s).state := by
  unfold Machine.startChannelAnswer
  split
  · exact hs
  · split
    case isTrue => exact hs
    case isFalse hrunning => exact h.deliverStart hs (Bool.eq_false_iff.mpr hrunning)

/-! ## Requests of the fleet link -/

theorem provisionBranchAnswer (hs : P s) (b : Byte) : P (provisionBranchAnswer b s).state := by
  unfold Machine.provisionBranchAnswer
  split
  · exact hs
  · split
    case isTrue => exact hs
    case isFalse hunused =>
      split
      · exact hs
      · exact h.provisionBranch hs (Decidable.not_not.mp hunused)

theorem deprovisionBranchAnswer (hs : P s) (b : Byte) : P (deprovisionBranchAnswer b s).state := by
  unfold Machine.deprovisionBranchAnswer
  split
  · exact hs
  · split
    case isTrue hempty => exact h.deprovisionBranch hs hempty.1 hempty.2
    case isFalse => exact hs

theorem provisionCarrierAnswer (hs : P s) (carrier owner sector branch layer window : Byte) :
    P (provisionCarrierAnswer carrier owner sector branch layer window s).state := by
  unfold Machine.provisionCarrierAnswer
  split
  · split
    case isTrue => exact hs
    case isFalse hvacant =>
      split
      case isTrue => exact hs
      case isFalse hpowered =>
        split
        case isTrue => exact hs
        case isFalse hroom => exact h.place hs (Decidable.not_not.mp hvacant) (Decidable.not_not.mp hpowered) (Nat.not_le.mp hroom)
  · exact hs

theorem removeCarrier (hs : P s) {c : CarrierId} (hc : (s.carrier c).state = .on) : P (s.removeCarrier c) := by
  unfold State.removeCarrier
  dsimp only
  split
  · next hnone => exact h.vacate hs hc hnone
  · next hsome => exact h.settleTest (h.remove hs hc hsome) _

theorem deprovisionCarrierAnswer (hs : P s) (carrier : Byte) : P (deprovisionCarrierAnswer carrier s).state := by
  unfold Machine.deprovisionCarrierAnswer
  split
  · exact hs
  · split
    case isTrue hon => exact h.removeCarrier hs hon
    case isFalse => exact hs

theorem floorSet (hs : P s) (t : TenantId) (sec : SectorId) (floor : Nat) : (s.floorSet t sec floor).Kept strict P := by
  have hset : P (s.setFloorOf t sec floor) := h.aside hs ⟨rfl, rfl, rfl, rfl, rfl, rfl, rfl⟩
  unfold State.floorSet
  dsimp only
  split
  · refine foldl_kept (fun w c hw => ?_) carrierIds (start_kept hset)
    unfold WakeRound.deliverFloor
    dsimp only
    split
    · exact h.deliver hw c (levelOk_seven strict)
    · exact hw
  · exact start_kept hset

theorem setFloorAnswer (hs : P s) (tenant sector floor : Byte) : P (setFloorAnswer tenant sector floor s).state := by
  unfold Machine.setFloorAnswer
  split
  · exact h.finish (h.floorSet hs _ _ _)
  · exact hs

theorem setTimersAnswer (hs : P s) (drainTime liveTime linger : Half) :
    P (setTimersAnswer drainTime liveTime linger s).state := by
  unfold Machine.setTimersAnswer
  split
  · exact h.aside hs ⟨rfl, rfl, rfl, rfl, rfl, rfl, rfl⟩
  · exact hs

theorem setDrainLimitAnswer (hs : P s) (tenant limit : Byte) : P (setDrainLimitAnswer tenant limit s).state := by
  unfold Machine.setDrainLimitAnswer
  split
  · next t l _ _ =>
    have hset : P (s.setDrainLimit t l) := h.aside hs ⟨rfl, rfl, rfl, rfl, rfl, rfl, rfl⟩
    simp only [Answer.ok]
    split
    · exact h.offerSlots hset _
    · exact hset
  · exact hs

/-! ## Windows and site time -/

theorem openEvent (hs : P s) {w : WindowId} (hw : s.evaluates w = true) : P (s.openEvent w) :=
  h.post (h.causeOccurs (h.openWindow hs hw) _) _ _

theorem recompute (hs : P s) : P s.recompute := by
  refine foldl_keeps P (fun u w hu => ?_) windowIds hs
  unfold State.recomputeWindow
  split
  · next hw => exact h.openEvent hu hw
  · exact h.closeEvent hu
  · exact hu
  · exact hu

theorem setTimeAnswer (hs : P s) (second : Triple) : P (setTimeAnswer second s).state := by
  unfold Machine.setTimeAnswer State.timeSet
  split
  · next hsecond =>
    simp only [Answer.okWith]
    split
    · exact hs
    · exact h.recompute (h.stepTime hs hsecond)
  · exact hs

theorem writeWindowAnswer (hs : P s) (window enabled : Byte) (openSecond closeSecond : Triple) (dayMask quiet : Byte) :
    P (writeWindowAnswer window enabled openSecond closeSecond dayMask quiet s).state := by
  unfold Machine.writeWindowAnswer
  split
  · next hws => exact h.shadow hs (asWindowSet_wellFormed hws)
  · exact hs

theorem commitWindowAnswer (hs : P s) (window : Byte) : P (commitWindowAnswer window s).state := by
  unfold Machine.commitWindowAnswer
  split
  · exact hs
  · dsimp only
    split
    · exact h.swap hs
    · next hopen => exact h.swapLater hs hopen

/-! ## Channels, causes and inputs -/

theorem writeChannelAnswer (hs : P s) (k m p b n g le lt cn : Byte) :
    P (writeChannelAnswer k m p b n g le lt cn s).state := by
  unfold Machine.writeChannelAnswer
  split
  · next hsetting =>
    split
    case isTrue => exact hs
    case isFalse hspan =>
      obtain ⟨hbase, hcount, hsize⟩ := asChannelSetting_bounds hsetting
      split
      case isTrue hidle => exact h.rewrite hs hidle.1 hidle.2 ⟨hbase, hcount, hsize, Bool.not_eq_false _ ▸ hspan⟩
      case isFalse => exact hs
  · exact hs

theorem writeListAnswer (hs : P s) (first number : Byte) (entries : List Byte) :
    P (writeListAnswer first number entries s).state := by
  unfold Machine.writeListAnswer
  split
  · split
    · exact hs
    · split
      · exact hs
      · exact h.list hs
  · exact hs

theorem startMapped (hs : P s) (k : SlotId) (wasEnabled : Bool) : P (s.startMapped k wasEnabled) := by
  unfold State.startMapped
  dsimp only
  split
  case isTrue hturned =>
    obtain ⟨-, -, -, hrunning⟩ := hturned
    exact h.deliverStart hs hrunning
  case isFalse => exact hs

theorem mapCauseAnswer (hs : P s) (slot target enable disarm : Byte) :
    P (mapCauseAnswer slot target enable disarm s).state := by
  unfold Machine.mapCauseAnswer
  split
  · exact h.startMapped (h.aside hs (setSlot_aside s _ _)) _ _
  · exact hs

theorem clearCauseAnswer (hs : P s) (slot : Byte) : P (clearCauseAnswer slot s).state := by
  unfold Machine.clearCauseAnswer
  split
  · exact hs
  · split
    · exact hs
    · exact h.aside hs (setSlot_aside s _ _)

theorem setInputAnswer (hs : P s) (input e r l t x : Byte) : P (setInputAnswer input e r l t x s).state := by
  unfold Machine.setInputAnswer
  split
  · next hsetting =>
    obtain ⟨hone, hseven⟩ := asInputSetting_level hsetting
    exact h.input hs hone hseven
  · exact hs

/-! ## Taking a frame, and select periods -/

theorem takeFrame {onPermitted : State → State} (hon : ∀ u, P u → P (onPermitted u)) (hs : P s) (p : Port)
    (frame : List Byte) : P (s.takeFrame p frame onPermitted) := by
  have htaken : P (s.takeOut p frame) := h.aside hs (setPort_aside s p _)
  unfold State.takeFrame
  split
  · split
    · exact h.aside htaken (setPort_aside _ p _)
    · exact hon _ htaken
  · exact hs

theorem takeRequest {block : State → Answer} (hblock : ∀ u, P u → P (block u).state) (hs : P s) (p : Port)
    (k : RequestKind) (payload : List Byte) : ∃ t, takeRequest p k payload block s = .next t ∧ P t :=
  ⟨_, rfl, h.takeFrame (fun u hu => h.aside (hblock u hu) (setPort_aside _ p _)) hs p _⟩

theorem of_setPort {t : State} {p : Port} (ht : ∃ q, t = s.setPort p q) (hs : P s) : P t := by
  obtain ⟨q, rfl⟩ := ht
  exact h.aside hs (setPort_aside s p q)

theorem execUnknownRequestFrame (hs : P s) (p : Port) (frame : List Byte) :
    ∃ t, execUnknownRequestFrame p frame s = .next t ∧ P t := by
  refine ⟨_, rfl, ?_⟩
  split
  · exact hs
  · exact h.takeFrame (fun _ hu => hu) hs p frame
  · exact h.takeFrame (fun _ hu => hu) hs p frame

theorem execPortReset (hs : P s) (p : Port) : ∃ t, execPortReset p s = .next t ∧ P t := by
  refine ⟨_, rfl, ?_⟩
  split
  · exact h.aside (h.aside hs (setPort_aside s p _)) (setPort_aside _ p _)
  · exact hs

theorem execWriteTransaction (hs : P s) (p : Port) (phase : WritePhase) :
    ∃ t, execWriteTransaction p phase s = .next t ∧ P t := by
  refine ⟨_, rfl, ?_⟩
  cases phase with
  | whole bytes => exact h.of_setPort (wholePeriod_setPort s p bytes) hs
  | clocked bytes => exact h.of_setPort (clockBytes_setPort s p bytes) hs
  | released bytes => exact h.of_setPort (releaseSelect_setPort s p bytes) hs

theorem execReadTransaction (hs : P s) (p : Port) (phase : ReadPhase) :
    ∃ t, execReadTransaction p phase s = .next t ∧ P t := by
  refine ⟨_, rfl, ?_⟩
  cases phase with
  | whole clocked => exact h.of_setPort (wholePeriod_setPort s p _) hs
  | asserted => exact h.of_setPort (assertSelect_setPort s p) hs
  | opened =>
    dsimp only
    split
    · exact hs
    · exact h.of_setPort (clockBytes_setPort s p _) hs
  | clocked more => exact h.of_setPort (clockBytes_setPort s p _) hs
  | released clocked => exact h.of_setPort (releaseSelect_setPort s p _) hs

/-! ## Time, deadlines and lines -/

/-- An expiry is its event between two settings of site time, which the event's own guard does not read (log 3). -/
theorem expire {event : State → State} (deadline : Option Nat)
    (hevent : ∀ d, P (s.setSiteTime d) → P (event (s.setSiteTime d))) (hs : P s) : P (s.expire deadline event) := by
  unfold State.expire
  split
  · exact hs
  · next d =>
    split
    · next hdue =>
      have hsecond : d = s.now ∨ d = nextSecond s.now := by
        rw [State.isDue, Bool.or_eq_true, beq_iff_eq, beq_iff_eq] at hdue
        exact hdue.imp Eq.symm Eq.symm
      exact h.siteTime hs (hevent d (h.siteTime hs hs hsecond)) (.inl rfl)
    · exact hs

theorem execSiteTimeAdvance (hs : P s) : ∃ t, execSiteTimeAdvance s = .next t ∧ P t := by
  refine ⟨_, rfl, ?_⟩
  split
  · exact hs
  · exact h.recompute (h.siteTime hs hs (.inr rfl))

theorem execDrainDeadlineExpiry (hs : P s) (c : CarrierId) : ∃ t, execDrainDeadlineExpiry c s = .next t ∧ P t := by
  refine ⟨_, rfl, ?_⟩
  split
  case isTrue hc => exact h.expire _ (fun d hd => h.cancelAndOffer hd hc .timeout) hs
  case isFalse => exact hs

theorem execLiveDeadlineExpiry (hs : P s) (c : CarrierId) : ∃ t, execLiveDeadlineExpiry c s = .next t ∧ P t := by
  refine ⟨_, rfl, ?_⟩
  split
  case isTrue hc => exact h.expire _ (fun d hd => h.liveTimesOut hd hc) hs
  case isFalse => exact hs

theorem execLingerDeadlineExpiry (hs : P s) (b : BranchId) : ∃ t, execLingerDeadlineExpiry b s = .next t ∧ P t := by
  refine ⟨_, rfl, ?_⟩
  split
  case isTrue hb => exact h.expire _ (fun d hd => h.lingerExpires hd hb) hs
  case isFalse => exact hs

theorem execRampDownDeadlineExpiry (hs : P s) (b : BranchId) :
    ∃ t, execRampDownDeadlineExpiry b s = .next t ∧ P t := by
  refine ⟨_, rfl, ?_⟩
  split
  case isTrue hb => exact h.expire _ (fun d hd => h.rampDownFails hd hb) hs
  case isFalse => exact hs

theorem execRampUpDeadlineExpiry (hs : P s) (b : BranchId) : ∃ t, execRampUpDeadlineExpiry b s = .next t ∧ P t := by
  refine ⟨_, rfl, ?_⟩
  split
  case isTrue hb => exact h.expire _ (fun d hd => h.rampUpFails hd hb) hs
  case isFalse => exact hs

theorem execChannelStep (hs : P s) (k : ChannelId) : ∃ t, execChannelStep k s = .next t ∧ P t := by
  refine ⟨_, rfl, ?_⟩
  split
  case isTrue hk => exact h.processEntry hs (.inl hk.1)
  case isFalse => exact hs

theorem bgdFalls (hs : P s) (b : BranchId) : P (s.bgdFalls b) := by
  unfold State.bgdFalls
  split
  · next hb => exact h.goDark hs hb
  · next hb => exact h.losePower hs (.inl hb)
  · next hb => exact h.losePower hs (.inr hb)
  all_goals exact hs

theorem bgdRises (hs : P s) (b : BranchId) : P (s.bgdRises b) := by
  unfold State.bgdRises
  split
  · next hb => exact h.powerGood hs hb
  all_goals exact hs

theorem execBgdFall (hs : P s) (b : BranchId) : ∃ t, execBgdFall b s = .next t ∧ P t := by
  refine ⟨_, rfl, ?_⟩
  split
  · exact h.bgdFalls (h.aside hs (setBgd_aside s b false)) b
  · exact hs

theorem execBgdRise (hs : P s) (b : BranchId) : ∃ t, execBgdRise b s = .next t ∧ P t := by
  refine ⟨_, rfl, ?_⟩
  split
  · exact hs
  · exact h.bgdRises (h.aside hs (setBgd_aside s b true)) b

theorem countedEdge (hs : P s) (i : InputId) : P (s.countedEdge i) := by
  unfold State.countedEdge
  dsimp only
  split
  · exact h.causeOccurs hs _
  · exact h.finish (h.wakeRound hs _ fun hstrict => h.inputLevel hstrict hs)

theorem execEvEdge (hs : P s) (i : InputId) (high : Bool) : ∃ t, execEvEdge i high s = .next t ∧ P t := by
  have hset : P (s.setEv i high) := h.aside hs ⟨rfl, rfl, rfl, rfl, rfl, rfl, rfl⟩
  refine ⟨_, rfl, ?_⟩
  split
  · exact hs
  · dsimp only
    split
    · exact h.countedEdge hset i
    · exact hset

theorem execHoldawkEdge (hs : P s) (high : Bool) : ∃ t, execHoldawkEdge high s = .next t ∧ P t := by
  refine ⟨_, rfl, ?_⟩
  split
  · exact hs
  · have hset : P { s with lines := { s.lines with holdawk := high } } := h.aside hs (lines_aside rfl)
    exact h.holdawkActs hset _

/-! ## Every command and every step -/

theorem exec (hs : P s) (i : Instr) : ∃ t, exec i s = .next t ∧ P t := by
  cases i with
  | offer => exact h.takeRequest (fun _ hu => h.offerAnswer hu _ _) hs _ _ _
  | withdraw => exact h.takeRequest (fun _ hu => h.withdrawAnswer hu _ _) hs _ _ _
  | drained => exact h.takeRequest (fun _ hu => h.drainedAnswer hu _ _) hs _ _ _
  | live => exact h.takeRequest (fun _ hu => h.liveAnswer hu _ _) hs _ _ _
  | wake => exact h.takeRequest (fun _ hu => h.wakeAnswer hu _ _ _) hs _ _ _
  | hold => exact h.takeRequest (fun _ hu => h.holdAnswer hu _ _ _) hs _ _ _
  | release => exact h.takeRequest (fun _ hu => h.releaseAnswer hu _ _) hs _ _ _
  | forceWake => exact h.takeRequest (fun _ hu => h.forceWakeAnswer hu _ _) hs _ _ _
  | setBudget => exact h.takeRequest (fun _ hu => h.setBudgetAnswer hu _) hs _ _ _
  | setRamp => exact h.takeRequest (fun _ hu => h.setRampAnswer hu _ _) hs _ _ _
  | pin => exact h.takeRequest (fun _ hu => h.pinAnswer hu _) hs _ _ _
  | unpin => exact h.takeRequest (fun _ hu => h.unpinAnswer hu _) hs _ _ _
  | returnBranch => exact h.takeRequest (fun _ hu => h.returnBranchAnswer hu _) hs _ _ _
  | resolve => exact h.takeRequest (fun _ hu => h.resolveAnswer hu _ _ _) hs _ _ _
  | halt => exact h.takeRequest (fun _ hu => h.haltAnswer hu) hs _ _ _
  | setHoldMode => exact h.takeRequest (fun _ hu => h.setHoldModeAnswer hu _ _) hs _ _ _
  | clearHold => exact h.takeRequest (fun _ hu => h.clearHoldAnswer hu) hs _ _ _
  | setOutput => exact h.takeRequest (fun _ hu => h.setOutputAnswer hu _ _ _) hs _ _ _
  | startChannel => exact h.takeRequest (fun _ hu => h.startChannelAnswer hu _ _) hs _ _ _
  | provisionBranch => exact h.takeRequest (fun _ hu => h.provisionBranchAnswer hu _) hs _ _ _
  | deprovisionBranch => exact h.takeRequest (fun _ hu => h.deprovisionBranchAnswer hu _) hs _ _ _
  | provisionCarrier => exact h.takeRequest (fun _ hu => h.provisionCarrierAnswer hu _ _ _ _ _ _) hs _ _ _
  | deprovisionCarrier => exact h.takeRequest (fun _ hu => h.deprovisionCarrierAnswer hu _) hs _ _ _
  | setFloor => exact h.takeRequest (fun _ hu => h.setFloorAnswer hu _ _ _) hs _ _ _
  | setTimers => exact h.takeRequest (fun _ hu => h.setTimersAnswer hu _ _ _) hs _ _ _
  | setDrainLimit => exact h.takeRequest (fun _ hu => h.setDrainLimitAnswer hu _ _) hs _ _ _
  | setTime => exact h.takeRequest (fun _ hu => h.setTimeAnswer hu _) hs _ _ _
  | writeWindow => exact h.takeRequest (fun _ hu => h.writeWindowAnswer hu _ _ _ _ _ _) hs _ _ _
  | commitWindow => exact h.takeRequest (fun _ hu => h.commitWindowAnswer hu _) hs _ _ _
  | writeChannel => exact h.takeRequest (fun _ hu => h.writeChannelAnswer hu _ _ _ _ _ _ _ _ _) hs _ _ _
  | writeList => exact h.takeRequest (fun _ hu => h.writeListAnswer hu _ _ _) hs _ _ _
  | mapCause => exact h.takeRequest (fun _ hu => h.mapCauseAnswer hu _ _ _ _) hs _ _ _
  | clearCause => exact h.takeRequest (fun _ hu => h.clearCauseAnswer hu _) hs _ _ _
  | setInput => exact h.takeRequest (fun _ hu => h.setInputAnswer hu _ _ _ _ _ _) hs _ _ _
  | restart => exact ⟨_, rfl, h.takeFrame (fun _ hu => h.deviceReset hu) hs _ _⟩
  | readSite => exact h.takeRequest (fun _ hu => hu) hs _ _ _
  | readCarrier => exact h.takeRequest (fun u hu => (readCarrierAnswer_state _ u).symm ▸ hu) hs _ _ _
  | readBranch => exact h.takeRequest (fun u hu => (readBranchAnswer_state _ u).symm ▸ hu) hs _ _ _
  | readWindow => exact h.takeRequest (fun u hu => (readWindowAnswer_state _ u).symm ▸ hu) hs _ _ _
  | readChannel => exact h.takeRequest (fun u hu => (readChannelAnswer_state _ u).symm ▸ hu) hs _ _ _
  | readCauses => exact h.takeRequest (fun _ hu => hu) hs _ _ _
  | readFaults => exact h.takeRequest (fun u hu => (readFaultsAnswer_state _ u).symm ▸ hu) hs _ _ _
  | portReset => exact h.execPortReset hs _
  | unknownRequestFrame => exact h.execUnknownRequestFrame hs _ _
  | writeTransaction => exact h.execWriteTransaction hs _ _
  | readTransaction => exact h.execReadTransaction hs _ _
  | deviceReset => exact ⟨_, rfl, h.deviceReset hs⟩
  | siteTimeAdvance => exact h.execSiteTimeAdvance hs
  | drainDeadlineExpiry => exact h.execDrainDeadlineExpiry hs _
  | liveDeadlineExpiry => exact h.execLiveDeadlineExpiry hs _
  | lingerDeadlineExpiry => exact h.execLingerDeadlineExpiry hs _
  | rampDownDeadlineExpiry => exact h.execRampDownDeadlineExpiry hs _
  | rampUpDeadlineExpiry => exact h.execRampUpDeadlineExpiry hs _
  | donePulseEnd => exact ⟨_, rfl, h.aside hs ⟨rfl, rfl, rfl, rfl, rfl, rfl, rfl⟩⟩
  | bgdFall => exact h.execBgdFall hs _
  | bgdRise => exact h.execBgdRise hs _
  | evEdge => exact h.execEvEdge hs _ _
  | holdawkEdge => exact h.execHoldawkEdge hs _
  | channelStep => exact h.execChannelStep hs _
  | endOfDeviceReset => exact ⟨_, rfl, h.aside hs ⟨rfl, rfl, rfl, rfl, rfl, rfl, rfl⟩⟩

/-- An invariant of the commands is one of every step. -/
theorem step : KeptByEveryStep P := by
  intro s t hs hstep
  unfold Machine.step at hstep
  split at hstep
  · cases hstep
    exact hs
  · next c rest _ =>
    have hqueue : P { s with pending := rest } := h.aside hs ⟨rfl, rfl, rfl, rfl, rfl, rfl, rfl⟩
    obtain ⟨u, hexec, hu⟩ := h.exec hqueue c
    cases hexec.symm.trans hstep
    exact hu

end Requests
end KeptByCommands
end Sys2Proof.Machine

/-!
SUPPORT. What the work of the channels leaves unchanged, and the invariants of the carrier records: O55, O56.
-/
namespace Sys2Proof.Machine
open Sys2Proof

/-! ## The work of the channels -/

/-- Nothing but channels, ports, cause slots and event outputs has changed. -/
structure ChannelFrame (s t : State) : Prop where
  table : t.table = s.table
  ctrl : t.ctrl = s.ctrl
  arb : t.arb = s.arb
  timer : t.timer = s.timer
  stack : t.stack = s.stack
  list : t.rest.list = s.rest.list
  lines : t.lines = { s.lines with slots := t.lines.slots, outputs := t.lines.outputs }

namespace ChannelFrame

theorem refl (s : State) : ChannelFrame s s := ⟨rfl, rfl, rfl, rfl, rfl, rfl, rfl⟩

theorem trans {s t u : State} (h : ChannelFrame s t) (k : ChannelFrame t u) : ChannelFrame s u where
  table := k.table.trans h.table
  ctrl := k.ctrl.trans h.ctrl
  arb := k.arb.trans h.arb
  timer := k.timer.trans h.timer
  stack := k.stack.trans h.stack
  list := k.list.trans h.list
  lines := by rw [k.lines, h.lines]

theorem halted {s t : State} (h : ChannelFrame s t) : t.halted = s.halted := by simp [State.halted, h.stack]

theorem inputs {s t : State} (h : ChannelFrame s t) : t.lines.inputs = s.lines.inputs := by rw [h.lines]

theorem carrier {s t : State} (h : ChannelFrame s t) (c : CarrierId) : t.carrier c = s.carrier c := by
  simp [State.carrier, h.table]

theorem setChannel (s : State) (k : ChannelId) (ch : Channel) : ChannelFrame s (s.setChannel k ch) :=
  ⟨rfl, rfl, rfl, rfl, rfl, rfl, rfl⟩

theorem startTaken (s : State) (source : StartSource) : ChannelFrame s (s.startTaken source) := by
  cases source <;> exact ⟨rfl, rfl, rfl, rfl, rfl, rfl, rfl⟩

theorem of_startCloses {k : ChannelId} {ch : Channel} {result : DoneResult} {s t : State}
    (h : StartCloses k ch result s t) : ChannelFrame s t := by
  obtain ⟨-, -, htable, hctrl, harb, htimer, hstack, hlist, hlines, -⟩ := h
  exact ⟨htable, hctrl, harb, htimer, hstack, hlist, hlines⟩

theorem takeStart (s : State) (k : ChannelId) (source : StartSource) : ChannelFrame s (s.takeStart k source) := by
  by_cases hcount : (s.channel k).count = 0
  · exact (startTaken s source).trans (of_startCloses (takeStart_closes hcount source))
  · rw [takeStart_steps hcount]
    exact (setChannel s k _).trans (startTaken _ source)

theorem deliverStart (s : State) (k : ChannelId) (source : StartSource) : ChannelFrame s (s.deliverStart k source) := by
  by_cases hidle : (s.channel k).state = .idle
  · rw [deliverStart_idle hidle]
    exact takeStart s k source
  · rw [deliverStart_busy hidle]
    exact setChannel s k _

theorem followLink (s : State) (k : ChannelId) : ChannelFrame s (s.followLink k) := by
  unfold State.followLink
  dsimp only
  split
  · exact deliverStart s _ _
  · exact refl s

theorem takePending (s : State) (k : ChannelId) : ChannelFrame s (s.takePending k) := by
  unfold State.takePending
  dsimp only
  split
  · exact refl s
  · exact (setChannel s k _).trans (takeStart _ k _)

theorem completeIfDone (s : State) (k : ChannelId) : ChannelFrame s (s.completeIfDone k) := by
  unfold State.completeIfDone
  split
  · exact ((of_startCloses (startCloses_done s k)).trans (followLink _ k)).trans (takePending _ k)
  · exact refl s

theorem drainOutcome (s : State) (k : ChannelId) (o : DrainOutcome) : ChannelFrame s (s.drainOutcome k o) := by
  unfold State.drainOutcome
  split
  · exact refl s
  · exact (setChannel s k _).trans (completeIfDone _ k)

theorem entryProcessed (s : State) (k : ChannelId) (ch : Channel) : ChannelFrame s (s.entryProcessed k ch) :=
  (setChannel s k _).trans (completeIfDone _ k)

end ChannelFrame

/-- The records of the carriers and the settings of the inputs are as they were. -/
structure SameCarriers (s t : State) : Prop where
  carriers : t.table.carriers = s.table.carriers
  inputs : t.lines.inputs = s.lines.inputs

theorem SameCarriers.carrier {s t : State} (h : SameCarriers s t) (c : CarrierId) : t.carrier c = s.carrier c := by
  simp [State.carrier, h.carriers]

theorem SameCarriers.input {s t : State} (h : SameCarriers s t) (i : InputId) : t.input i = s.input i := by
  simp [State.input, h.inputs]

theorem ChannelFrame.sameCarriers {s t : State} (h : ChannelFrame s t) : SameCarriers s t :=
  ⟨congrArg CarrierTable.carriers h.table, h.inputs⟩

/-- A property that speaks of the carrier records and the inputs alone is kept by every command where it is kept by what
happens to one carrier record, by a new setting of an input and by a step of site time, and holds after a reset. -/
structure KeptByCarriers (strict : Prop) (P : State → Prop) : Prop where
  same : ∀ {s t}, P s → SameCarriers s t → P t
  carrier : ∀ {s c r}, P s → CarrierMove strict (s.carrier c) r → P (s.setCarrier c r)
  place : ∀ {s c pv}, P s → P (s.setCarrier c { Carrier.vacant with state := .on, provision := some pv })
  vacate : ∀ {s c}, P s → P (s.setCarrier c Carrier.vacant)
  input : ∀ {s i setting}, P s → 1 ≤ setting.level → setting.level ≤ 7 → P (s.setInput i setting)
  pendingLevel : ∀ {s c}, strict → P s → (s.carrier c).pendingWake ≤ 7
  wakeLevel : ∀ {s c l}, strict → P s → (s.carrier c).wakeLevel = some l → 1 ≤ l ∧ l ≤ 7
  inputLevel : ∀ {s i}, strict → P s → 1 ≤ (s.input i).level ∧ (s.input i).level ≤ 7
  stepTime : ∀ {s n}, P s → P (s.stepTime n)
  reset : P State.reset

theorem KeptByCarriers.grants {strict : Prop} {P : State → Prop} (h : KeptByCarriers strict P) :
    KeptByGrants strict P :=
  have records : KeptByRecords strict P :=
    { aside := fun hs ha => h.same hs ⟨ha.carriers, ha.inputs⟩, carrier := h.carrier,
      branch := fun hs _ => h.same hs ⟨rfl, rfl⟩ }
  records.grants (fun hs => h.same hs ⟨rfl, rfl⟩) (fun hs => h.same hs ⟨rfl, rfl⟩)

theorem KeptByCarriers.work {strict : Prop} {P : State → Prop} (h : KeptByCarriers strict P) :
    KeptByWork strict P where
  toKeptByRecords := h.grants.toKeptByRecords
  enterQueued := h.grants.enterQueued
  raiseQueued := h.grants.raiseQueued
  powerGood := h.grants.powerGood_considered
  failRaise := h.grants.failRaise
  decline hs _ := h.same hs (ChannelFrame.entryProcessed _ _ _).sameCarriers
  entry hs _ := h.same hs (ChannelFrame.entryProcessed _ _ _).sameCarriers
  wait hs _ := h.same hs ⟨rfl, rfl⟩
  outcome hs := h.same hs (ChannelFrame.drainOutcome _ _ _).sameCarriers
  deliverStart hs _ := h.same hs (ChannelFrame.deliverStart _ _ _).sameCarriers
  stop hs _ := h.same hs ⟨rfl, rfl⟩
  halt hs _ := h.same hs ⟨rfl, rfl⟩
  pendingLevel := h.pendingLevel
  wakeLevel := h.wakeLevel

theorem KeptByCarriers.kept {strict : Prop} {P : State → Prop} (h : KeptByCarriers strict P) :
    KeptByCommands strict P where
  toKeptByWork := h.work
  place hs _ _ _ := h.same (h.place hs) ⟨rfl, rfl⟩
  vacate hs _ _ := h.vacate hs
  remove hs _ _ := h.same (h.vacate hs) ⟨rfl, rfl⟩
  provisionBranch hs _ := h.same hs ⟨rfl, rfl⟩
  deprovisionBranch hs _ _ := h.same hs ⟨rfl, rfl⟩
  budget hs _ _ := by
    split
    · exact h.grants.considerGrants (h.same hs ⟨rfl, rfl⟩)
    · exact h.same hs ⟨rfl, rfl⟩
  rewrite hs _ _ _ := h.same hs ⟨rfl, rfl⟩
  list hs := h.same hs ⟨rfl, rfl⟩
  input := h.input
  inputLevel := h.inputLevel
  openWindow hs _ := h.same hs ⟨rfl, rfl⟩
  closeEvent hs := h.work.closeEvent_of_timer (fun hu => h.same hu ⟨rfl, rfl⟩) hs _
  shadow hs _ := h.same hs ⟨rfl, rfl⟩
  swap hs := h.same hs ⟨rfl, rfl⟩
  swapLater hs _ := h.same hs ⟨rfl, rfl⟩
  siteTime _ hu _ := h.same hu ⟨rfl, rfl⟩
  stepTime hs _ := h.stepTime hs
  deviceReset _ := h.same h.reset ⟨rfl, rfl⟩

/-- Every carrier record has the property. -/
theorem forall_setCarrier {R : Carrier → Prop} {s : State} {c : CarrierId} {r : Carrier} (hs : ∀ d, R (s.carrier d))
    (hr : R r) : ∀ d, R ((s.setCarrier c r).carrier d) := by
  intro d
  rw [carrier_setCarrier]
  split
  · exact hr
  · exact hs d

@[simp] theorem stepTime_carrier (s : State) (n : Nat) (c : CarrierId) :
    (s.stepTime n).carrier c = (s.carrier c).moveDeadlines s.now n := by
  simp [State.stepTime, State.carrier]

@[simp] theorem reset_carrier (c : CarrierId) : State.reset.carrier c = Carrier.vacant := by
  simp [State.carrier, State.reset, CarrierTable.initial]

@[simp] theorem reset_input (i : InputId) : State.reset.input i =
    { edgeMode := .off, role := .cause, level := 1, tenantMask := 0#4, sectorMask := 0#6 } := by
  simp [State.input, State.reset, CauseUnit.initial]

/-! ## DRAINING carriers are offered and unclaimed -/

/-- The consent of a DRAINING record (R7, R33). -/
def Carrier.Consents (r : Carrier) : Prop := r.state = .draining → r.offered = true ∧ r.claims = 0#5

theorem dropClaim_zero (m : Claimant) : dropClaim 0#5 m = 0#5 := by
  cases m <;> simp [dropClaim]

theorem CarrierMove.consents {strict : Prop} {r r' : Carrier} (hmove : CarrierMove strict r r') (hr : r.Consents) :
    r'.Consents := by
  unfold Carrier.Consents at hr ⊢
  cases hmove with
  | offer => exact fun hd => ⟨rfl, (hr hd).2⟩
  | withdraw _ hs => exact fun hd => absurd hd hs
  | drain _ _ _ _ ho hc => exact fun _ => ⟨ho, hc⟩
  | unclaim m =>
    intro hd
    obtain ⟨ho, hc⟩ := hr hd
    exact ⟨ho, by simp only [hc, dropClaim_zero]⟩
  | claim _ _ hd => exact fun hdraining => absurd hdraining hd
  | unmute _ _ hs | raise _ hs | mute hs | timeout hs => exact fun hd => by simp [hs] at hd
  | pend _ hs => exact fun hd => by rcases hs with hs | hs <;> simp [hs] at hd
  | cancel | rest | wake | losePower | barResting | barWaking | restore | live =>
    exact fun hd => by simp [Carrier.cancelled, Carrier.rest, Carrier.woken, Carrier.lostPower, Carrier.live] at hd

theorem drainingConsents_kept : KeptByCarriers False DrainingConsents where
  same hs hsame c := by
    rw [hsame.carrier]
    exact hs c
  carrier hs hmove := forall_setCarrier (R := Carrier.Consents) hs (hmove.consents (hs _))
  place hs := forall_setCarrier (R := Carrier.Consents) hs (by simp [Carrier.Consents])
  vacate hs := forall_setCarrier (R := Carrier.Consents) hs (by simp [Carrier.Consents, Carrier.vacant])
  input hs _ _ := hs
  pendingLevel := False.elim
  wakeLevel := False.elim
  inputLevel := False.elim
  stepTime hs c := by simpa [Carrier.moveDeadlines] using hs c
  reset c := by simp [Carrier.vacant]

/-- Settles O55: a record enters DRAINING offered and unclaimed, and what withdraws an offer or adds a claim ends the
drain. -/
theorem drainingCarriersStayConsented : Obligations.DrainingCarriersStayConsented :=
  drainingConsents_kept.kept.step

/-! ## Carrier records have the shape of R1 -/

theorem secondsAfter_lt (t n : Nat) : secondsAfter t n < Config.weekSeconds := Nat.mod_lt _ (by decide)

theorem movedDeadline_lt (old new d : Nat) : movedDeadline old new d < Config.weekSeconds := Nat.mod_lt _ (by decide)

section Shape
variable {r : Carrier} (hr : r.WellShaped)
include hr

theorem ne_vacant_of_provision (h : r.provision.isSome = true) : r.state ≠ .vacant := by
  intro hv
  simp [hr.1 hv, Carrier.vacant] at h

theorem ne_vacant_of_offered (h : r.offered = true) : r.state ≠ .vacant := by
  intro hv
  simp [hr.1 hv, Carrier.vacant] at h

/-- The offer and the claim set of a provisioned carrier are free (R1). -/
theorem wellShaped_consent (hs : r.state ≠ .vacant) (offered : Bool) (set : BitVec 5) :
    { r with offered := offered, claims := set }.WellShaped := by
  obtain ⟨-, hfields⟩ := hr
  exact ⟨fun hv => absurd hv hs, hfields⟩

theorem liveDeadline_eq_none (hs : r.state ≠ .waking) : r.liveDeadline = none := by
  obtain ⟨-, -, -, -, -, -, hunmute, hlive, -⟩ := hr
  cases hd : r.liveDeadline with
  | none => rfl
  | some d => exact absurd (hunmute (hlive (by simp [hd]))) hs

end Shape

theorem CarrierMove.wellShaped {r r' : Carrier} (hmove : CarrierMove True r r') (hr : r.WellShaped) :
    r'.WellShaped := by
  have hweek := secondsAfter_lt
  have hlive := liveDeadline_eq_none hr
  cases hmove with
  | offer hpv => exact wellShaped_consent hr (ne_vacant_of_provision hr hpv) true r.claims
  | withdraw ho => exact wellShaped_consent hr (ne_vacant_of_offered hr ho) false r.claims
  | claim set hs => exact wellShaped_consent hr hs r.offered set
  | unclaim m hs => exact wellShaped_consent hr hs r.offered _
  | drain | unmute | raise | mute | barResting | restore | timeout => simp_all [Carrier.WellShaped, SecondOk, LevelOk]
  | cancel => simp_all [Carrier.WellShaped, SecondOk, Carrier.cancelled]
  | rest => simp_all [Carrier.WellShaped, SecondOk, Carrier.rest]
  | wake => simp_all [Carrier.WellShaped, SecondOk, Carrier.woken, LevelOk]
  | pend _ hs => rcases hs with hs | hs <;> simp_all [Carrier.WellShaped, SecondOk, LevelOk, Nat.max_le]
  | losePower hs => rcases hs with hs | hs <;> simp_all [Carrier.WellShaped, SecondOk, Carrier.lostPower]
  | barWaking => cases hl : r.wakeLevel <;> simp_all [Carrier.WellShaped, SecondOk]
  | live => simp_all [Carrier.WellShaped, SecondOk, Carrier.live]

theorem moveDeadlines_wellShaped {r : Carrier} (hr : r.WellShaped) (old new : Nat) :
    (r.moveDeadlines old new).WellShaped := by
  obtain ⟨hvacant, hprovision, hdrain, hchannel, hwake, hlevel, hunmute, hlive, hpending, hseven, -, -⟩ := hr
  have hsecond (d : Option Nat) : SecondOk (d.map (movedDeadline old new)) := by
    intro t ht
    obtain ⟨u, -, rfl⟩ := Option.map_eq_some_iff.mp ht
    exact movedDeadline_lt old new u
  refine ⟨fun hv => ?_, hprovision, ?_, hchannel, hwake, hlevel, hunmute, ?_, hpending, hseven, hsecond _, hsecond _⟩
  · rw [hvacant hv]
    rfl
  · simpa [Carrier.moveDeadlines] using hdrain
  · simpa [Carrier.moveDeadlines] using hlive

theorem vacant_wellShaped : Carrier.vacant.WellShaped := by
  simp [Carrier.WellShaped, SecondOk, Carrier.vacant]

theorem provisioned_wellShaped (pv : Provision) :
    { Carrier.vacant with state := .on, provision := some pv }.WellShaped := by
  simp [Carrier.WellShaped, SecondOk, Carrier.vacant]

theorem carriersShaped_kept : KeptByCarriers True CarriersShaped where
  same hs hsame := by
    obtain ⟨hinputs, hcarriers⟩ := hs
    refine ⟨fun i => ?_, fun c => ?_⟩
    · rw [hsame.input]
      exact hinputs i
    · rw [hsame.carrier]
      exact hcarriers c
  carrier hs hmove := ⟨hs.1, forall_setCarrier (R := Carrier.WellShaped) hs.2 (hmove.wellShaped (hs.2 _))⟩
  place hs := ⟨hs.1, forall_setCarrier (R := Carrier.WellShaped) hs.2 (provisioned_wellShaped _)⟩
  vacate hs := ⟨hs.1, forall_setCarrier (R := Carrier.WellShaped) hs.2 vacant_wellShaped⟩
  input hs hone hseven := by
    refine ⟨fun i => ?_, hs.2⟩
    rw [input_setInput]
    split
    · exact ⟨hone, hseven⟩
    · exact hs.1 i
  pendingLevel _ hs := by
    obtain ⟨-, -, -, -, -, -, -, -, -, hseven, -⟩ := hs.2 _
    exact hseven
  wakeLevel _ hs hl := by
    obtain ⟨-, -, -, -, -, hlevel, -⟩ := hs.2 _
    exact hlevel _ hl
  inputLevel _ hs := hs.1 _
  stepTime hs := ⟨hs.1, fun c => stepTime_carrier _ _ c ▸ moveDeadlines_wellShaped (hs.2 c) _ _⟩
  reset := ⟨fun i => by simp, fun c => reset_carrier c ▸ vacant_wellShaped⟩

/-- Settles O56: every elementary update of a carrier record leaves it in the shape of R1, at the levels that the shape
and the inputs' settings give a wake. -/
theorem carrierRecordsStayShaped : Obligations.CarrierRecordsStayShaped :=
  carriersShaped_kept.kept.step

end Sys2Proof.Machine

/-!
SUPPORT. The shape of the channel records through entries, outcomes, starts and completions (R119, R122, R128, R135); and
the invariant of the channels: O58.
-/
namespace Sys2Proof.Machine
open Sys2Proof

/-! ## What the records keep within an event -/

/-- The fields of a channel record that an event keeps tied throughout; what is left of a span is inside the Rest List
while entries are left in the quota. -/
structure Channel.Formed (ch : Channel) : Prop where
  quota : 1 ≤ ch.quota ↔ ch.state = .stepping ∨ ch.state = .blocked
  waiting : ch.waiting.isSome = true ↔ ch.state = .blocked
  groupSize : 1 ≤ ch.groupSize ∧ ch.groupSize ≤ 16
  base : ch.base ≤ 255
  count : ch.count ≤ 255
  pointer : ch.pointer ≤ 256
  one : ch.mode = .one → ch.quota ≤ 1 ∧ ch.quota ≤ ch.count
  all : ch.mode = .all → ch.quota = 0 ∨ ch.quota = ch.count
  group : ch.mode = .group → ch.quota ≤ ch.groupSize ∧ (1 ≤ ch.quota → 1 ≤ ch.count)
  span : 1 ≤ ch.quota → ch.spanInside = true

/-- What holds of a channel record outside SAFE_HALT besides (R122, R135). -/
structure Channel.Running (ch : Channel) : Prop where
  span : ch.spanInside = true
  awaiting : ch.state = .awaiting → 1 ≤ ch.outstanding
  idle : ch.state = .idle → ch.outstanding = 0

/-- A channel record as the events of the part leave it. -/
structure Channel.Kept (halted : Bool) (ch : Channel) : Prop where
  formed : ch.Formed
  pending : ch.state = .idle → ch.pendingStart = none
  running : halted = false → ch.Running

/-- Every channel record is as the events leave it. -/
def ChannelsKept (s : State) : Prop := ∀ k, (s.channel k).Kept s.halted

theorem quota_eq_zero {ch : Channel} (h : ch.Formed) (hs : ch.state = .idle ∨ ch.state = .awaiting) : ch.quota = 0 := by
  have hnot : ¬ 1 ≤ ch.quota := by
    rw [h.quota]
    rcases hs with hs | hs <;> simp [hs]
  exact Nat.eq_zero_of_not_pos hnot

theorem waiting_eq_none {ch : Channel} (h : ch.Formed) (hs : ch.state ≠ .blocked) : ch.waiting = none := by
  have hnot : ¬ ch.waiting.isSome = true := by rwa [h.waiting]
  simpa using hnot

/-! ## Spans -/

section Spans
variable {ch : Channel}

theorem spanInside_advance (hm : ch.mode = .one ∨ ch.mode = .all) (hp : ch.pointerMode = .advance) :
    ch.spanInside = true ↔ ch.count = 0 ∨ ch.pointer + ch.count ≤ 256 := by
  rcases hm with hm | hm <;> simp [Channel.spanInside, hm, hp]

theorem spanInside_hold (hm : ch.mode = .one) (hp : ch.pointerMode = .hold) :
    ch.spanInside = true ↔ ch.pointer = ch.base := by
  simp [Channel.spanInside, hm, hp]

theorem spanInside_groupAdvance (hm : ch.mode = .group) (hp : ch.pointerMode = .advance) :
    ch.spanInside = true ↔
      if ch.quota = 0 then ch.count = 0 ∨ ch.pointer + ch.count * ch.groupSize ≤ 256
      else ch.pointer + ch.quota + (ch.count - 1) * ch.groupSize ≤ 256 := by
  simp only [Channel.spanInside, hm, hp]
  split <;> simp

theorem spanInside_groupRewind (hm : ch.mode = .group) (hp : ch.pointerMode = .rewind) :
    ch.spanInside = true ↔
      if ch.quota = 0 then ch.pointer = ch.base ∧ (ch.count = 0 ∨ ch.base + ch.groupSize ≤ 256)
      else ch.pointer + ch.quota = ch.base + ch.groupSize ∧ ch.base + ch.groupSize ≤ 256 := by
  simp only [Channel.spanInside, hm, hp]
  split <;> simp

/-- A span is inside in one of the five legal pairs only (R122). -/
theorem legal_of_spanInside (h : ch.spanInside = true) :
    ((ch.mode = .one ∨ ch.mode = .all) ∧ ch.pointerMode = .advance) ∨ (ch.mode = .one ∧ ch.pointerMode = .hold)
      ∨ (ch.mode = .group ∧ ch.pointerMode = .advance) ∨ (ch.mode = .group ∧ ch.pointerMode = .rewind) := by
  cases hm : ch.mode <;> cases hp : ch.pointerMode <;> simp [Channel.spanInside, hm, hp] at h ⊢

end Spans

/-! ## Processed entries (R128) -/

theorem movedTo_state (ch : Channel) (count pointer : Nat) :
    (ch.movedTo count pointer).state = if ch.quota - 1 = 0 then .awaiting else .stepping := rfl

/-- What is left of a span after a processed entry is inside, and the count and pointer are in range. -/
theorem Channel.Formed.processed {ch : Channel} (h : ch.Formed) (hr : ch.Reads) :
    ch.processed.Formed ∧ ch.processed.spanInside = true := by
  have hquota : 1 ≤ ch.quota := h.quota.mpr hr
  have hspan := h.span hquota
  obtain ⟨hsize, hsize16⟩ := h.groupSize
  have hcount := h.count
  have hbase := h.base
  have formed {count pointer : Nat} (heq : ch.processed = ch.movedTo count pointer) (hc : count ≤ 255)
      (hp : pointer ≤ 256) (hone : ch.mode = .one → ch.quota - 1 ≤ 1 ∧ ch.quota - 1 ≤ count)
      (hall : ch.mode = .all → ch.quota - 1 = 0 ∨ ch.quota - 1 = count)
      (hgroup : ch.mode = .group → ch.quota - 1 ≤ ch.groupSize ∧ (1 ≤ ch.quota - 1 → 1 ≤ count))
      (hinside : (ch.movedTo count pointer).spanInside = true) :
      ch.processed.Formed ∧ ch.processed.spanInside = true := by
    rw [heq]
    refine ⟨⟨?_, ?_, ⟨hsize, hsize16⟩, hbase, hc, hp, hone, hall, hgroup, fun _ => hinside⟩, hinside⟩
    · rw [movedTo_state]
      split
      · next hzero => simp [Channel.movedTo, hzero]
      · next hmore => simpa [Channel.movedTo] using Nat.one_le_iff_ne_zero.mpr hmore
    · rw [movedTo_state]
      split <;> simp [Channel.movedTo]
  obtain ⟨hm, hp⟩ | ⟨hm, hp⟩ | ⟨hm, hp⟩ | ⟨hm, hp⟩ := legal_of_spanInside hspan
  · have hpositive : 1 ≤ ch.count := by
      rcases hm with hm | hm
      · exact Nat.le_trans hquota (h.one hm).2
      · rcases h.all hm with hq | hq <;> omega
    rw [spanInside_advance hm hp] at hspan
    refine formed (processed_advance hm hp) (by omega) (by omega) (fun ho => ?_) (fun ha => ?_) (fun hg => ?_)
      ((spanInside_advance (ch := ch.movedTo _ _) hm hp).mpr ?_)
    · have := h.one ho; omega
    · have := h.all ha; omega
    · rcases hm with hm | hm <;> simp [hm] at hg
    · simp only [Channel.movedTo]
      omega
  · have hone := h.one hm
    rw [spanInside_hold hm hp] at hspan
    exact formed (processed_hold hm hp) (by omega) h.pointer (fun _ => by omega) (fun ha => by simp [hm] at ha)
      (fun hg => by simp [hm] at hg) ((spanInside_hold (ch := ch.movedTo _ _) hm hp).mpr hspan)
  · obtain ⟨hle, hpositive⟩ := h.group hm
    have hpositive := hpositive hquota
    rw [spanInside_groupAdvance hm hp, if_neg (Nat.ne_of_gt hquota)] at hspan
    refine formed (processed_groupAdvance hm hp) (by split <;> omega) (by omega) (fun ho => by simp [hm] at ho)
      (fun ha => by simp [hm] at ha) (fun _ => ⟨by omega, fun _ => by split <;> omega⟩)
      ((spanInside_groupAdvance (ch := ch.movedTo _ _) hm hp).mpr ?_)
    simp only [Channel.movedTo]
    split
    · right; omega
    · omega
  · obtain ⟨hle, hpositive⟩ := h.group hm
    have hpositive := hpositive hquota
    rw [spanInside_groupRewind hm hp, if_neg (Nat.ne_of_gt hquota)] at hspan
    refine formed (processed_groupRewind hm hp) (by split <;> omega) (by split <;> omega)
      (fun ho => by simp [hm] at ho) (fun ha => by simp [hm] at ha)
      (fun _ => ⟨by omega, fun _ => by split <;> omega⟩)
      ((spanInside_groupRewind (ch := ch.movedTo _ _) hm hp).mpr ?_)
    simp only [Channel.movedTo]
    split
    · exact ⟨by omega, .inr hspan.2⟩
    · exact ⟨by omega, hspan.2⟩

theorem processed_ne_idle (ch : Channel) : ch.processed.state ≠ .idle := by
  unfold Channel.processed
  dsimp only
  (repeat' split) <;> simp

/-! ## Starts (R124, R135) -/

/-- The record after a start taken in IDLE. -/
def Channel.started (ch : Channel) (source : StartSource) : Channel :=
  if ch.count = 0 then { ch.opened source with state := .idle, quota := 0, outstanding := 0 }
  else { ch.opened source with state := .stepping, quota := ch.startQuota }

theorem takeStart_channel (s : State) (k : ChannelId) (source : StartSource) (j : ChannelId) :
    (s.takeStart k source).channel j = if j = k then (s.channel k).started source else s.channel j := by
  have hsource : ∀ i, (s.startTaken source).channel i = s.channel i := by
    intro i
    cases source <;> simp [State.startTaken]
  by_cases hcount : (s.channel k).count = 0
  · obtain ⟨hrecord, hothers, -⟩ := takeStart_closes hcount source
    split
    · next heq =>
      rw [heq, hrecord]
      simp [Channel.started, hcount]
    · next hne => rw [hothers j hne, hsource]
  · rw [takeStart_steps hcount, setChannel_startTaken, channel_setChannel]
    split
    · simp [Channel.started, hcount, Channel.startQuota, Channel.opened]
    · exact hsource j

theorem Channel.Formed.started {ch : Channel} (h : ch.Formed) (hspan : ch.spanInside = true) (hidle : ch.state = .idle)
    (source : StartSource) : (ch.started source).Formed ∧ (ch.started source).spanInside = true := by
  have hquota := quota_eq_zero h (.inl hidle)
  have hwaiting := waiting_eq_none h (by simp [hidle])
  obtain ⟨hsize, hsize16⟩ := h.groupSize
  unfold Channel.started
  split
  case isTrue hcount =>
    have hinside : ({ ch.opened source with state := .idle, quota := 0, outstanding := 0 } : Channel).spanInside = true := by
      rw [← hspan]
      simp only [Channel.spanInside, Channel.opened, hquota]
    exact ⟨⟨by simp, by simp [Channel.opened, hwaiting], ⟨hsize, hsize16⟩, h.base, h.count, h.pointer, fun _ => by simp,
      fun _ => .inl rfl, fun _ => by simp, fun _ => hinside⟩, hinside⟩
  case isFalse hcount =>
    have hpositive : 1 ≤ ch.count := Nat.pos_of_ne_zero hcount
    have steps {quota : Nat} (heq : ch.startQuota = quota) (h1 : 1 ≤ quota) (hone : ch.mode = .one → quota ≤ 1)
        (hall : ch.mode = .all → quota = ch.count) (hgroup : ch.mode = .group → quota ≤ ch.groupSize)
        (hinside : ({ ch.opened source with state := .stepping, quota := quota } : Channel).spanInside = true) :
        ({ ch.opened source with state := .stepping, quota := ch.startQuota } : Channel).Formed
          ∧ ({ ch.opened source with state := .stepping, quota := ch.startQuota } : Channel).spanInside = true := by
      rw [heq]
      exact ⟨⟨by simpa using h1, by simp [Channel.opened, hwaiting], ⟨hsize, hsize16⟩, h.base, h.count, h.pointer,
        fun hm => ⟨hone hm, Nat.le_trans (hone hm) hpositive⟩, fun hm => .inr (hall hm), fun hm => ⟨hgroup hm, fun _ => hpositive⟩,
        fun _ => hinside⟩, hinside⟩
    obtain ⟨hm, hp⟩ | ⟨hm, hp⟩ | ⟨hm, hp⟩ | ⟨hm, hp⟩ := legal_of_spanInside hspan
    · have hinside {quota : Nat} : ({ ch.opened source with state := .stepping, quota := quota } : Channel).spanInside = true :=
        (spanInside_advance (ch := { ch.opened source with state := .stepping, quota := quota }) hm hp).mpr
          ((spanInside_advance hm hp).mp hspan)
      rcases hm with hm | hm
      · exact steps (quota := 1) (by simp [Channel.startQuota, hm]) (Nat.le_refl 1) (fun _ => Nat.le_refl 1) (by simp [hm])
          (by simp [hm]) hinside
      · exact steps (quota := ch.count) (by simp [Channel.startQuota, hm]) hpositive (by simp [hm]) (fun _ => rfl)
          (by simp [hm]) hinside
    · exact steps (quota := 1) (by simp [Channel.startQuota, hm]) (Nat.le_refl 1) (fun _ => Nat.le_refl 1) (by simp [hm])
        (by simp [hm]) ((spanInside_hold (ch := { ch.opened source with state := .stepping, quota := 1 }) hm hp).mpr
          ((spanInside_hold hm hp).mp hspan))
    · refine steps (quota := ch.groupSize) (by simp [Channel.startQuota, hm]) hsize (by simp [hm]) (by simp [hm])
        (fun _ => Nat.le_refl _) ((spanInside_groupAdvance
          (ch := { ch.opened source with state := .stepping, quota := ch.groupSize }) hm hp).mpr ?_)
      rw [spanInside_groupAdvance hm hp, if_pos hquota] at hspan
      have hproduct : ch.count * ch.groupSize = ch.groupSize + (ch.count - 1) * ch.groupSize := by
        rw [Nat.sub_one_mul]
        have := Nat.le_mul_of_pos_left ch.groupSize hpositive
        omega
      rw [if_neg (Nat.ne_of_gt hsize)]
      simp only [Channel.opened]
      omega
    · refine steps (quota := ch.groupSize) (by simp [Channel.startQuota, hm]) hsize (by simp [hm]) (by simp [hm])
        (fun _ => Nat.le_refl _) ((spanInside_groupRewind
          (ch := { ch.opened source with state := .stepping, quota := ch.groupSize }) hm hp).mpr ?_)
      rw [spanInside_groupRewind hm hp, if_pos hquota] at hspan
      rw [if_neg (Nat.ne_of_gt hsize)]
      simp only [Channel.opened]
      omega

/-- A start taken by an IDLE channel without a pending start leaves a record as the events leave it. -/
theorem Channel.Formed.started_kept {ch : Channel} (h : ch.Formed) (hrun : ch.Running) (hidle : ch.state = .idle)
    (hpending : ch.pendingStart = none) (source : StartSource) : (ch.started source).Kept false := by
  obtain ⟨hformed, hinside⟩ := h.started hrun.span hidle source
  refine ⟨hformed, fun _ => ?_, fun _ => ⟨hinside, ?_, ?_⟩⟩
  · unfold Channel.started
    split <;> exact hpending
  · unfold Channel.started
    split <;> simp
  · unfold Channel.started
    split <;> simp

/-! ## Events -/

theorem ChannelsKept.of_same {s t : State} (hs : ChannelsKept s) (hchannels : t.rest.channels = s.rest.channels)
    (hhalted : t.halted = s.halted) : ChannelsKept t := by
  intro k
  have hk : t.channel k = s.channel k := by simp [State.channel, hchannels]
  rw [hk, hhalted]
  exact hs k

theorem ChannelsKept.setChannel {s : State} (hs : ChannelsKept s) (k : ChannelId) {ch : Channel}
    (hch : ch.Kept s.halted) : ChannelsKept (s.setChannel k ch) := by
  intro j
  rw [channel_setChannel, setChannel_halted]
  split
  · exact hch
  · exact hs j

/-- A pending start recorded at a busy channel. -/
theorem Channel.Kept.withPending {halted : Bool} {ch : Channel} (h : ch.Kept halted) (hbusy : ch.state ≠ .idle)
    (source : Option StartSource) : ({ ch with pendingStart := source } : Channel).Kept halted := by
  obtain ⟨⟨hquota, hwaiting, hsize, hbase, hcount, hpointer, hone, hall, hgroup, hspan⟩, -, hrun⟩ := h
  refine ⟨⟨hquota, hwaiting, hsize, hbase, hcount, hpointer, hone, hall, hgroup, hspan⟩,
    fun hidle => absurd hidle hbusy, fun hh => ?_⟩
  obtain ⟨hinside, hawaiting, hidle⟩ := hrun hh
  exact ⟨hinside, hawaiting, hidle⟩

/-- Between step 1 and step 5 of R135 at a channel: it is IDLE and may have a start pending still. -/
structure Closing (k : ChannelId) (s : State) : Prop where
  running : s.halted = false
  closed : (s.channel k).state = .idle
  formed : ∀ j, (s.channel j).Formed
  run : ∀ j, (s.channel j).Running
  pending : ∀ j, j ≠ k → (s.channel j).state = .idle → (s.channel j).pendingStart = none

theorem Closing.kept {k : ChannelId} {s : State} (h : Closing k s) {j : ChannelId} (hj : j ≠ k) :
    (s.channel j).Kept false :=
  ⟨h.formed j, h.pending j hj, fun _ => h.run j⟩

/-- A channel that closes in AWAITING, or starts with no entry left, is IDLE with its record in shape. -/
theorem Channel.Formed.closed {ch : Channel} (h : ch.Formed) (hspan : ch.spanInside = true) (hquota : ch.quota = 0)
    (hwaiting : ch.waiting = none) :
    ({ ch with state := .idle, quota := 0, outstanding := 0 } : Channel).Formed
      ∧ ({ ch with state := .idle, quota := 0, outstanding := 0 } : Channel).Running := by
  have heq : ({ ch with state := .idle, quota := 0, outstanding := 0 } : Channel).spanInside = true := by
    rw [← hspan]
    simp only [Channel.spanInside, hquota]
  exact ⟨⟨by simp, by simp [hwaiting], h.groupSize, h.base, h.count, h.pointer, fun _ => by simp, fun _ => .inl rfl,
    fun _ => by simp, fun _ => heq⟩, heq, by simp, fun _ => rfl⟩

theorem Closing.closeStart {s : State} {k : ChannelId} (hothers : ∀ j, j ≠ k → (s.channel j).Kept s.halted)
    (hk : (s.channel k).Formed) (hspan : (s.channel k).spanInside = true) (hstate : (s.channel k).state = .awaiting)
    (hrunning : s.halted = false) : Closing k (s.closeStart k .done) := by
  have hclose := startCloses_done s k
  have hframe := ChannelFrame.of_startCloses hclose
  obtain ⟨hrecord, hsame, -⟩ := hclose
  obtain ⟨hformed, hrun⟩ := hk.closed hspan (quota_eq_zero hk (.inr hstate)) (waiting_eq_none hk (by simp [hstate]))
  have hother {j : ChannelId} (hj : j ≠ k) : ((s.closeStart k .done).channel j).Kept false := by
    rw [hsame j hj, ← hrunning]
    exact hothers j hj
  refine ⟨hframe.halted.trans hrunning, by rw [hrecord], fun j => ?_, fun j => ?_, fun j hj => (hother hj).pending⟩
  · by_cases hj : j = k
    · rwa [hj, hrecord]
    · exact (hother hj).formed
  · by_cases hj : j = k
    · rwa [hj, hrecord]
    · exact (hother hj).running rfl

/-- The link of a completion reaches a channel that is not the one that closes, or finds that one with no entry left. -/
theorem Closing.followLink {s : State} {k : ChannelId} (h : Closing k s) : Closing k (s.followLink k) := by
  have hframe := ChannelFrame.followLink s k
  suffices hrecords : ∀ j, ((s.followLink k).channel j).Formed ∧ ((s.followLink k).channel j).Running
      ∧ (j ≠ k → ((s.followLink k).channel j).state = .idle → ((s.followLink k).channel j).pendingStart = none)
      ∧ (j = k → ((s.followLink k).channel j).state = .idle) from
    ⟨hframe.halted.trans h.running, (hrecords k).2.2.2 rfl, fun j => (hrecords j).1, fun j => (hrecords j).2.1,
      fun j => (hrecords j).2.2.1⟩
  have hsame (j : ChannelId) : (s.channel j).Formed ∧ (s.channel j).Running
      ∧ (j ≠ k → (s.channel j).state = .idle → (s.channel j).pendingStart = none)
      ∧ (j = k → (s.channel j).state = .idle) :=
    ⟨h.formed j, h.run j, h.pending j, fun hj => hj ▸ h.closed⟩
  intro j
  unfold State.followLink
  dsimp only
  split
  case isFalse => exact hsame j
  case isTrue hlink =>
    by_cases hidle : (s.channel (s.channel k).linkTarget).state = .idle
    · rw [deliverStart_idle hidle, takeStart_channel]
      split
      case isFalse => exact hsame j
      case isTrue hj =>
        obtain ⟨hformed, hinside⟩ := (h.formed _).started (h.run _).span hidle (.link k)
        by_cases htarget : (s.channel k).linkTarget = k
        · rw [htarget] at hj hformed hinside ⊢
          have hclosed : ((s.channel k).started (.link k)).state = .idle
              ∧ ((s.channel k).started (.link k)).outstanding = 0 := by
            simp [Channel.started, hlink.1]
          exact ⟨hformed, ⟨hinside, by simp [hclosed.1], fun _ => hclosed.2⟩, fun hne => absurd hj hne, fun _ => hclosed.1⟩
        · obtain ⟨hformed, hpending, hrun⟩ :=
            (h.formed _).started_kept (h.run _) hidle (h.pending _ htarget hidle) (.link k)
          exact ⟨hformed, hrun rfl, fun _ => hpending, fun heq => absurd (hj.symm.trans heq) htarget⟩
    · rw [deliverStart_busy hidle, channel_setChannel]
      split
      case isFalse => exact hsame j
      case isTrue hj =>
        have htarget : (s.channel k).linkTarget ≠ k := fun heq => hidle (by rw [heq]; exact h.closed)
        obtain ⟨hformed, hpending, hrun⟩ := (h.kept htarget).withPending hidle (some (.link k))
        exact ⟨hformed, hrun rfl, fun _ => hpending, fun heq => absurd (hj.symm.trans heq) htarget⟩

theorem Closing.takePending {s : State} {k : ChannelId} (h : Closing k s) : ChannelsKept (s.takePending k) := by
  have hhalted := (ChannelFrame.takePending s k).halted.trans h.running
  intro j
  rw [hhalted]
  unfold State.takePending
  dsimp only
  split
  · next hnone =>
    by_cases hj : j = k
    · exact hj ▸ ⟨h.formed k, fun _ => hnone, fun _ => h.run k⟩
    · exact h.kept hj
  · next source _ =>
    rw [takeStart_channel]
    split
    · have hk : ({ s.channel k with pendingStart := none } : Channel).Formed
          ∧ ({ s.channel k with pendingStart := none } : Channel).Running := by
        obtain ⟨hquota, hwaiting, hsize, hbase, hcount, hpointer, hone, hall, hgroup, hspan⟩ := h.formed k
        obtain ⟨hinside, hawaiting, hidle⟩ := h.run k
        exact ⟨⟨hquota, hwaiting, hsize, hbase, hcount, hpointer, hone, hall, hgroup, hspan⟩, hinside, hawaiting, hidle⟩
      rw [channel_setChannel, if_pos rfl]
      exact hk.1.started_kept hk.2 h.closed rfl source
    · next hj =>
      rw [channel_setChannel, if_neg hj]
      exact h.kept hj

/-- A channel that has moved on or has an outcome counted completes where it awaits nothing, and else stays in shape. -/
theorem completeIfDone_kept {s : State} {k : ChannelId} (hothers : ∀ j, j ≠ k → (s.channel j).Kept s.halted)
    (hk : (s.channel k).Formed) (hbusy : (s.channel k).state ≠ .idle)
    (hspan : s.halted = false → (s.channel k).spanInside = true) : ChannelsKept (s.completeIfDone k) := by
  by_cases hdone : s.halted = true ∨ (s.channel k).state ≠ .awaiting ∨ (s.channel k).outstanding ≠ 0
  · rw [completeIfDone_not hdone]
    intro j
    by_cases hj : j = k
    · rw [hj]
      refine ⟨hk, fun hidle => absurd hidle hbusy, fun hrunning => ⟨hspan hrunning, fun hawaiting => ?_,
        fun hidle => absurd hidle hbusy⟩⟩
      simp only [hrunning, Bool.false_eq_true, hawaiting, ne_eq, not_true_eq_false, false_or] at hdone
      exact Nat.pos_of_ne_zero hdone
    · exact hothers j hj
  · rw [not_or, not_or, Bool.not_eq_true] at hdone
    obtain ⟨hrunning, hawaiting, hnone⟩ := hdone
    rw [Decidable.not_not] at hawaiting hnone
    rw [completeIfDone_done hrunning hawaiting hnone]
    exact (Closing.closeStart hothers hk (hspan hrunning) hawaiting hrunning).followLink.takePending

theorem entryProcessed_kept {s : State} (hs : ChannelsKept s) {k : ChannelId} {ch : Channel} (hch : ch.Formed)
    (hreads : ch.Reads) : ChannelsKept (s.entryProcessed k ch) := by
  obtain ⟨hformed, hinside⟩ := hch.processed hreads
  have hrecord : (s.setChannel k ch.processed).channel k = ch.processed := by simp
  refine completeIfDone_kept (fun j hj => ?_) (by rwa [hrecord]) (by rw [hrecord]; exact processed_ne_idle ch)
    (fun _ => by rwa [hrecord])
  rw [channel_setChannel, if_neg hj, setChannel_halted]
  exact hs j

theorem drainOutcome_kept {s : State} (hs : ChannelsKept s) (k : ChannelId) (outcome : DrainOutcome) :
    ChannelsKept (s.drainOutcome k outcome) := by
  by_cases hquiet : s.halted = true ∨ (s.channel k).state = .idle
  · rwa [drainOutcome_ignored hquiet]
  · simp only [not_or, Bool.not_eq_true] at hquiet
    obtain ⟨hrunning, hbusy⟩ := hquiet
    rw [drainOutcome_counted hrunning hbusy]
    have hcounted : ((s.channel k).countOutcome outcome).Formed
        ∧ ((s.channel k).countOutcome outcome).state = (s.channel k).state
        ∧ ((s.channel k).countOutcome outcome).spanInside = (s.channel k).spanInside := by
      obtain ⟨hquota, hwaiting, hsize, hbase, hcount, hpointer, hone, hall, hgroup, hspan⟩ := (hs k).formed
      cases outcome <;>
        exact ⟨⟨hquota, hwaiting, hsize, hbase, hcount, hpointer, hone, hall, hgroup, hspan⟩, rfl, rfl⟩
    obtain ⟨hformed, hstate, hinside⟩ := hcounted
    have hrecord : (s.setChannel k ((s.channel k).countOutcome outcome)).channel k
        = (s.channel k).countOutcome outcome := by simp
    refine completeIfDone_kept (fun j hj => ?_) (by rwa [hrecord]) (by rwa [hrecord, hstate])
      (fun _ => by rw [hrecord, hinside]; exact ((hs k).running hrunning).span)
    rw [channel_setChannel, if_neg hj, setChannel_halted]
    exact hs j

theorem deliverStart_kept {s : State} (hs : ChannelsKept s) (hrunning : s.halted = false) (k : ChannelId)
    (source : StartSource) : ChannelsKept (s.deliverStart k source) := by
  by_cases hidle : (s.channel k).state = .idle
  · intro j
    rw [(ChannelFrame.deliverStart s k source).halted, hrunning, deliverStart_idle hidle, takeStart_channel]
    split
    · obtain ⟨hformed, hpending, hrun⟩ := hs k
      exact hformed.started_kept (hrun hrunning) hidle (hpending hidle) source
    · exact hrunning ▸ hs j
  · rw [deliverStart_busy hidle]
    exact hs.setChannel k ((hs k).withPending hidle _)

/-- A channel whose tenant has no free slot waits (R129). -/
theorem Channel.Kept.waits {halted : Bool} {ch : Channel} (h : ch.Kept halted) (hreads : ch.Reads) (t : TenantId) :
    ({ ch with state := .blocked, waiting := some t } : Channel).Kept halted := by
  obtain ⟨⟨hquota, hwaiting, hsize, hbase, hcount, hpointer, hone, hall, hgroup, hspan⟩, -, hrun⟩ := h
  have hpositive := hquota.mpr hreads
  exact ⟨⟨by simpa using hpositive, by simp, hsize, hbase, hcount, hpointer, hone, hall, hgroup, hspan⟩, by simp,
    fun _ => ⟨hspan hpositive, by simp, by simp⟩⟩

theorem stopped_kept {ch : Channel} (h : ch.Formed) : ch.stopped.Kept true :=
  ⟨⟨by simp [Channel.stopped], by simp [Channel.stopped], h.groupSize, h.base, h.count, h.pointer,
    fun _ => by simp [Channel.stopped], fun _ => .inl rfl, fun _ => by simp [Channel.stopped],
    fun hquota => by simp [Channel.stopped] at hquota⟩, fun _ => rfl, by simp⟩

/-- The span check of WRITE_CHANNEL leaves the new plan inside the Rest List (R122). -/
theorem rewritten_spanInside {c : ChannelSetting} (hc : c.Accepted) (ch : Channel) :
    (ch.rewritten c).spanInside = true := by
  have hspan := hc.span
  unfold ChannelSetting.spanOk ChannelSetting.spanLength at hspan
  unfold Channel.spanInside
  simp only [Channel.rewritten]
  cases hm : c.mode <;> cases hp : c.pointerMode <;> simp_all <;> exact hspan.imp_right decide_eq_true

theorem rewritten_kept {halted : Bool} {ch : Channel} {c : ChannelSetting} (h : ch.Kept halted) (hidle : ch.state = .idle)
    (hpending : ch.pendingStart = none) (hc : c.Accepted) : (ch.rewritten c).Kept halted := by
  have hwaiting := waiting_eq_none h.formed (by simp [hidle])
  have hinside := rewritten_spanInside hc ch
  exact ⟨⟨by simp [Channel.rewritten, hidle], by simp [Channel.rewritten, hwaiting, hidle], hc.groupSize, hc.base, hc.count,
    Nat.le_trans hc.base (by decide), fun _ => by simp [Channel.rewritten], fun _ => .inl rfl, fun _ => by simp [Channel.rewritten],
    fun _ => hinside⟩, fun _ => hpending, fun hrunning => ⟨hinside, by simp [Channel.rewritten, hidle],
    (h.running hrunning).idle⟩⟩

theorem initial_kept (halted : Bool) : Channel.initial.Kept halted :=
  ⟨⟨by simp [Channel.initial], by simp [Channel.initial], by simp [Channel.initial], by simp [Channel.initial],
    by simp [Channel.initial], by simp [Channel.initial], by simp [Channel.initial], by simp [Channel.initial],
    by simp [Channel.initial], fun _ => rfl⟩, fun _ => rfl, fun _ => ⟨rfl, by simp [Channel.initial], fun _ => rfl⟩⟩

theorem deviceReset_channel (s : State) (k : ChannelId) : s.deviceReset.channel k = Channel.initial := by
  simp [State.deviceReset, State.channel, State.reset, RestChannels.initial]

theorem channelsKept_grants : KeptByGrants False ChannelsKept :=
  have records : KeptByRecords False ChannelsKept :=
    { aside := fun hs ha => hs.of_same (by rw [ha.rest]) ha.halted, carrier := fun hs _ => hs.of_same rfl rfl,
      branch := fun hs _ => hs.of_same rfl rfl }
  records.grants (fun hs => hs.of_same rfl rfl) (fun hs => hs.of_same rfl rfl)

theorem channelsKept_work : KeptByWork False ChannelsKept where
  toKeptByRecords := channelsKept_grants.toKeptByRecords
  enterQueued := channelsKept_grants.enterQueued
  raiseQueued := channelsKept_grants.raiseQueued
  powerGood := channelsKept_grants.powerGood_considered
  failRaise := channelsKept_grants.failRaise
  decline := fun {s k reason} hs hreads => by
    obtain ⟨hquota, hwaiting, hsize, hbase, hcount, hpointer, hone, hall, hgroup, hspan⟩ := (hs k).formed
    exact entryProcessed_kept hs
      ⟨hquota, hwaiting, hsize, hbase, hcount, hpointer, hone, hall, hgroup, hspan⟩ hreads
  entry := fun {s k} hs hreads => by
    obtain ⟨hquota, hwaiting, hsize, hbase, hcount, hpointer, hone, hall, hgroup, hspan⟩ := (hs k).formed
    exact entryProcessed_kept hs
      ⟨hquota, hwaiting, hsize, hbase, hcount, hpointer, hone, hall, hgroup, hspan⟩ hreads
  wait := fun {s k t} hs hreads => hs.setChannel k ((hs k).waits hreads t)
  outcome hs := drainOutcome_kept hs _ _
  deliverStart hs hrunning := deliverStart_kept hs hrunning _ _
  stop := fun {s k} hs hhalted => hs.setChannel k (hhalted ▸ stopped_kept (hs k).formed)
  halt hs _ k := ⟨(hs k).formed, (hs k).pending, fun h => by simp [State.halted] at h⟩
  pendingLevel := False.elim
  wakeLevel := False.elim

/-- Every channel record stays as the events leave it, in SAFE_HALT too. -/
theorem channelsKept_kept : KeptByCommands False ChannelsKept where
  toKeptByWork := channelsKept_work
  place hs _ _ _ := hs.of_same rfl rfl
  vacate hs _ _ := hs.of_same rfl rfl
  remove hs _ _ := hs.of_same rfl rfl
  provisionBranch hs _ := hs.of_same rfl rfl
  deprovisionBranch hs _ _ := hs.of_same rfl rfl
  budget hs _ _ := by
    split
    · exact channelsKept_grants.considerGrants (hs.of_same rfl rfl)
    · exact hs.of_same rfl rfl
  rewrite := fun {s k c} hs hidle hpending hc => hs.setChannel k (rewritten_kept (hs k) hidle hpending hc)
  list hs := hs.of_same rfl rfl
  input hs _ _ := hs.of_same rfl rfl
  inputLevel := False.elim
  openWindow hs _ := hs.of_same rfl rfl
  closeEvent hs := channelsKept_work.closeEvent_of_timer (fun hu => hu.of_same rfl rfl) hs _
  shadow hs _ := hs.of_same rfl rfl
  swap hs := hs.of_same rfl rfl
  swapLater hs _ := hs.of_same rfl rfl
  siteTime _ hu _ := hu.of_same rfl rfl
  stepTime hs _ := hs.of_same rfl rfl
  deviceReset _ k := by
    rw [deviceReset_channel]
    exact initial_kept _

/-! ## The statement -/

theorem Channel.Kept.wellShaped {halted : Bool} {ch : Channel} (h : ch.Kept halted)
    (hquiet : halted = true → ch.state = .idle) : ch.WellShaped := by
  have hawaiting : ch.state = .awaiting → 1 ≤ ch.outstanding := by
    intro hstate
    cases halted with
    | true => simp [hquiet rfl] at hstate
    | false => exact (h.running rfl).awaiting hstate
  exact ⟨h.formed.quota, h.pending, h.formed.waiting, hawaiting, h.formed.groupSize.1, h.formed.groupSize.2, h.formed.base,
    h.formed.count, h.formed.pointer, fun hm => (h.formed.one hm).1, fun hm => (h.formed.group hm).1,
    fun hm => (h.formed.one hm).2, h.formed.all, fun hm => (h.formed.group hm).2⟩

theorem channelsKept_iff {s : State} (hquiet : HaltQuiet s) : ChannelsKept s ↔ ChannelsShaped s := by
  constructor
  · intro h
    exact ⟨fun k => (h k).wellShaped fun hhalted => (hquiet hhalted).2.2 k,
      fun hrunning k => ⟨((h k).running hrunning).span, ((h k).running hrunning).idle⟩⟩
  · rintro ⟨hshaped, hrun⟩ k
    obtain ⟨hquota, hpending, hwaiting, hawaiting, hsize, hsize16, hbase, hcount, hpointer, hone, hgroup, honeCount, hall,
      hgroupCount⟩ := hshaped k
    have hspan : 1 ≤ (s.channel k).quota → (s.channel k).spanInside = true := by
      intro hpositive
      cases hhalted : s.halted with
      | true => simp [hquota, (hquiet hhalted).2.2 k] at hpositive
      | false => exact (hrun hhalted k).1
    exact ⟨⟨hquota, hwaiting, ⟨hsize, hsize16⟩, hbase, hcount, hpointer, fun hm => ⟨hone hm, honeCount hm⟩, hall,
      fun hm => ⟨hgroup hm, hgroupCount hm⟩, hspan⟩, hpending,
      fun hrunning => ⟨(hrun hrunning k).1, hawaiting, (hrun hrunning k).2⟩⟩

/-- Settles O58: within an event a channel keeps its record in shape while it closes with a start still pending, and in
SAFE_HALT every channel is IDLE (O54). -/
theorem channelsStayShaped : Obligations.ChannelsStayShaped := by
  unfold Obligations.ChannelsStayShaped
  rintro s t ⟨hquiet, hshaped⟩ hstep
  have hquiet' := aHaltStaysQuiet s t hquiet hstep
  have hkept := channelsKept_kept.step s t ((channelsKept_iff hquiet).mpr hshaped) hstep
  exact ⟨hquiet', (channelsKept_iff hquiet').mp hkept⟩

end Sys2Proof.Machine

/-!
SUPPORT. Site time and the window records through the commands (R99, R101, R102, R107): O57. Only the window events, the
window requests and site time reach the Window Timer.
-/
namespace Sys2Proof.Machine
open Sys2Proof

theorem timer_grants (T : WindowTimer) : KeptByGrants False (fun u => u.timer = T) :=
  have records : KeptByRecords False (fun u => u.timer = T) :=
    { aside := fun hs ha => ha.timer.trans hs, carrier := fun hs _ => hs, branch := fun hs _ => hs }
  records.grants (fun hs => hs) (fun hs => hs)

/-- The blocks' own work leaves the Window Timer as it is. -/
theorem timer_kept (T : WindowTimer) : KeptByWork False (fun u => u.timer = T) where
  toKeptByRecords := (timer_grants T).toKeptByRecords
  enterQueued := (timer_grants T).enterQueued
  raiseQueued := (timer_grants T).raiseQueued
  powerGood := (timer_grants T).powerGood_considered
  failRaise := (timer_grants T).failRaise
  decline hs _ := (ChannelFrame.entryProcessed _ _ _).timer.trans hs
  entry hs _ := (ChannelFrame.entryProcessed _ _ _).timer.trans hs
  wait hs _ := hs
  outcome hs := (ChannelFrame.drainOutcome _ _ _).timer.trans hs
  deliverStart hs _ := (ChannelFrame.deliverStart _ _ _).timer.trans hs
  stop hs _ := hs
  halt hs _ := hs
  pendingLevel := False.elim
  wakeLevel := False.elim

/-- What WindowsShaped asks of one window record. -/
def Window.Shaped (timeValid : Bool) (r : Window) : Prop :=
  r.active.WellFormed ∧ r.shadow.WellFormed ∧ (r.swapPending = true → r.state = .isOpen)
    ∧ (r.state = .isOpen → timeValid = true)

theorem windowsShaped_of_timer {s t : State} (hs : WindowsShaped s) (h : t.timer = s.timer) : WindowsShaped t := by
  simpa [WindowsShaped, State.now, State.window, h] using hs

theorem windowsShaped_setWindow {s : State} (hs : WindowsShaped s) (w : WindowId) {r : Window}
    (hr : r.Shaped s.timer.timeValid) : WindowsShaped (s.setWindow w r) := by
  obtain ⟨hnow, hwindows⟩ := hs
  refine ⟨by simpa using hnow, fun v => ?_⟩
  rw [window_setWindow, setWindow_timer_timeValid]
  split
  · exact hr
  · exact hwindows v

/-- The close event closes the window, and swaps its sets at its end if a swap is pending; what it does between leaves
the Window Timer as it is. -/
theorem closeEvent_timer (s : State) (w : WindowId) :
    ∃ u : State, u.timer = (s.setWindow w { s.window w with state := .closed }).timer ∧ s.closeEvent w = u.closeSwap w := by
  have hwork := timer_kept (s.setWindow w { s.window w with state := .closed }).timer
  have hclosed : (s.closeWindow w).timer = (s.setWindow w { s.window w with state := .closed }).timer := rfl
  have hcancelled := foldl_keeps (fun u => u.timer = _) (fun u c hu => hwork.closeCancels hu w c) carrierIds hclosed
  have hround := foldl_kept (fun _ c hr => hwork.deliverClose hr w c) carrierIds (start_kept hcancelled)
  exact ⟨_, hwork.endLatchedHold (hwork.finish hround), rfl⟩

theorem closeEvent_windowsShaped {s : State} (hs : WindowsShaped s) (w : WindowId) : WindowsShaped (s.closeEvent w) := by
  obtain ⟨u, htimer, hclose⟩ := closeEvent_timer s w
  obtain ⟨hnow, hwindows⟩ := hs
  have hwindow (v : WindowId) : u.window v = if v = w then { s.window w with state := .closed } else s.window v := by
    rw [← window_setWindow]
    simp only [State.window, htimer]
  have hvalid : u.timer.timeValid = s.timer.timeValid := by rw [htimer, setWindow_timer_timeValid]
  have hw : u.window w = { s.window w with state := .closed } := by rw [hwindow, if_pos rfl]
  have hother {v : WindowId} (hv : v ≠ w) : u.window v = s.window v := by rw [hwindow, if_neg hv]
  have hnow' : u.now < Config.weekSeconds := by
    have htime : u.now = s.now := by rw [State.now, htimer, setWindow_timer_siteTime, State.now]
    rwa [htime]
  obtain ⟨hactive, hshadow, -, -⟩ := hwindows w
  rw [hclose, State.closeSwap]
  split
  · refine ⟨hnow', fun v => ?_⟩
    rw [window_setWindow, setWindow_timer_timeValid]
    split
    · exact ⟨by simpa [hw] using hshadow, by simpa [hw] using hshadow, by simp, by simp [hw]⟩
    · next hv =>
      rw [hother hv, hvalid]
      exact hwindows v
  · next hpending =>
    refine ⟨hnow', fun v => ?_⟩
    by_cases hv : v = w
    · subst hv
      exact ⟨by simpa [hw] using hactive, by simpa [hw] using hshadow, fun h => absurd h hpending, by simp [hw]⟩
    · rw [hother hv, hvalid]
      exact hwindows v

theorem initial_shaped (timeValid : Bool) : Window.initial.Shaped timeValid := by
  have hset : WindowSet.disabled.WellFormed := by decide
  exact ⟨hset, hset, by simp [Window.initial], by simp [Window.initial]⟩

theorem windowsShaped_reset : WindowsShaped State.reset := by
  refine ⟨by decide, fun w => ?_⟩
  have hw : State.reset.window w = Window.initial := by
    simp [State.window, State.reset, WindowTimer.initial]
  rw [hw]
  exact initial_shaped _

theorem windowsShaped_grants : KeptByGrants False WindowsShaped :=
  have records : KeptByRecords False WindowsShaped :=
    { aside := fun hs ha => windowsShaped_of_timer hs ha.timer, carrier := fun hs _ => hs, branch := fun hs _ => hs }
  records.grants (fun hs => hs) (fun hs => hs)

theorem windowsShaped_kept : KeptByCommands False WindowsShaped where
  toKeptByRecords := windowsShaped_grants.toKeptByRecords
  enterQueued := windowsShaped_grants.enterQueued
  raiseQueued := windowsShaped_grants.raiseQueued
  powerGood := windowsShaped_grants.powerGood_considered
  failRaise := windowsShaped_grants.failRaise
  decline hs _ := windowsShaped_of_timer hs (ChannelFrame.entryProcessed _ _ _).timer
  entry hs _ := windowsShaped_of_timer hs (ChannelFrame.entryProcessed _ _ _).timer
  wait hs _ := hs
  outcome hs := windowsShaped_of_timer hs (ChannelFrame.drainOutcome _ _ _).timer
  deliverStart hs _ := windowsShaped_of_timer hs (ChannelFrame.deliverStart _ _ _).timer
  stop hs _ := hs
  halt hs _ := hs
  pendingLevel := False.elim
  wakeLevel := False.elim
  place hs _ _ _ := hs
  vacate hs _ _ := hs
  remove hs _ _ := hs
  provisionBranch hs _ := hs
  deprovisionBranch hs _ _ := hs
  budget := fun {s n} hs _ _ => by
    have hset : WindowsShaped (s.setArb { s.arb with budget := n }) := hs
    split
    · exact windowsShaped_grants.considerGrants hset
    · exact hset
  rewrite hs _ _ _ := hs
  list hs := hs
  input hs _ _ := hs
  inputLevel := False.elim
  openWindow := fun {s w} hs hopen => by
    obtain ⟨hactive, hshadow, -, -⟩ := hs.2 w
    have hvalid : s.timer.timeValid = true := (Bool.and_eq_true_iff.mp hopen).1
    exact windowsShaped_setWindow hs w ⟨hactive, hshadow, fun _ => rfl, fun _ => hvalid⟩
  closeEvent hs := closeEvent_windowsShaped hs _
  shadow := fun {s w ws} hs hset => by
    obtain ⟨hactive, -, hpending, hopen⟩ := hs.2 w
    exact windowsShaped_setWindow hs w ⟨hactive, hset, hpending, hopen⟩
  swap := fun {s w} hs => by
    obtain ⟨-, hshadow, hpending, hopen⟩ := hs.2 w
    exact windowsShaped_setWindow hs w ⟨hshadow, hshadow, hpending, hopen⟩
  swapLater := fun {s w} hs hstate => by
    obtain ⟨hactive, hshadow, -, hopen⟩ := hs.2 w
    exact windowsShaped_setWindow hs w ⟨hactive, hshadow, fun _ => hstate, hopen⟩
  siteTime := fun {s u n} hs hu hn => by
    refine ⟨?_, hu.2⟩
    rcases hn with hn | hn
    · simpa [hn] using hs.1
    · simpa [hn, nextSecond] using secondsAfter_lt s.now 1
  stepTime := fun {s n} hs hn => by
    refine ⟨hn, fun w => ?_⟩
    obtain ⟨hactive, hshadow, hpending, -⟩ := hs.2 w
    exact ⟨hactive, hshadow, hpending, fun _ => rfl⟩
  deviceReset _ := windowsShaped_reset

/-- Settles O57: a window is OPEN only by its evaluation, which asks for valid time, and its close event ends the swap
that was pending with it. -/
theorem windowsStayShaped : Obligations.WindowsStayShaped := windowsShaped_kept.step

end Sys2Proof.Machine

/-!
SUPPORT. The queues of the link ports through notices, frames, select periods and the commands (R183, R186 to R190): O52.
-/
namespace Sys2Proof.Machine
open Sys2Proof

/-! ## One port -/

namespace PortState.Bounded
variable {q : PortState}

theorem overflow_notin (h : q.Bounded) (hmark : q.overflow = false) : Notice.overflow ∉ q.notices := by
  obtain ⟨-, -, -, hlast, hdrop⟩ := h
  rcases List.eq_nil_or_concat q.notices with hnil | ⟨front, last, heq⟩
  · simp [hnil]
  · simp only [heq, List.concat_eq_append, List.getLast?_append, List.dropLast_concat] at hlast hdrop ⊢
    simp only [hmark, List.getLast?_singleton, Option.some_or] at hlast
    simp only [List.mem_append, List.mem_singleton, not_or]
    exact ⟨hdrop, fun hover => by simp [← hover] at hlast⟩

theorem post (h : q.Bounded) {n : Notice} (hn : n ≠ .overflow) : (q.post n).Bounded := by
  have hclean := h.overflow_notin
  obtain ⟨hinbound, hreplies, hnotices, hlast, hdrop⟩ := h
  unfold PortState.post
  split
  · exact ⟨hinbound, hreplies, hnotices, hlast, hdrop⟩
  · next hmark =>
    rw [Bool.not_eq_true] at hmark
    simp only [hmark, Bool.false_eq_true, ↓reduceIte, Config.noticePlaces] at hnotices
    split
    · next hroom =>
      refine ⟨hinbound, hreplies, ?_, by simp [hmark, hn], by simpa using hclean hmark⟩
      simp only [hmark, Bool.false_eq_true, ↓reduceIte, List.length_append, List.length_singleton,
        Config.noticePlaces] at hroom ⊢
      omega
    · exact ⟨hinbound, hreplies, by simpa [Config.noticePlaces, Nat.lt_succ_iff] using hnotices, by simp, by simpa using hclean hmark⟩

theorem postedTo {r : PortState} (h : q.Bounded) (hr : PostedTo q r) : r.Bounded := by
  obtain ⟨notices, hover, rfl⟩ := hr
  induction notices generalizing q with
  | nil => exact h
  | cons n notices ih =>
    rw [List.mem_cons, not_or] at hover
    exact ih (h.post (Ne.symm hover.1)) hover.2

theorem arrive (h : q.Bounded) (frame : List Byte) : (q.arrive frame).Bounded := by
  obtain ⟨hinbound, hrest⟩ := h
  unfold PortState.arrive
  split
  · next hroom => exact ⟨by rw [List.length_append]; exact hroom, hrest⟩
  · exact ⟨hinbound, hrest⟩

theorem removeRead (h : q.Bounded) (choice : ReadChoice) : (q.removeRead choice).Bounded := by
  unfold PortState.removeRead
  split
  · obtain ⟨hinbound, hreplies, hrest⟩ := h
    exact ⟨hinbound, Nat.le_trans (List.tail_sublist _).length_le hreplies, hrest⟩
  · obtain ⟨hinbound, hreplies, hnotices, hlast, hdrop⟩ := h
    refine ⟨hinbound, hreplies, ?_⟩
    dsimp only
    cases hq : q.notices with
    | nil => simp [hq] at hlast ⊢; simp [hlast]
    | cons n rest =>
      cases rest with
      | nil => simp [hq] at hlast ⊢; simp [hlast]
      | cons m rest =>
        rw [hq] at hnotices hlast hdrop
        simp only [List.dropLast_cons_cons, List.mem_cons, not_or] at hdrop
        have hn : (n == Notice.overflow) = false := by simpa using Ne.symm hdrop.1
        simp only [List.getLast?_cons_cons, List.length_cons] at hlast hnotices
        simp only [List.tail_cons, List.head?_cons, Option.some_beq_some, hn, Bool.not_false, Bool.and_true, List.length_cons]
        exact ⟨by omega, hlast, hdrop.2⟩
  · exact h

theorem endPeriod (h : q.Bounded) (period : SelectPeriod) : (q.endPeriod period).Bounded := by
  unfold PortState.endPeriod
  dsimp only
  split
  · exact h
  · split
    · exact PortState.Bounded.removeRead (q := { q with selected := none, dataOut := period.shifted }) h _
    · exact h
  · exact PortState.Bounded.arrive (q := { q with selected := none, dataOut := period.shifted }) h _
  · exact h

theorem written (h : q.Bounded) (frame : List Byte) : (q.written frame).Bounded :=
  PortState.Bounded.arrive
    (q := { q with selected := none, dataOut := (q.summary :: zeroBytes frame.length).take frame.length }) h frame

end PortState.Bounded

theorem initial_bounded : PortState.initial.Bounded := by decide

/-! ## The six ports -/

theorem mem_allPorts (p : Port) : p ∈ allPorts := by
  cases p with
  | tenant t =>
    have htenants : ∀ t : TenantId, Port.tenant t ∈ allPorts := by decide
    exact htenants t
  | plant => decide
  | fleet => decide

namespace PortsBounded
variable {s : State} (h : PortsBounded s)
include h

theorem setPort (p : Port) {q : PortState} (hq : q.Bounded) : PortsBounded (s.setPort p q) := by
  intro r hr
  rw [port_setPort]
  split
  · exact hq
  · exact h r hr

theorem onlyPosts {t : State} (ht : OnlyPosts s t) : PortsBounded t := by
  intro p hp
  exact (h p hp).postedTo (ht.1 p)

theorem takeOut (p : Port) (frame : List Byte) : PortsBounded (s.takeOut p frame) := by
  have hq := h p (mem_allPorts p)
  have htail {q : PortState} (hbounded : q.Bounded) : ({ q with inbound := q.inbound.tail } : PortState).Bounded :=
    ⟨Nat.le_trans (List.tail_sublist _).length_le hbounded.1, hbounded.2⟩
  refine h.setPort p (htail ?_)
  split
  · exact hq.written frame
  · exact hq

theorem placeReply {p : Port} (hroom : (s.port p).replies.length < Config.replyPlaces) (r : Reply) :
    PortsBounded (s.placeReply p r) := by
  obtain ⟨hinbound, -, hrest⟩ := h p (mem_allPorts p)
  exact h.setPort p ⟨hinbound, by rw [List.length_append]; exact hroom, hrest⟩

end PortsBounded

theorem takeOut_replies (s : State) (p : Port) (frame : List Byte) :
    ((s.takeOut p frame).port p).replies = (s.port p).replies := by
  simp only [State.takeOut, port_setPort, ↓reduceIte]
  split
  · exact arrive_replies
  · rfl

/-! ## Taken frames -/

theorem PortsBounded.takeFrame {s : State} (h : PortsBounded s) (p : Port) (frame : List Byte)
    {onPermitted : State → State}
    (hon : ∀ u, PortsBounded u → (u.port p).replies.length < Config.replyPlaces → PortsBounded (onPermitted u)) :
    PortsBounded (s.takeFrame p frame onPermitted) := by
  unfold State.takeFrame
  split
  case isFalse => exact h
  case isTrue htake =>
    have hroom : ((s.takeOut p frame).port p).replies.length < Config.replyPlaces := by
      rw [takeOut_replies]
      exact of_decide_eq_true (Bool.and_eq_true_iff.mp htake).2
    split
    · exact (h.takeOut p frame).placeReply hroom _
    · exact hon _ (h.takeOut p frame) hroom

theorem PortsBounded.takeRequest {s : State} (h : PortsBounded s) (p : Port) (k : RequestKind) (payload : List Byte)
    {block : State → Answer} (hblock : ∀ u, (block u).Proper u) :
    ∃ t, takeRequest p k payload block s = .next t ∧ PortsBounded t := by
  refine ⟨_, rfl, h.takeFrame p _ fun u hu hroom => ?_⟩
  have hposts := (hblock u).1
  have hreplies : ((block u).state.port p).replies = (u.port p).replies := (hposts.1 p).keeps.2.1
  exact (hu.onlyPosts hposts).placeReply (by rwa [hreplies]) _

theorem PortsBounded.request {s : State} (h : PortsBounded s) {i : Instr} {p : Port} {k : RequestKind}
    {payload : List Byte} (hi : requestOf i = some (p, k, payload)) (hp : k ≠ .portReset) (hr : k ≠ .restart) :
    ∃ t, exec i s = .next t ∧ PortsBounded t := by
  obtain ⟨block, hexec, hproper⟩ := exec_request hi hp hr
  rw [hexec]
  exact h.takeRequest p k payload hproper

/-! ## Select periods, resets and the events of the blocks -/

namespace PortsBounded
variable {s : State} (h : PortsBounded s)
include h

theorem setPeriod (p : Port) (period : SelectPeriod) : PortsBounded (s.setPeriod p period) :=
  h.setPort p (h p (mem_allPorts p))

theorem assertSelect (p : Port) : PortsBounded (s.assertSelect p) := by
  unfold State.assertSelect
  dsimp only
  split
  · exact h
  · exact h.setPeriod p _

theorem clockBytes (p : Port) (bytes : List Byte) : PortsBounded (s.clockBytes p bytes) := by
  unfold State.clockBytes
  dsimp only
  split
  · exact h
  · exact h.setPeriod p _

theorem releaseSelect (p : Port) (bytes : List Byte) : PortsBounded (s.releaseSelect p bytes) := by
  unfold State.releaseSelect
  dsimp only
  split
  · exact h
  · exact h.setPort p ((h p (mem_allPorts p)).endPeriod _)

theorem wholePeriod (p : Port) (bytes : List Byte) : PortsBounded (s.wholePeriod p bytes) := by
  unfold State.wholePeriod
  dsimp only
  split
  · exact h
  · exact h.setPort p ((h p (mem_allPorts p)).endPeriod _)

theorem writeTransaction (p : Port) (phase : WritePhase) :
    ∃ t, exec (.writeTransaction p phase) s = .next t ∧ PortsBounded t := by
  refine ⟨_, rfl, ?_⟩
  cases phase with
  | whole bytes => exact h.wholePeriod p bytes
  | clocked bytes => exact h.clockBytes p bytes
  | released bytes => exact h.releaseSelect p bytes

theorem readTransaction (p : Port) (phase : ReadPhase) :
    ∃ t, exec (.readTransaction p phase) s = .next t ∧ PortsBounded t := by
  refine ⟨_, rfl, ?_⟩
  cases phase with
  | whole clocked => exact h.wholePeriod p _
  | asserted => exact h.assertSelect p
  | opened =>
    dsimp only
    split
    · exact h
    · exact h.clockBytes p _
  | clocked more => exact h.clockBytes p _
  | released clocked => exact h.releaseSelect p _

theorem portReset (p : Port) : ∃ t, exec (.portReset p) s = .next t ∧ PortsBounded t := by
  refine ⟨_, rfl, ?_⟩
  split
  · have hout := h.takeOut p (requestFrame .portReset [])
    exact hout.setPort p ⟨by simp [PortState.reset], by simp [PortState.reset, Config.replyPlaces],
      by simp [PortState.reset], by simp [PortState.reset], by simp [PortState.reset]⟩
  · exact h

omit h in
theorem deviceReset (s : State) : PortsBounded s.deviceReset := by
  intro p _
  have hport : s.deviceReset.port p = (s.port p).deviceReset := by
    simp [State.port, State.deviceReset]
  rw [hport]
  exact initial_bounded

theorem unknownRequestFrame (p : Port) (frame : List Byte) :
    ∃ t, exec (.unknownRequestFrame p frame) s = .next t ∧ PortsBounded t := by
  refine ⟨_, rfl, ?_⟩
  have htaken := h.takeFrame p frame (onPermitted := id) fun u hu _ => hu
  split
  · exact h
  · exact htaken
  · exact htaken

theorem expire (deadline : Option Nat) {event : State → State} (hevent : ∀ u, OnlyPosts u (event u)) :
    PortsBounded (s.expire deadline event) := by
  unfold State.expire
  split
  · exact h
  · split
    · exact h.onlyPosts (atSecond_posts s _ hevent)
    · exact h

end PortsBounded

theorem bgdFalls_posts (s : State) (b : BranchId) : OnlyPosts s (s.bgdFalls b) := by
  unfold State.bgdFalls
  split
  · exact goDark_posts s b
  · exact losePower_posts s b
  · exact losePower_posts s b
  all_goals exact .refl s

theorem bgdRises_posts (s : State) (b : BranchId) : OnlyPosts s (s.bgdRises b) := by
  unfold State.bgdRises
  split
  · exact powerGood_posts considerGrants_posts s b
  all_goals exact .refl s

theorem countedEdge_posts (s : State) (i : InputId) : OnlyPosts s (s.countedEdge i) := by
  unfold State.countedEdge
  dsimp only
  split
  · exact causeOccurs_posts s _
  · exact (wakeRound_posts s _ _).trans (finish_posts _)

/-- Every command keeps the queues of the ports within their sizes. -/
theorem PortsBounded.exec {s : State} (h : PortsBounded s) (i : Instr) : ∃ t, exec i s = .next t ∧ PortsBounded t := by
  cases i with
  | restart p => exact ⟨_, rfl, h.takeFrame p _ fun u _ _ => .deviceReset u⟩
  | portReset p => exact h.portReset p
  | unknownRequestFrame p frame => exact h.unknownRequestFrame p frame
  | writeTransaction p phase => exact h.writeTransaction p phase
  | readTransaction p phase => exact h.readTransaction p phase
  | deviceReset => exact ⟨_, rfl, .deviceReset s⟩
  | siteTimeAdvance =>
    refine ⟨_, rfl, ?_⟩
    split
    · exact h
    · exact h.onlyPosts (advanceTime_posts s)
  | drainDeadlineExpiry c =>
    refine ⟨_, rfl, ?_⟩
    split
    · exact h.expire _ fun u => cancelAndOffer_posts u c .timeout
    · exact h
  | liveDeadlineExpiry c =>
    refine ⟨_, rfl, ?_⟩
    split
    · exact h.expire _ fun u => liveTimesOut_posts u c
    · exact h
  | lingerDeadlineExpiry b =>
    refine ⟨_, rfl, ?_⟩
    split
    · exact h.expire _ fun u => lingerExpires_posts u b
    · exact h
  | rampDownDeadlineExpiry b =>
    refine ⟨_, rfl, ?_⟩
    split
    · exact h.expire _ fun u => rampDownFails_posts u b
    · exact h
  | rampUpDeadlineExpiry b =>
    refine ⟨_, rfl, ?_⟩
    split
    · exact h.expire _ fun u => rampUpFails_posts u b
    · exact h
  | donePulseEnd o => exact ⟨_, rfl, h⟩
  | bgdFall b =>
    refine ⟨_, rfl, ?_⟩
    split
    · exact h.onlyPosts (((OnlyPosts.refl s).setBgd b false).trans (bgdFalls_posts _ b))
    · exact h
  | bgdRise b =>
    refine ⟨_, rfl, ?_⟩
    split
    · exact h
    · exact h.onlyPosts (((OnlyPosts.refl s).setBgd b true).trans (bgdRises_posts _ b))
  | evEdge i high =>
    refine ⟨_, rfl, ?_⟩
    split
    · exact h
    · have hlevel := (OnlyPosts.refl s).setEv i high
      dsimp only
      split
      · exact h.onlyPosts (hlevel.trans (countedEdge_posts _ i))
      · exact h.onlyPosts hlevel
  | holdawkEdge high =>
    refine ⟨_, rfl, ?_⟩
    split
    · exact h
    · exact h.onlyPosts ((lines_posts s _).trans (holdawkActs_posts _ _))
  | channelStep k =>
    refine ⟨_, rfl, ?_⟩
    split
    · exact h.onlyPosts (processEntry_posts s k)
    · exact h
  | endOfDeviceReset => exact ⟨_, rfl, h⟩
  | _ => exact h.request rfl (by decide) (by decide)

/-- Settles O52: the blocks post notices that are not OVERFLOW, a taken frame finds a free reply place for its answer, and
a read removes no more than the frame it returned. -/
theorem portsStayBounded : Obligations.PortsStayBounded := by
  unfold Obligations.PortsStayBounded
  intro s t hs hstep
  unfold step at hstep
  split at hstep
  · cases hstep
    exact hs
  · next c rest _ =>
    have hqueue : PortsBounded { s with pending := rest } := hs
    obtain ⟨u, hexec, hu⟩ := hqueue.exec c
    cases hexec.symm.trans hstep
    exact hu

end Sys2Proof.Machine

/-!
SUPPORT. The raise queue and the arbiter: the places of R91, the grants of R94 to R96 one at a time, SET_BUDGET (R97);
and how the arbiter serves the head: O22.
-/
namespace Sys2Proof.Machine
open Sys2Proof

/-! ## The order of R91 -/

theorem before_iff (x y : QueueEntry) :
    x.before y = true ↔ y.level < x.level ∨ (x.level = y.level ∧ x.stamp < y.stamp) := by
  simp [QueueEntry.before]

theorem inQueueOrder_cons {x : QueueEntry} {queue : List QueueEntry} :
    InQueueOrder (x :: queue) ↔ (∀ y ∈ queue, x.before y = true) ∧ InQueueOrder queue := by
  simp only [InQueueOrder, List.pairwise_cons, before_iff]

theorem before_trans {x y z : QueueEntry} (h : x.before y = true) (k : y.before z = true) : x.before z = true := by
  rw [before_iff] at *
  omega

theorem before_of_not {x y : QueueEntry} (h : ¬ x.before y = true) (hstamp : y.stamp ≠ x.stamp) : y.before x = true := by
  rw [before_iff] at *
  omega

theorem placeEntry_perm (e : QueueEntry) (queue : List QueueEntry) : List.Perm (placeEntry e queue) (e :: queue) := by
  induction queue with
  | nil => exact .refl _
  | cons x xs ih =>
    unfold placeEntry
    split
    · exact .refl _
    · exact (ih.cons x).trans (.swap e x xs)

theorem placeEntry_order {e : QueueEntry} {queue : List QueueEntry} (horder : InQueueOrder queue)
    (hstamp : ∀ x ∈ queue, x.stamp ≠ e.stamp) : InQueueOrder (placeEntry e queue) := by
  induction queue with
  | nil => simp [placeEntry, InQueueOrder]
  | cons x xs ih =>
    obtain ⟨hx, hxs⟩ := inQueueOrder_cons.mp horder
    unfold placeEntry
    split
    case isTrue hbefore =>
      refine inQueueOrder_cons.mpr ⟨fun y hy => ?_, horder⟩
      rcases List.mem_cons.mp hy with rfl | hy
      · exact hbefore
      · exact before_trans hbefore (hx y hy)
    case isFalse hbefore =>
      refine inQueueOrder_cons.mpr ⟨fun y hy => ?_, ih hxs fun y hy => hstamp y (List.mem_cons_of_mem x hy)⟩
      rcases List.mem_cons.mp ((placeEntry_perm e xs).mem_iff.mp hy) with rfl | hy
      · exact before_of_not hbefore (hstamp x List.mem_cons_self)
      · exact hx y hy

/-- Entries whose images under an injective naming agree are one entry. -/
theorem eq_of_nodup_map {α β : Type} {f : α → β} {l : List α} (h : (l.map f).Nodup) {x y : α} (hx : x ∈ l) (hy : y ∈ l)
    (hxy : f x = f y) : x = y := by
  induction l with
  | nil => cases hx
  | cons z l ih =>
    rw [List.map_cons, List.nodup_cons] at h
    obtain ⟨hz, hl⟩ := h
    rcases List.mem_cons.mp hx with rfl | hxl <;> rcases List.mem_cons.mp hy with rfl | hyl
    · rfl
    · exact absurd (hxy ▸ List.mem_map_of_mem hyl) hz
    · exact absurd (hxy ▸ List.mem_map_of_mem hxl) hz
    · exact ih hl hxl hyl

theorem find_branch {e : QueueEntry} {queue : List QueueEntry} (hbranches : (queue.map (fun x => x.branch)).Nodup)
    (he : e ∈ queue) : queue.find? (fun x => x.branch == e.branch) = some e := by
  obtain ⟨x, hx⟩ := Option.isSome_iff_exists.mp
    (List.find?_isSome.mpr ⟨e, he, beq_self_eq_true e.branch⟩ :
      (queue.find? fun x => x.branch == e.branch).isSome = true)
  have hbranch : x.branch = e.branch := by simpa using List.find?_some hx
  rw [hx, eq_of_nodup_map hbranches (List.mem_of_find?_eq_some hx) he hbranch]

theorem raiseEntry_eq {e : QueueEntry} {queue : List QueueEntry} (hbranches : (queue.map (fun x => x.branch)).Nodup)
    (he : e ∈ queue) (level : Nat) :
    raiseEntry e.branch level queue =
      placeEntry { e with level := level } (queue.filter (fun x => x.branch != e.branch)) := by
  rw [raiseEntry, find_branch hbranches he]

theorem raiseEntry_order {e : QueueEntry} {queue : List QueueEntry} (horder : InQueueOrder queue)
    (hstamps : (queue.map (fun x => x.stamp)).Nodup) (hbranches : (queue.map (fun x => x.branch)).Nodup) (he : e ∈ queue)
    (level : Nat) : InQueueOrder (raiseEntry e.branch level queue) := by
  rw [raiseEntry_eq hbranches he]
  refine placeEntry_order (horder.filter _) fun x hx hstamp => ?_
  obtain ⟨hmem, hbranch⟩ := List.mem_filter.mp hx
  have heq : x = e := eq_of_nodup_map hstamps hmem he hstamp
  simp [heq] at hbranch

/-! ## Grants one at a time -/

theorem nextGrant_eq_some {a : Arbiter} {e : QueueEntry} {g : Grant} :
    a.nextGrant = some (e, g) ↔ a.queue.head? = some e
      ∧ ((a.normalHolders.length < a.budget ∧ g = .normal)
        ∨ (a.budget ≤ a.normalHolders.length ∧ a.emergencyHolder = none ∧ e.level = 7 ∧ g = .emergency)) := by
  unfold Arbiter.nextGrant
  split
  · next hq => simp [hq]
  · next hq =>
    rw [hq]
    split
    · next hlt =>
      simp only [Option.some.injEq, Prod.mk.injEq, List.head?_cons, hlt, true_and, Nat.not_le.mpr hlt, false_and,
        or_false, eq_comm]
    · next hlt =>
      have hle := Nat.le_of_not_lt hlt
      split
      · next hfree =>
        obtain ⟨hholder, hlevel⟩ := hfree
        simp only [Option.some.injEq, Prod.mk.injEq, List.head?_cons, hlt, false_and, false_or, hle, hholder, true_and]
        constructor
        · rintro ⟨rfl, rfl⟩
          exact ⟨rfl, hlevel, rfl⟩
        · rintro ⟨rfl, -, rfl⟩
          exact ⟨rfl, rfl⟩
      · next hfree =>
        simp only [reduceCtorEq, List.head?_cons, Option.some.injEq, false_iff, not_and, not_or]
        rintro rfl
        exact ⟨fun h => absurd h hlt, fun _ hholder hlevel => absurd ⟨hholder, hlevel⟩ hfree⟩

theorem nextGrant_eq_none {a : Arbiter} :
    a.nextGrant = none ↔ a.queue = [] ∨ (a.budget ≤ a.normalHolders.length
      ∧ ∀ e ∈ a.queue.head?, e.level = 7 → a.emergencyHolder ≠ none) := by
  unfold Arbiter.nextGrant
  split
  · next hq => simp [hq]
  · next e rest hq =>
    simp only [hq, reduceCtorEq, List.head?_cons, Option.mem_def, Option.some.injEq, forall_eq', false_or]
    split
    · next hlt => simp [Nat.not_le.mpr hlt]
    · next hlt =>
      have hle := Nat.le_of_not_lt hlt
      split
      · next hfree => simp [hfree.1, hfree.2]
      · next hfree => simpa [hle] using fun hlevel hholder => hfree ⟨hholder, hlevel⟩

theorem nextGrant_of_nil {a : Arbiter} (h : a.queue = []) : a.nextGrant = none := nextGrant_eq_none.mpr (.inl h)

theorem queue_of_nextGrant {a : Arbiter} {e : QueueEntry} {g : Grant} (h : a.nextGrant = some (e, g)) :
    a.queue = e :: a.queue.tail := by
  obtain ⟨hhead, -⟩ := nextGrant_eq_some.mp h
  obtain ⟨tail, htail⟩ := List.head?_eq_some_iff.mp hhead
  rw [htail, List.tail_cons]

theorem grant_of_nextGrant {a : Arbiter} {e : QueueEntry} {g : Grant} (h : a.nextGrant = some (e, g)) :
    g = .normal ∨ g = .emergency := by
  obtain ⟨-, hg⟩ := nextGrant_eq_some.mp h
  rcases hg with ⟨-, hg⟩ | ⟨-, -, -, hg⟩
  · exact .inl hg
  · exact .inr hg

theorem give_queue {a : Arbiter} {g : Grant} (hg : g = .normal ∨ g = .emergency) (b : BranchId) :
    (a.give b g).queue = a.queue.tail := by
  rcases hg with rfl | rfl <;> rfl

@[simp] theorem drop_queue (a : Arbiter) (b : BranchId) (g : Grant) : (a.drop b g).queue = a.queue := by
  cases g <;> rfl

theorem takeGrant_eq (consider : State → State) (s : State) (b : BranchId) (g : Grant) :
    s.takeGrant consider b g = if s.bgd b = true then (s.granted b g).powerGood consider b else s.granted b g := rfl

theorem granted_arb (s : State) (b : BranchId) (g : Grant) : (s.granted b g).arb = s.arb.give b g := rfl

theorem granted_branch (s : State) (b : BranchId) (g : Grant) :
    (s.granted b g).branch b = { (s.branch b).enter .raising with
      raiseLevel := (s.branch b).raiseLevel, grant := g, rampDeadline := some (secondsAfter s.now s.ctrl.rampUp) } := by
  simp [State.granted]

theorem powerGood_eq (consider : State → State) (s : State) (b : BranchId) :
    s.powerGood consider b = ((consider (s.released b .powered)).reportPowered b).settleTest b := rfl

theorem released_queue (s : State) (b : BranchId) (state : BranchState) :
    (s.released b state).arb.queue = s.arb.queue := drop_queue _ _ _

/-- Carrier and branch records beside the arbiter's own work. -/
theorem arb_records (A : Arbiter) : KeptByRecords False (fun u => u.arb = A) where
  aside hs ha := ha.arb.trans hs
  carrier hs _ := hs
  branch hs _ := hs

theorem reportPowered_arb (s : State) (b : BranchId) : (s.reportPowered b).arb = s.arb :=
  (arb_records s.arb).reportPowered rfl b

theorem settleTest_arb (s : State) (b : BranchId) : (s.settleTest b).arb = s.arb := (arb_records s.arb).settleTest rfl b

theorem powerGood_arb (consider : State → State) (s : State) (b : BranchId) :
    (s.powerGood consider b).arb = (consider (s.released b .powered)).arb := by
  rw [powerGood_eq, settleTest_arb, reportPowered_arb]

/-! ## The arbiter runs to its end -/

/-- The queue of a state after one grant and what follows from it in the event is shorter than before. -/
theorem takeGrant_queue {consider : State → State}
    (hconsider : ∀ u, (consider u).arb.queue.length ≤ u.arb.queue.length) {s : State} {e : QueueEntry} {g : Grant}
    (h : s.arb.nextGrant = some (e, g)) :
    (s.takeGrant consider e.branch g).arb.queue.length ≤ s.arb.queue.tail.length := by
  have hgiven : (s.granted e.branch g).arb.queue = s.arb.queue.tail := by
    rw [granted_arb, give_queue (grant_of_nextGrant h)]
  rw [takeGrant_eq]
  split
  · rw [powerGood_arb, ← hgiven, ← released_queue (s.granted e.branch g) e.branch .powered]
    exact hconsider _
  · exact Nat.le_of_eq (congrArg List.length hgiven)

theorem considerGrantsUpTo_queue (n : Nat) (s : State) :
    (considerGrantsUpTo n s).arb.queue.length ≤ s.arb.queue.length := by
  induction n generalizing s with
  | zero => exact Nat.le_refl _
  | succ n ih =>
    unfold considerGrantsUpTo
    split
    · exact Nat.le_refl _
    · next hg =>
      have htail : s.arb.queue.tail.length ≤ s.arb.queue.length := (List.tail_sublist _).length_le
      exact Nat.le_trans (ih _) (Nat.le_trans (takeGrant_queue (fun u => ih u) hg) htail)

theorem takeGrant_congr {f f' : State → State} {s : State} {e : QueueEntry} {g : Grant}
    (hg : s.arb.nextGrant = some (e, g)) (h : ∀ u, u.arb.queue = s.arb.queue.tail → f u = f' u) :
    s.takeGrant f e.branch g = s.takeGrant f' e.branch g := by
  have hqueue : ((s.granted e.branch g).released e.branch .powered).arb.queue = s.arb.queue.tail := by
    rw [released_queue, granted_arb, give_queue (grant_of_nextGrant hg)]
  rw [takeGrant_eq, takeGrant_eq, powerGood_eq, powerGood_eq, h _ hqueue]

/-- A bound of at least the queue's length lets the arbiter run to its end. -/
theorem considerGrantsUpTo_of_le {n : Nat} {s : State} (h : s.arb.queue.length ≤ n) :
    considerGrantsUpTo n s = s.considerGrants := by
  have hbounds (n m : Nat) (s : State) (hn : s.arb.queue.length ≤ n) (hm : s.arb.queue.length ≤ m) :
      considerGrantsUpTo n s = considerGrantsUpTo m s := by
    induction n generalizing m s with
    | zero =>
      have hnone := nextGrant_of_nil (List.eq_nil_of_length_eq_zero (Nat.le_zero.mp hn))
      cases m with
      | zero => rfl
      | succ m => simp [considerGrantsUpTo, hnone]
    | succ n ih =>
      cases m with
      | zero =>
        have hnone := nextGrant_of_nil (List.eq_nil_of_length_eq_zero (Nat.le_zero.mp hm))
        simp [considerGrantsUpTo, hnone]
      | succ m =>
        cases hg : s.arb.nextGrant with
        | none => simp [considerGrantsUpTo, hg]
        | some grant =>
          obtain ⟨e, g⟩ := grant
          have htail : s.arb.queue.length = s.arb.queue.tail.length + 1 := by
            rw [queue_of_nextGrant hg]
            rfl
          have hinner : s.takeGrant (considerGrantsUpTo n) e.branch g = s.takeGrant (considerGrantsUpTo m) e.branch g :=
            takeGrant_congr hg fun u hu => ih m u (by rw [hu]; omega) (by rw [hu]; omega)
          have hshort := takeGrant_queue (considerGrantsUpTo_queue m) hg
          simp only [considerGrantsUpTo, hg, hinner]
          exact ih m _ (by omega) (by omega)
  exact hbounds n _ s h (Nat.le_refl _)

theorem considerGrants_of_none {s : State} (h : s.arb.nextGrant = none) : s.considerGrants = s := by
  unfold State.considerGrants
  cases s.arb.queue.length with
  | zero => rfl
  | succ n => simp [considerGrantsUpTo, h]

theorem considerGrants_of_some {s : State} {e : QueueEntry} {g : Grant} (h : s.arb.nextGrant = some (e, g)) :
    s.considerGrants = (s.takeGrant State.considerGrants e.branch g).considerGrants := by
  have hlength : s.arb.queue.length = s.arb.queue.tail.length + 1 := by
    rw [queue_of_nextGrant h]
    rfl
  have hinner : s.takeGrant (considerGrantsUpTo s.arb.queue.tail.length) e.branch g
      = s.takeGrant State.considerGrants e.branch g :=
    takeGrant_congr h fun u hu => considerGrantsUpTo_of_le (Nat.le_of_eq (congrArg List.length hu))
  have hshort := takeGrant_queue (considerGrantsUpTo_queue s.arb.queue.tail.length) h
  rw [hinner] at hshort
  rw [State.considerGrants, hlength, considerGrantsUpTo, h]
  dsimp only
  rw [hinner, considerGrantsUpTo_of_le hshort]

/-- Where the arbiter stops, no head is left that it could serve (R94). -/
theorem considerGrants_nextGrant (s : State) : s.considerGrants.arb.nextGrant = none := by
  have hstops (n : Nat) : ∀ s : State, s.arb.queue.length ≤ n → s.considerGrants.arb.nextGrant = none := by
    induction n with
    | zero =>
      intro s hn
      have hnone := nextGrant_of_nil (List.eq_nil_of_length_eq_zero (Nat.le_zero.mp hn))
      rwa [considerGrants_of_none hnone]
    | succ n ih =>
      intro s hn
      cases hg : s.arb.nextGrant with
      | none => rwa [considerGrants_of_none hg]
      | some grant =>
        obtain ⟨e, g⟩ := grant
        have hlength : s.arb.queue.length = s.arb.queue.tail.length + 1 := by
          rw [queue_of_nextGrant hg]
          rfl
        have hshort := takeGrant_queue (consider := State.considerGrants) (fun u => considerGrantsUpTo_queue _ u) hg
        rw [considerGrants_of_some hg]
        exact ih _ (by omega)
  exact hstops _ s (Nat.le_refl _)

/-! ## SET_BUDGET -/

theorem setBudgetAnswer_range {budget : Byte} (h : budget.toNat = 0 ∨ 4 < budget.toNat) (s : State) :
    setBudgetAnswer budget s = .fail .range s := by
  rw [setBudgetAnswer, asRange_outside (by omega)]

theorem setBudgetAnswer_replaces {budget : Byte} (h : ¬ (budget.toNat = 0 ∨ 4 < budget.toNat)) (s : State) :
    setBudgetAnswer budget s = .okWith [byteOf s.arb.budget, byteOf s.arb.normalHolders.length]
      (if s.arb.budget < budget.toNat then (s.setArb { s.arb with budget := budget.toNat }).considerGrants
        else s.setArb { s.arb with budget := budget.toNat }) := by
  rw [setBudgetAnswer, asRange_inside (by omega) (by omega)]

/-- Settles O22: each grant takes the head off the queue, so the arbiter's bound lets it run until no head is left that it
could serve, and one grant after another may be read off. -/
theorem theArbiterServesTheHead : Obligations.TheArbiterServesTheHead := by
  unfold Obligations.TheArbiterServesTheHead
  refine ⟨⟨fun b level s => rfl, fun e queue horder hstamp => ⟨placeEntry_order horder hstamp, placeEntry_perm e queue⟩,
    fun e level queue horder hstamps hbranches he => ⟨raiseEntry_order horder hstamps hbranches he level, ?_⟩⟩,
    ⟨considerGrants_nextGrant, fun s => nextGrant_eq_none, fun s => considerGrants_of_none,
      fun e rest g s hqueue hgrant => ?_⟩, fun budget s htake => ?_⟩
  · rw [raiseEntry_eq hbranches he]
    exact placeEntry_perm _ _
  · have hnext : s.arb.nextGrant = some (e, g) := nextGrant_eq_some.mpr ⟨by rw [hqueue, List.head?_cons], hgrant⟩
    intro raising
    have hraising : raising = s.granted e.branch g := rfl
    clear_value raising
    subst hraising
    have hheld : ((s.granted e.branch g).branch e.branch).grant = g := by rw [granted_branch]
    refine ⟨by rw [give_queue (grant_of_nextGrant hnext), hqueue, List.tail_cons], fun hlow => ?_, fun hhigh => ?_⟩
    · rw [considerGrants_of_some hnext, takeGrant_eq, if_neg (by simp [hlow])]
    · rw [considerGrants_of_some hnext, takeGrant_eq, if_pos hhigh, powerGood_eq, State.released, hheld, State.enterBranch]
  · split
    case isTrue hrange => exact exec_turnedAway rfl rfl rfl htake (setBudgetAnswer_range hrange _)
    case isFalse hrange => exact exec_answered rfl rfl rfl htake (setBudgetAnswer_replaces hrange _)

end Sys2Proof.Machine

/-!
SUPPORT. The branch records, the holders of grants and the raise queue through the updates of the blocks and of the
commands (R50, R90, R91, R95): O59.
-/
namespace Sys2Proof.Machine
open Sys2Proof

/-! ## No servable head waits -/

theorem noGrantWaits_records : KeptByRecords False NoGrantWaits where
  aside := fun {s t} hs ha => by rwa [NoGrantWaits, ha.arb]
  carrier hs _ := hs
  branch hs _ := hs

theorem noGrantWaits_of_arb {s t : State} (hs : NoGrantWaits s) (h : t.arb = s.arb) : NoGrantWaits t := by
  rwa [NoGrantWaits, h]

/-- A budget that is no higher lets the arbiter give no more. -/
theorem noGrantWaits_lowerBudget {s : State} (hs : NoGrantWaits s) {n : Nat} (hn : n ≤ s.arb.budget) :
    NoGrantWaits (s.setArb { s.arb with budget := n }) := by
  refine nextGrant_eq_none.mpr ((nextGrant_eq_none.mp hs).imp_right fun h => ?_)
  obtain ⟨hbudget, hhead⟩ := h
  exact ⟨Nat.le_trans hn hbudget, hhead⟩

theorem noGrantWaits_work : KeptByWork False NoGrantWaits where
  toKeptByRecords := noGrantWaits_records
  enterQueued _ _ _ := considerGrants_nextGrant _
  raiseQueued := fun {s b level} hs _ _ => by
    unfold State.raiseQueued
    dsimp only
    split
    · exact considerGrants_nextGrant _
    · exact hs
  powerGood _ _ := by
    rw [NoGrantWaits, powerGood_arb]
    exact considerGrants_nextGrant _
  failRaise _ _ := considerGrants_nextGrant _
  decline hs _ := noGrantWaits_of_arb hs (ChannelFrame.entryProcessed _ _ _).arb
  entry hs _ := noGrantWaits_of_arb hs (ChannelFrame.entryProcessed _ _ _).arb
  wait hs _ := hs
  outcome hs := noGrantWaits_of_arb hs (ChannelFrame.drainOutcome _ _ _).arb
  deliverStart hs _ := noGrantWaits_of_arb hs (ChannelFrame.deliverStart _ _ _).arb
  stop hs _ := hs
  halt hs _ := hs
  pendingLevel := False.elim
  wakeLevel := False.elim

/-- The arbiter considers grants after each change of its record (R94). -/
theorem noGrantWaits_kept : KeptByCommands False NoGrantWaits where
  toKeptByWork := noGrantWaits_work
  place hs _ _ _ := hs
  vacate hs _ _ := hs
  remove hs _ _ := hs
  provisionBranch hs _ := hs
  deprovisionBranch hs _ _ := hs
  budget hs _ _ := by
    split
    · exact considerGrants_nextGrant _
    · next hn => exact noGrantWaits_lowerBudget hs (Nat.le_of_not_lt hn)
  rewrite hs _ _ _ := hs
  list hs := hs
  input hs _ _ := hs
  inputLevel := False.elim
  openWindow hs _ := hs
  closeEvent hs := noGrantWaits_work.closeEvent_of_timer (fun hu => hu) hs _
  shadow hs _ := hs
  swap hs := hs
  swapLater hs _ := hs
  siteTime _ hu _ := hu
  stepTime hs _ := hs
  deviceReset _ := nextGrant_of_nil rfl

/-! ## One branch record -/

theorem secondOk_after (t n : Nat) : SecondOk (some (secondsAfter t n)) := by
  intro d hd
  cases hd
  exact secondsAfter_lt t n

theorem secondOk_none : SecondOk none := fun _ h => nomatch h

/-- A record in a state without deadline, mark, raise level or grant (R50). -/
theorem enter_wellShaped {r : Branch} (hr : r.WellShaped) (mode : LineMode) {state : BranchState}
    (hstate : state ∈ [.powered, .dark, .faulted, .out]) : ({ r with lineMode := mode }.enter state).WellShaped := by
  obtain ⟨-, -, -, -, -, -, -, hsorted, hlength, -, -⟩ := hr
  simp only [List.mem_cons, List.not_mem_nil, or_false] at hstate
  rcases hstate with rfl | rfl | rfl | rfl <;>
    exact ⟨by simp [Branch.enter], by simp [Branch.enter], by simp [Branch.enter], by simp [Branch.enter],
      by simp [Branch.enter], by simp [Branch.enter], by simp [Branch.enter], hsorted, hlength, secondOk_none,
      secondOk_none⟩

/-- What an update of one branch record leaves as it is for the arbiter. -/
structure GrantsSame (r r' : Branch) : Prop where
  members : r'.members = r.members
  queued : r'.state = .queued ↔ r.state = .queued
  level : r'.state = .queued → r'.raiseLevel = r.raiseLevel
  grant : r'.grant = r.grant
  emergency : r'.grant = .emergency → r.raiseLevel = 7 → r'.raiseLevel = 7

/-- Outside RAISING a record has no grant. -/
theorem grant_eq_none {r : Branch} (hr : r.WellShaped) (hstate : r.state ≠ .raising) : r.grant = .none := by
  obtain ⟨-, -, -, -, -, hgrant, -⟩ := hr
  exact Decidable.byContradiction fun hne => hstate (hgrant.mp hne)

theorem enter_grantsSame {r : Branch} (hr : r.WellShaped) (mode : LineMode) {state : BranchState}
    (hs : r.state ≠ .raising) (hq : r.state ≠ .queued) (ht : state ≠ .queued) :
    GrantsSame r ({ r with lineMode := mode }.enter state) :=
  ⟨rfl, by simp [Branch.enter, hq, ht], by simp [Branch.enter, ht], by simp [Branch.enter, grant_eq_none hr hs],
    by simp [Branch.enter]⟩

theorem BranchMove.kept {r r' : Branch} (hmove : BranchMove True r r') (hr : r.WellShaped) :
    r'.WellShaped ∧ GrantsSame r r' := by
  obtain ⟨hlinger, hexpired, hramp, hseen, hlevel, hgrant, hunused, hsorted, hlength, hlingerOk, hrampOk⟩ := id hr
  cases hmove with
  | enter mode state hs ht =>
    refine ⟨enter_wellShaped hr mode ht, enter_grantsSame hr mode ?_ ?_ ?_⟩
    · rintro heq
      simp [heq] at hs
    · rintro heq
      simp [heq] at hs
    · rintro rfl
      simp at ht
  | settle now linger hs =>
    have hsame := enter_grantsSame hr r.lineMode (state := .settling) (by simp [hs]) (by simp [hs]) (by simp)
    obtain ⟨hmembers, hqueued, hraise, hheld, hseven⟩ := hsame
    refine ⟨⟨by simp [Branch.enter], by simp [Branch.enter], by simp [Branch.enter], by simp [Branch.enter],
      by simp [Branch.enter], by simp [Branch.enter], by simp [Branch.enter], hsorted, hlength, secondOk_after now linger,
      secondOk_none⟩, hmembers, hqueued, hraise, hheld, hseven⟩
  | expire hs =>
    exact ⟨⟨by simp, fun _ => hs, hramp, hseen, hlevel, hgrant, hunused, hsorted, hlength, secondOk_none, hrampOk⟩,
      rfl, Iff.rfl, fun _ => rfl, rfl, fun _ h => h⟩
  | lower now limit hs =>
    have hsame := enter_grantsSame hr r.lineMode (state := .lowering) (by rcases hs with hs | hs <;> simp [hs])
      (by rcases hs with hs | hs <;> simp [hs]) (by simp)
    obtain ⟨hmembers, hqueued, hraise, hheld, hseven⟩ := hsame
    refine ⟨⟨by simp [Branch.enter], by simp [Branch.enter], by simp [Branch.enter], by simp [Branch.enter],
      by simp [Branch.enter], by simp [Branch.enter], by simp [Branch.enter], hsorted, hlength, secondOk_none,
      secondOk_after now limit⟩, hmembers, hqueued, hraise, hheld, hseven⟩
  | seen hs =>
    exact ⟨⟨hlinger, hexpired, hramp, fun _ => hs, hlevel, hgrant, hunused, hsorted, hlength, hlingerOk, hrampOk⟩,
      rfl, Iff.rfl, fun _ => rfl, rfl, fun _ h => h⟩
  | raise level hs hl =>
    obtain ⟨hl1, hl7⟩ := hl trivial
    rw [if_pos (.inr hs)] at hlevel
    have hmax : 1 ≤ max r.raiseLevel level ∧ max r.raiseLevel level ≤ 7 :=
      ⟨Nat.le_trans hl1 (Nat.le_max_right _ _), Nat.max_le.mpr ⟨hlevel.2, hl7⟩⟩
    refine ⟨⟨hlinger, hexpired, hramp, hseen, by simpa [hs] using hmax, hgrant, hunused, hsorted, hlength, hlingerOk,
      hrampOk⟩, rfl, Iff.rfl, fun hq => ?_, rfl, fun _ h => ?_⟩
    · simp [hs] at hq
    · show max r.raiseLevel level = 7
      rw [h, Nat.max_eq_left hl7]
  | mode mode =>
    exact ⟨⟨hlinger, hexpired, hramp, hseen, hlevel, hgrant, hunused, hsorted, hlength, hlingerOk, hrampOk⟩,
      rfl, Iff.rfl, fun _ => rfl, rfl, fun _ h => h⟩

/-! ## Branches, holders and queue -/

/-- The three parts of the invariant that speak of branches and grants. -/
structure GrantsShaped (s : State) : Prop where
  branches : BranchesShaped s
  holders : HoldersShaped s
  queue : QueueShaped s

theorem GrantsShaped.of_same {s t : State} (h : GrantsShaped s) (hcarriers : ∀ c b, (t.carrier c).onBranch b = (s.carrier c).onBranch b)
    (hbranches : ∀ b, t.branch b = s.branch b) (harb : t.arb = s.arb) : GrantsShaped t := by
  obtain ⟨hb, hh, hq⟩ := h
  refine ⟨fun b => ?_, ?_, ?_⟩
  · simpa only [hcarriers, hbranches] using hb b
  · simpa only [HoldersShaped, hbranches, harb] using hh
  · simpa only [QueueShaped, hbranches, harb] using hq

/-- The branch records and the arbiter's record stand together, whatever one branch record's other fields become. -/
theorem GrantsShaped.setBranch {s : State} (h : GrantsShaped s) {b : BranchId} {r : Branch} (hr : r.WellShaped)
    (hsame : GrantsSame (s.branch b) r) : GrantsShaped (s.setBranch b r) := by
  obtain ⟨hb, ⟨hlow, hhigh, hsorted, hlength, hnormal, hemergency, hseven⟩, hqueued, hnodup, hentries, hstamps, horder⟩ := h
  refine ⟨fun d => ?_, ⟨hlow, hhigh, hsorted, hlength, fun d => ?_, fun d => ?_, fun d hd => ?_⟩,
    fun d => ?_, hnodup, fun e he => ?_, hstamps, horder⟩
  · rw [branch_setBranch]
    split
    · next hd =>
      refine ⟨hr, fun c => ?_⟩
      rw [hsame.members, hd]
      exact (hb b).2 c
    · exact hb d
  · rw [branch_setBranch]
    split
    · next hd =>
      rw [hsame.grant, hd]
      exact hnormal b
    · exact hnormal d
  · rw [branch_setBranch]
    split
    · next hd =>
      rw [hsame.grant, hd]
      exact hemergency b
    · exact hemergency d
  · rw [branch_setBranch]
    split
    · next heq =>
      rw [heq] at hd
      refine hsame.emergency ?_ (hseven b hd)
      rw [hsame.grant]
      exact (hemergency b).mp hd
    · exact hseven d hd
  · rw [branch_setBranch]
    split
    · next hd =>
      rw [hsame.queued, hd]
      exact hqueued b
    · exact hqueued d
  · obtain ⟨hlevel, hstamp⟩ := hentries e he
    refine ⟨?_, hstamp⟩
    rw [branch_setBranch]
    split
    · next heq =>
      have hstate : r.state = .queued :=
        hsame.queued.mpr ((hqueued b).mpr (heq ▸ List.mem_map_of_mem he))
      rw [hsame.level hstate, ← heq]
      exact hlevel
    · exact hlevel

/-- The level of a QUEUED or RAISING record. -/
theorem raiseLevel_bounds {r : Branch} (hr : r.WellShaped) (hs : r.state = .queued ∨ r.state = .raising) :
    1 ≤ r.raiseLevel ∧ r.raiseLevel ≤ 7 := by
  obtain ⟨-, -, -, -, hlevel, -⟩ := hr
  rwa [if_pos hs] at hlevel

theorem branchesShaped_setBranch {s : State} (h : BranchesShaped s) {b : BranchId} {r : Branch} (hr : r.WellShaped)
    (hmembers : r.members = (s.branch b).members) : BranchesShaped (s.setBranch b r) := by
  intro d
  rw [branch_setBranch]
  split
  · next hd =>
    refine ⟨hr, fun c => ?_⟩
    rw [hmembers, hd]
    exact (h b).2 c
  · exact h d

/-- The holders are as they were, and so is what a holder's record says of its grant. -/
theorem holdersShaped_of_grants {s t : State} (h : HoldersShaped s) (hbudget : t.arb.budget = s.arb.budget)
    (hnormal : t.arb.normalHolders = s.arb.normalHolders) (hemergency : t.arb.emergencyHolder = s.arb.emergencyHolder)
    (hgrant : ∀ d, (t.branch d).grant = (s.branch d).grant)
    (hlevel : ∀ d, (s.branch d).grant = .emergency → (s.branch d).raiseLevel = 7 → (t.branch d).raiseLevel = 7) :
    HoldersShaped t := by
  obtain ⟨hlow, hhigh, hsorted, hlength, hnormalIff, hemergencyIff, hseven⟩ := h
  refine ⟨hbudget ▸ hlow, hbudget ▸ hhigh, hnormal ▸ hsorted, hnormal ▸ hlength, fun d => ?_, fun d => ?_, fun d hd => ?_⟩
  · rw [hnormal, hgrant]
    exact hnormalIff d
  · rw [hemergency, hgrant]
    exact hemergencyIff d
  · rw [hemergency] at hd
    exact hlevel d ((hemergencyIff d).mp hd) (hseven d hd)

/-! ## The queue -/

@[simp] theorem queuedAt_branch (s : State) (b : BranchId) (level : Nat) (d : BranchId) :
    (s.queuedAt b level).branch d =
      if d = b then { (s.branch b).enter .queued with raiseLevel := level } else s.branch d := by
  simp [State.queuedAt]

@[simp] theorem raisedTo_branch (s : State) (b : BranchId) (level : Nat) (d : BranchId) :
    (s.raisedTo b level).branch d = if d = b then { s.branch b with raiseLevel := level } else s.branch d := by
  simp [State.raisedTo]

theorem queued_wellShaped {r : Branch} (hr : r.WellShaped) {level : Nat} (hlevel : 1 ≤ level ∧ level ≤ 7) :
    ({ r.enter .queued with raiseLevel := level } : Branch).WellShaped := by
  obtain ⟨-, -, -, -, -, -, -, hsorted, hlength, -, -⟩ := hr
  exact ⟨by simp [Branch.enter], by simp [Branch.enter], by simp [Branch.enter], by simp [Branch.enter],
    by simpa [Branch.enter] using hlevel, by simp [Branch.enter], by simp [Branch.enter], hsorted, hlength, secondOk_none,
    secondOk_none⟩

/-- A branch that was not QUEUED has no entry, and the entry counter's stamp is on none. -/
theorem GrantsShaped.queuedAt {s : State} (h : GrantsShaped s) {b : BranchId} {level : Nat} (hl : LevelOk True level)
    (hb : (s.branch b).state ∈ [.lowering, .dark, .faulted]) : GrantsShaped (s.queuedAt b level) := by
  obtain ⟨hbranches, hholders, hqueued, hnodup, hentries, hstamps, horder⟩ := h
  have hnotQueued : (s.branch b).state ≠ .queued := by
    rintro heq
    simp [heq] at hb
  have hnotRaising : (s.branch b).state ≠ .raising := by
    rintro heq
    simp [heq] at hb
  have hnone := grant_eq_none (hbranches b).1 hnotRaising
  have habsent : b ∉ s.arb.queue.map (fun e => e.branch) := fun hmem => hnotQueued ((hqueued b).mpr hmem)
  have hperm := placeEntry_perm { branch := b, level := level, stamp := s.arb.entryCounter } s.arb.queue
  have hfresh : ∀ x ∈ s.arb.queue, x.stamp ≠ s.arb.entryCounter := fun x hx => Nat.ne_of_lt (hentries x hx).2
  refine ⟨?_, ?_, fun d => ?_, ?_, fun e he => ?_, ?_, placeEntry_order horder hfresh⟩
  · exact branchesShaped_setBranch hbranches (queued_wellShaped (hbranches b).1 (hl trivial)) rfl
  · refine holdersShaped_of_grants hholders rfl rfl rfl (fun d => ?_) (fun d hgrant hseven => ?_)
    · rw [queuedAt_branch]
      split
      · next hd => simp [hd, hnone, Branch.enter]
      · rfl
    · rw [queuedAt_branch]
      split
      · next hd => simp [hd, hnone] at hgrant
      · exact hseven
  · rw [queuedAt_branch]
    show _ ↔ d ∈ (placeEntry _ s.arb.queue).map _
    rw [(hperm.map _).mem_iff, List.map_cons, List.mem_cons]
    split
    · next hd => simp [hd, Branch.enter]
    · next hd => simp only [hd, false_or, hqueued d]
  · show ((placeEntry _ s.arb.queue).map _).Nodup
    rw [(hperm.map _).nodup_iff, List.map_cons, List.nodup_cons]
    exact ⟨habsent, hnodup⟩
  · rcases List.mem_cons.mp (hperm.mem_iff.mp he) with rfl | he
    · exact ⟨by simp, Nat.lt_succ_self _⟩
    · obtain ⟨hlevel, hstamp⟩ := hentries e he
      have hne : e.branch ≠ b := fun heq => habsent (heq ▸ List.mem_map_of_mem he)
      exact ⟨by rw [queuedAt_branch, if_neg hne, hlevel], Nat.lt_succ_of_lt hstamp⟩
  · show ((placeEntry _ s.arb.queue).map _).Nodup
    rw [(hperm.map _).nodup_iff, List.map_cons, List.nodup_cons]
    refine ⟨fun hmem => ?_, hstamps⟩
    obtain ⟨x, hx, hstamp⟩ := List.mem_map.mp hmem
    exact hfresh x hx hstamp

/-- An entry and the entries of the other branches. -/
theorem queue_perm_cons {e : QueueEntry} {queue : List QueueEntry} (hnodup : (queue.map (fun x => x.branch)).Nodup)
    (he : e ∈ queue) : List.Perm queue (e :: queue.filter (fun x => x.branch != e.branch)) := by
  have hothers : queue.erase e = queue.filter (fun x => x.branch != e.branch) := by
    have hentries : queue.Nodup := List.Pairwise.of_map _ (fun x y hne heq => hne (congrArg _ heq)) hnodup
    rw [hentries.erase_eq_filter]
    refine List.filter_congr fun x hx => ?_
    rw [Bool.eq_iff_iff, bne_iff_ne, bne_iff_ne]
    exact not_congr ⟨fun heq => by rw [heq], eq_of_nodup_map hnodup hx he⟩
  rw [← hothers]
  exact List.perm_cons_erase he

theorem GrantsShaped.raisedTo {s : State} (h : GrantsShaped s) {b : BranchId} {level : Nat} (hl : LevelOk True level)
    (hb : (s.branch b).state = .queued) : GrantsShaped (s.raisedTo b level) := by
  obtain ⟨hbranches, hholders, hqueued, hnodup, hentries, hstamps, horder⟩ := h
  obtain ⟨e, he, rfl⟩ := List.mem_map.mp ((hqueued b).mp hb)
  have hnone := grant_eq_none (hbranches e.branch).1 (by simp [hb])
  have hperm : List.Perm (raiseEntry e.branch level s.arb.queue)
      ({ e with level := level } :: s.arb.queue.filter (fun x => x.branch != e.branch)) := by
    rw [raiseEntry_eq hnodup he]
    exact placeEntry_perm _ _
  have hbefore := queue_perm_cons hnodup he
  have hbranchPerm : List.Perm ((raiseEntry e.branch level s.arb.queue).map (fun x => x.branch))
      (s.arb.queue.map (fun x => x.branch)) := (hperm.map _).trans (hbefore.map (fun x => x.branch)).symm
  have hstampPerm : List.Perm ((raiseEntry e.branch level s.arb.queue).map (fun x => x.stamp))
      (s.arb.queue.map (fun x => x.stamp)) := (hperm.map _).trans (hbefore.map (fun x => x.stamp)).symm
  refine ⟨?_, ?_, fun d => ?_, hbranchPerm.nodup_iff.mpr hnodup, fun x hx => ?_, hstampPerm.nodup_iff.mpr hstamps,
    raiseEntry_order horder hstamps hnodup he level⟩
  · obtain ⟨hlinger, hexpired, hramp, hseen, -, hgrant, hunused, hsorted, hlength, hlingerOk, hrampOk⟩ :=
      (hbranches e.branch).1
    have hlevel : 1 ≤ level ∧ level ≤ 7 := hl trivial
    exact branchesShaped_setBranch hbranches ⟨hlinger, hexpired, hramp, hseen, by simpa [hb] using hlevel, hgrant, hunused,
      hsorted, hlength, hlingerOk, hrampOk⟩ rfl
  · refine holdersShaped_of_grants hholders rfl rfl rfl (fun d => ?_) (fun d hgrant hseven => ?_)
    · rw [raisedTo_branch]
      split
      · next hd => rw [hd]
      · rfl
    · rw [raisedTo_branch]
      split
      · next hd => simp [hd, hnone] at hgrant
      · exact hseven
  · show _ ↔ d ∈ (raiseEntry _ _ s.arb.queue).map _
    rw [hbranchPerm.mem_iff, raisedTo_branch, ← hqueued d]
    split
    · next hd => rw [hd]
    · rfl
  · rcases List.mem_cons.mp (hperm.mem_iff.mp hx) with rfl | hx
    · exact ⟨by simp, (hentries e he).2⟩
    · obtain ⟨hmem, hother⟩ := List.mem_filter.mp hx
      obtain ⟨hlevel, hstamp⟩ := hentries x hmem
      exact ⟨by rw [raisedTo_branch, if_neg (bne_iff_ne.mp hother), hlevel], hstamp⟩

/-! ## Grants and releases -/

theorem mem_insertIndex {n : Nat} (x y : Fin n) (l : List (Fin n)) : y ∈ insertIndex x l ↔ y = x ∨ y ∈ l := by
  induction l with
  | nil => simp [insertIndex]
  | cons z zs ih =>
    unfold insertIndex
    split
    · simp
    · split
      · next heq => simp [heq]
      · rw [List.mem_cons, ih, List.mem_cons]
        exact or_left_comm

theorem insertIndex_sorted {n : Nat} (x : Fin n) {l : List (Fin n)} (h : l.Pairwise (· < ·)) :
    (insertIndex x l).Pairwise (· < ·) := by
  induction l with
  | nil => simp [insertIndex]
  | cons z zs ih =>
    obtain ⟨hz, hzs⟩ := List.pairwise_cons.mp h
    unfold insertIndex
    split
    · next hlt =>
      refine List.pairwise_cons.mpr ⟨fun y hy => ?_, h⟩
      rcases List.mem_cons.mp hy with rfl | hy
      · exact hlt
      · exact Fin.lt_trans hlt (hz y hy)
    · split
      · exact h
      · next hle hne =>
        refine List.pairwise_cons.mpr ⟨fun y hy => ?_, ih hzs⟩
        rcases (mem_insertIndex x y zs).mp hy with rfl | hy
        · exact Nat.lt_of_le_of_ne (Fin.not_lt.mp hle) fun heq => hne (Fin.ext heq.symm)
        · exact hz y hy

theorem insertIndex_length_le {n : Nat} (x : Fin n) (l : List (Fin n)) : (insertIndex x l).length ≤ l.length + 1 := by
  induction l with
  | nil => simp [insertIndex]
  | cons z zs ih =>
    unfold insertIndex
    split
    · simp
    · split
      · simp
      · simpa using ih

theorem mem_removeIndex {n : Nat} (x y : Fin n) (l : List (Fin n)) : y ∈ removeIndex x l ↔ y ∈ l ∧ y ≠ x := by
  simp [removeIndex]

theorem removeIndex_sorted {n : Nat} (x : Fin n) {l : List (Fin n)} (h : l.Pairwise (· < ·)) :
    (removeIndex x l).Pairwise (· < ·) := h.filter _

theorem removeIndex_length_le {n : Nat} (x : Fin n) (l : List (Fin n)) : (removeIndex x l).length ≤ l.length :=
  List.length_filter_le _ _

theorem raising_wellShaped {r : Branch} (hr : r.WellShaped) (hs : r.state = .queued) {g : Grant} (hg : g ≠ .none)
    (now limit : Nat) :
    ({ r.enter .raising with
      raiseLevel := r.raiseLevel, grant := g, rampDeadline := some (secondsAfter now limit) } : Branch).WellShaped := by
  have hlevel := raiseLevel_bounds hr (.inl hs)
  obtain ⟨-, -, -, -, -, -, -, hsorted, hlength, -, -⟩ := hr
  exact ⟨by simp [Branch.enter], by simp [Branch.enter], by simp [Branch.enter], by simp [Branch.enter],
    by simpa [Branch.enter] using hlevel, by simp [Branch.enter, hg], by simp [Branch.enter], hsorted, hlength,
    secondOk_none, secondOk_after now limit⟩

theorem granted_branch_eq (s : State) (b : BranchId) (g : Grant) (d : BranchId) :
    (s.granted b g).branch d =
      if d = b then { (s.branch b).enter .raising with
        raiseLevel := (s.branch b).raiseLevel, grant := g, rampDeadline := some (secondsAfter s.now s.ctrl.rampUp) }
      else s.branch d := by
  simp [State.granted]

theorem granted_holders {s : State} (h : HoldersShaped s) {e : QueueEntry} {g : Grant}
    (hnext : s.arb.nextGrant = some (e, g)) (hnone : (s.branch e.branch).grant = .none)
    (hlevel : e.level = (s.branch e.branch).raiseLevel) : HoldersShaped (s.granted e.branch g) := by
  obtain ⟨hlow, hhigh, hsorted, hlength, hnormal, hemergency, hseven⟩ := h
  have hnotEmergency : s.arb.emergencyHolder ≠ some e.branch := fun heq => by
    simp [(hemergency e.branch).mp heq] at hnone
  obtain ⟨-, ⟨hroom, rfl⟩ | ⟨-, hfree, hsevenHead, rfl⟩⟩ := nextGrant_eq_some.mp hnext
  · have hlength' := Nat.le_trans (insertIndex_length_le e.branch s.arb.normalHolders) (Nat.lt_of_lt_of_le hroom hhigh)
    refine ⟨hlow, hhigh, insertIndex_sorted _ hsorted, hlength', fun d => ?_, fun d => ?_, fun d hd => ?_⟩
    · show d ∈ insertIndex e.branch s.arb.normalHolders ↔ _
      rw [mem_insertIndex, granted_branch_eq]
      split
      · next hd => simp [hd]
      · next hd => simp only [hd, false_or, hnormal d]
    · show s.arb.emergencyHolder = some d ↔ _
      rw [granted_branch_eq]
      split
      · next hd => simp [hd, hnotEmergency]
      · exact hemergency d
    · have hd' : s.arb.emergencyHolder = some d := hd
      have hne : d ≠ e.branch := fun heq => hnotEmergency (heq ▸ hd')
      rw [granted_branch_eq, if_neg hne]
      exact hseven d hd'
  · refine ⟨hlow, hhigh, hsorted, hlength, fun d => ?_, fun d => ?_, fun d hd => ?_⟩
    · show d ∈ s.arb.normalHolders ↔ _
      rw [granted_branch_eq]
      split
      · next hd => simp [hd, hnormal e.branch, hnone]
      · exact hnormal d
    · show some e.branch = some d ↔ _
      rw [granted_branch_eq]
      split
      · next hd => simp [hd]
      · next hd =>
        have hother : (s.branch d).grant ≠ .emergency := by
          rw [Ne, ← hemergency d, hfree]
          simp
        simpa [hother] using Ne.symm hd
    · obtain rfl : e.branch = d := Option.some.inj hd
      rw [granted_branch_eq, if_pos rfl]
      exact hlevel ▸ hsevenHead

/-- The head's branch, which holds no grant, becomes a holder, within the budget or as the one EMERGENCY holder. -/
theorem GrantsShaped.granted {s : State} (h : GrantsShaped s) {e : QueueEntry} {g : Grant}
    (hnext : s.arb.nextGrant = some (e, g)) : GrantsShaped (s.granted e.branch g) := by
  obtain ⟨hbranches, hholders, hqueued, hnodup, hentries, hstamps, horder⟩ := h
  obtain ⟨hlow, hhigh, hsorted, hlength, hnormal, hemergency, hseven⟩ := hholders
  have hqueue := queue_of_nextGrant hnext
  have hkind := grant_of_nextGrant hnext
  have hgiven : (s.arb.give e.branch g).queue = s.arb.queue.tail := give_queue hkind e.branch
  have hcounter : (s.arb.give e.branch g).entryCounter = s.arb.entryCounter := by
    rcases hkind with rfl | rfl <;> rfl
  have hmem : e ∈ s.arb.queue := by
    rw [hqueue]
    exact List.mem_cons_self
  have hstate : (s.branch e.branch).state = .queued := (hqueued _).mpr (List.mem_map_of_mem hmem)
  have hnone := grant_eq_none (hbranches e.branch).1 (by simp [hstate])
  have hshaped := raising_wellShaped (hbranches e.branch).1 hstate (g := g)
    (by rcases hkind with rfl | rfl <;> simp) s.now s.ctrl.rampUp
  have hbranches' : BranchesShaped (s.granted e.branch g) := branchesShaped_setBranch (s := s.setArb _) hbranches hshaped rfl
  have hsub : List.Sublist s.arb.queue.tail s.arb.queue := List.tail_sublist _
  have hnotTail : e.branch ∉ s.arb.queue.tail.map (fun x => x.branch) := by
    rw [hqueue, List.map_cons] at hnodup
    exact (List.nodup_cons.mp hnodup).1
  refine ⟨hbranches', ?_, fun d => ?_, ?_, fun x hx => ?_, ?_, ?_⟩
  · exact granted_holders ⟨hlow, hhigh, hsorted, hlength, hnormal, hemergency, hseven⟩ hnext hnone
      (hentries e hmem).1
  · show _ ↔ d ∈ (s.arb.give e.branch g).queue.map _
    rw [hgiven, granted_branch_eq]
    split
    · next hd => simpa [hd, Branch.enter] using hnotTail
    · next hd =>
      rw [hqueued d, hqueue]
      simp [hd]
  · show ((s.arb.give e.branch g).queue.map _).Nodup
    rw [hgiven]
    exact hnodup.sublist (hsub.map _)
  · change x ∈ (s.arb.give e.branch g).queue at hx
    rw [hgiven] at hx
    obtain ⟨hlevel, hstamp⟩ := hentries x (hsub.subset hx)
    have hne : x.branch ≠ e.branch := fun heq => hnotTail (heq ▸ List.mem_map_of_mem hx)
    refine ⟨by rw [granted_branch_eq, if_neg hne, hlevel], ?_⟩
    show x.stamp < (s.arb.give e.branch g).entryCounter
    rwa [hcounter]
  · show ((s.arb.give e.branch g).queue.map _).Nodup
    rw [hgiven]
    exact hstamps.sublist (hsub.map _)
  · show InQueueOrder (s.arb.give e.branch g).queue
    rw [hgiven]
    exact horder.sublist hsub

theorem released_holders {s : State} (h : HoldersShaped s) {b : BranchId} {state : BranchState}
    (hshaped : (s.branch b).WellShaped) (hb : (s.branch b).state = .raising)
    (hrecord : ∀ d, (s.released b state).branch d = if d = b then (s.branch b).enter state else s.branch d) :
    HoldersShaped (s.released b state) := by
  obtain ⟨hlow, hhigh, hsorted, hlength, hnormal, hemergency, hseven⟩ := h
  have hgrant : (s.branch b).grant ≠ .none := by
    obtain ⟨-, -, -, -, -, hgrant, -⟩ := hshaped
    exact hgrant.mpr hb
  cases hg : (s.branch b).grant with
  | none => exact absurd hg hgrant
  | normal =>
    have harb : (s.released b state).arb = { s.arb with normalHolders := removeIndex b s.arb.normalHolders } := by
      simp [State.released, hg, Arbiter.drop]
    have hnotEmergency : s.arb.emergencyHolder ≠ some b := fun heq => by simp [(hemergency b).mp heq] at hg
    rw [HoldersShaped, harb]
    refine ⟨hlow, hhigh, removeIndex_sorted b hsorted, Nat.le_trans (removeIndex_length_le b _) hlength, fun d => ?_, fun d => ?_,
      fun d hd => ?_⟩
    · rw [mem_removeIndex, hrecord]
      split
      · next hd => simp [hd, Branch.enter]
      · next hd => simp [hd, hnormal d]
    · rw [hrecord]
      split
      · next hd => simp [hd, Branch.enter, hnotEmergency]
      · exact hemergency d
    · have hne : d ≠ b := fun heq => hnotEmergency (heq ▸ hd)
      rw [hrecord, if_neg hne]
      exact hseven d hd
  | emergency =>
    have harb : (s.released b state).arb = { s.arb with emergencyHolder := none } := by
      simp [State.released, hg, Arbiter.drop]
    have hholder := (hemergency b).mpr hg
    rw [HoldersShaped, harb]
    refine ⟨hlow, hhigh, hsorted, hlength, fun d => ?_, fun d => ?_, fun d hd => by simp at hd⟩
    · rw [hrecord]
      split
      · next hd => simp [hd, Branch.enter, hnormal b, hg]
      · exact hnormal d
    · rw [hrecord]
      split
      · simp [Branch.enter]
      · next hd =>
        have hother : (s.branch d).grant ≠ .emergency := fun heq => hd (by
          have := (hemergency d).mpr heq
          rw [hholder] at this
          exact (Option.some.inj this).symm)
        simp [hother]

/-- The record of a branch that leaves RAISING loses its grant, and the arbiter's record loses the holder. -/
theorem GrantsShaped.released {s : State} (h : GrantsShaped s) {b : BranchId} {state : BranchState}
    (hb : (s.branch b).state = .raising) (hstate : state = .powered ∨ state = .faulted) :
    GrantsShaped (s.released b state) := by
  obtain ⟨hbranches, hholders, hqueued, hnodup, hentries, hstamps, horder⟩ := h
  have hrecord (d : BranchId) : (s.released b state).branch d = if d = b then (s.branch b).enter state else s.branch d := by
    simp [State.released, State.enterBranch]
  have hqueue : (s.released b state).arb.queue = s.arb.queue := released_queue s b state
  have hcounter : (s.released b state).arb.entryCounter = s.arb.entryCounter := by
    simp only [State.released, setArb_arb]
    cases (s.branch b).grant <;> rfl
  have hentered := enter_wellShaped (hbranches b).1 (s.branch b).lineMode (state := state)
    (by rcases hstate with rfl | rfl <;> simp)
  have habsent : b ∉ s.arb.queue.map (fun e => e.branch) := fun hmem => by
    simp [(hqueued b).mpr hmem] at hb
  refine ⟨?_, released_holders hholders (hbranches b).1 hb hrecord, fun d => ?_, by rwa [hqueue], fun x hx => ?_,
    by rwa [hqueue], by rwa [hqueue]⟩
  · exact branchesShaped_setBranch (s := s) hbranches hentered rfl
  · rw [hqueue, hrecord]
    split
    · next hd => rcases hstate with rfl | rfl <;> simpa [hd, Branch.enter] using habsent
    · exact hqueued d
  · rw [hqueue] at hx
    obtain ⟨hlevel, hstamp⟩ := hentries x hx
    have hne : x.branch ≠ b := fun heq => habsent (heq ▸ List.mem_map_of_mem hx)
    exact ⟨by rw [hrecord, if_neg hne, hlevel], by rwa [hcounter]⟩

/-! ## Provisioning and site time -/

theorem onBranch_vacant (b : BranchId) : Carrier.vacant.onBranch b = false := rfl

theorem provision_of_move {strict : Prop} {r r' : Carrier} (h : CarrierMove strict r r') : r'.provision = r.provision := by
  cases h <;> rfl

theorem onBranch_of_provision {r r' : Carrier} (h : r'.provision = r.provision) (b : BranchId) :
    r'.onBranch b = r.onBranch b := by
  simp only [Carrier.onBranch, h]

theorem GrantsShaped.setCarrier {s : State} (h : GrantsShaped s) {c : CarrierId} {r : Carrier}
    (hr : r.provision = (s.carrier c).provision) : GrantsShaped (s.setCarrier c r) := by
  refine h.of_same (fun d b => ?_) (fun b => rfl) rfl
  rw [carrier_setCarrier]
  split
  · next hd =>
    rw [hd]
    exact onBranch_of_provision hr b
  · rfl

/-- A change of one carrier and of the member list of one branch, which names it as its record then does. -/
theorem GrantsShaped.setMember {s : State} (h : GrantsShaped s) {c : CarrierId} {r : Carrier} {b : BranchId}
    {members : List CarrierId} (hstate : (s.branch b).state ≠ .unused) (hsorted : members.Pairwise (· < ·))
    (hlength : members.length ≤ Config.memberPlaces)
    (hmem : ∀ d, d ∈ members ↔ if d = c then r.onBranch b = true else d ∈ (s.branch b).members)
    (hothers : ∀ b', b' ≠ b → r.onBranch b' = (s.carrier c).onBranch b') :
    GrantsShaped ((s.setCarrier c r).setBranch b { s.branch b with members := members }) := by
  obtain ⟨hbranches, hholders, hqueued, hnodup, hentries, hstamps, horder⟩ := h
  have hrecord (d : BranchId) : ((s.setCarrier c r).setBranch b { s.branch b with members := members }).branch d =
      if d = b then { s.branch b with members := members } else s.branch d := by
    simp
  have hcarrier (d : CarrierId) : ((s.setCarrier c r).setBranch b { s.branch b with members := members }).carrier d =
      if d = c then r else s.carrier d := by
    simp
  refine ⟨fun d => ?_, holdersShaped_of_grants hholders rfl rfl rfl (fun d => ?_) (fun d _ hseven => ?_), fun d => ?_, hnodup,
    fun e he => ?_, hstamps, horder⟩
  · rw [hrecord]
    split
    · next hd =>
      obtain ⟨hlinger, hexpired, hramp, hseen, hlevel, hgrant, hunused, -, -, hlingerOk, hrampOk⟩ := (hbranches b).1
      refine ⟨⟨hlinger, hexpired, hramp, hseen, hlevel, hgrant, fun hu => absurd hu hstate, hsorted, hlength, hlingerOk,
        hrampOk⟩, fun e => ?_⟩
      show e ∈ members ↔ _
      rw [hmem, hcarrier, hd]
      split
      · rfl
      · exact (hbranches b).2 e
    · next hd =>
      refine ⟨(hbranches d).1, fun e => ?_⟩
      rw [hcarrier]
      split
      · next he =>
        rw [hothers d hd, he]
        exact (hbranches d).2 c
      · exact (hbranches d).2 e
  · rw [hrecord]
    split
    · next hd => rw [hd]
    · rfl
  · rw [hrecord]
    split
    · next hd => rwa [hd] at hseven
    · exact hseven
  · rw [hrecord]
    split
    · next hd =>
      rw [hd]
      exact hqueued b
    · exact hqueued d
  · obtain ⟨hlevel, hstamp⟩ := hentries e he
    refine ⟨?_, hstamp⟩
    rw [hrecord]
    split
    · next hd => rw [hlevel, hd]
    · exact hlevel

theorem GrantsShaped.placeCarrier {s : State} (h : GrantsShaped s) (hcarriers : CarriersShaped s) {c : CarrierId}
    {pv : Provision} (hvacant : (s.carrier c).state = .vacant) (hpowered : (s.branch pv.branch).state = .powered)
    (hroom : (s.branch pv.branch).members.length < Config.memberPlaces) : GrantsShaped (s.placeCarrier c pv) := by
  have hrecord : s.carrier c = Carrier.vacant := (hcarriers.2 c).1 hvacant
  obtain ⟨-, -, -, -, -, -, -, hsorted, -⟩ := (h.branches pv.branch).1
  refine h.setMember (r := { Carrier.vacant with state := .on, provision := some pv }) (by simp [hpowered])
    (insertIndex_sorted c hsorted) (Nat.le_trans (insertIndex_length_le c _) hroom) (fun d => ?_) (fun b' hb' => ?_)
  · rw [mem_insertIndex]
    split
    · next hd => simp [hd, Carrier.onBranch]
    · next hd => simp [hd]
  · rw [hrecord, onBranch_vacant]
    simpa [Carrier.onBranch] using Ne.symm hb'

theorem GrantsShaped.removeMember {s : State} (h : GrantsShaped s) {c : CarrierId} {pv : Provision}
    (hpv : (s.carrier c).provision = some pv) :
    GrantsShaped ((s.setCarrier c Carrier.vacant).setBranch pv.branch
      { s.branch pv.branch with members := removeIndex c (s.branch pv.branch).members }) := by
  obtain ⟨-, -, -, -, -, -, hunused, hsorted, hlength, -⟩ := (h.branches pv.branch).1
  have hmember : c ∈ (s.branch pv.branch).members :=
    ((h.branches pv.branch).2 c).mpr (by simp [Carrier.onBranch, hpv])
  refine h.setMember (fun hu => by simp [hunused hu] at hmember) (removeIndex_sorted c hsorted)
    (Nat.le_trans (removeIndex_length_le c _) hlength) (fun d => ?_) (fun b' hb' => ?_)
  · rw [mem_removeIndex]
    split
    · next hd => simp [hd, onBranch_vacant]
    · next hd => simp [hd]
  · rw [onBranch_vacant]
    simpa [Carrier.onBranch, hpv] using Ne.symm hb'

theorem unused_wellShaped (state : BranchState) (h : state = .powered ∨ state = .unused) :
    ({ Branch.unused with state := state } : Branch).WellShaped := by
  rcases h with rfl | rfl <;>
    exact ⟨by simp [Branch.unused], by simp [Branch.unused], by simp [Branch.unused], by simp [Branch.unused],
      by simp [Branch.unused], by simp [Branch.unused], fun _ => rfl, by simp [Branch.unused], by simp [Branch.unused],
      secondOk_none, secondOk_none⟩

/-- PROVISION_BRANCH and DEPROVISION_BRANCH find no member and no grant (R53, R54). -/
theorem GrantsShaped.emptyBranch {s : State} (h : GrantsShaped s) {b : BranchId} {state : BranchState}
    (hstate : state = .powered ∨ state = .unused) (hb : (s.branch b).state = .powered ∨ (s.branch b).state = .unused)
    (hmembers : (s.branch b).members = []) : GrantsShaped (s.setBranch b { Branch.unused with state := state }) := by
  have hnone := grant_eq_none (h.branches b).1 (by rcases hb with hb | hb <;> simp [hb])
  have hbefore : (s.branch b).state ≠ .queued := by rcases hb with hb | hb <;> simp [hb]
  have hafter : state ≠ .queued := by rcases hstate with rfl | rfl <;> simp
  exact h.setBranch (unused_wellShaped state hstate)
    ⟨hmembers.symm, by simp [hbefore, hafter], fun hq => absurd hq hafter, by rw [hnone]; rfl, by simp [Branch.unused]⟩

theorem secondOk_moved (d : Option Nat) (old new : Nat) : SecondOk (d.map (movedDeadline old new)) := by
  intro t ht
  obtain ⟨u, -, rfl⟩ := Option.map_eq_some_iff.mp ht
  exact movedDeadline_lt old new u

@[simp] theorem stepTime_branch (s : State) (n : Nat) (b : BranchId) :
    (s.stepTime n).branch b = (s.branch b).moveDeadlines s.now n := by
  simp [State.stepTime, State.branch]

theorem branchMoved_wellShaped {r : Branch} (hr : r.WellShaped) (old new : Nat) : (r.moveDeadlines old new).WellShaped := by
  obtain ⟨hlinger, hexpired, hramp, hseen, hlevel, hgrant, hunused, hsorted, hlength, -, -⟩ := hr
  exact ⟨by simpa [Branch.moveDeadlines] using hlinger, hexpired, by simpa [Branch.moveDeadlines] using hramp, hseen, hlevel,
    hgrant, hunused, hsorted, hlength, secondOk_moved _ old new, secondOk_moved _ old new⟩

theorem GrantsShaped.stepTime {s : State} (h : GrantsShaped s) (n : Nat) : GrantsShaped (s.stepTime n) := by
  obtain ⟨hbranches, hholders, hqueued, hnodup, hentries, hstamps, horder⟩ := h
  refine ⟨fun b => ?_, holdersShaped_of_grants hholders rfl rfl rfl (fun d => ?_) (fun d _ hseven => ?_), fun d => ?_,
    hnodup, fun e he => ?_, hstamps, horder⟩
  · rw [stepTime_branch]
    refine ⟨branchMoved_wellShaped (hbranches b).1 _ _, fun c => ?_⟩
    rw [stepTime_carrier]
    exact (hbranches b).2 c
  · rw [stepTime_branch]
    rfl
  · rw [stepTime_branch]
    exact hseven
  · rw [stepTime_branch]
    exact hqueued d
  · rw [stepTime_branch]
    exact hentries e he

theorem GrantsShaped.budget {s : State} (h : GrantsShaped s) {n : Nat} (h1 : 1 ≤ n) (h4 : n ≤ 4) :
    GrantsShaped (s.setArb { s.arb with budget := n }) := by
  obtain ⟨hbranches, ⟨-, -, hsorted, hlength, hnormal, hemergency, hseven⟩, hqueued⟩ := h
  exact ⟨hbranches, ⟨h1, h4, hsorted, hlength, hnormal, hemergency, hseven⟩, hqueued⟩

/-- Device reset leaves every branch UNUSED, no grant and no entry (R52, R90). -/
theorem grantsShaped_of_reset {s : State} (hcarriers : ∀ c, s.carrier c = Carrier.vacant)
    (hbranches : ∀ b, s.branch b = Branch.unused) (hbudget : s.arb.budget = 1) (hnormal : s.arb.normalHolders = [])
    (hemergency : s.arb.emergencyHolder = none) (hqueue : s.arb.queue = []) : GrantsShaped s := by
  refine ⟨fun b => ?_, ?_, ?_⟩
  · rw [hbranches]
    refine ⟨unused_wellShaped .unused (.inr rfl), fun c => ?_⟩
    rw [hcarriers]
    simp [Branch.unused, Carrier.onBranch, Carrier.vacant]
  · simp [HoldersShaped, hbranches, hbudget, hnormal, hemergency, Branch.unused]
  · simp [QueueShaped, InQueueOrder, hbranches, hqueue, Branch.unused]

theorem reset_branch (b : BranchId) : State.reset.branch b = Branch.unused := by
  simp [State.branch, State.reset, BranchController.initial]

theorem deviceReset_branch (s : State) (b : BranchId) : s.deviceReset.branch b = Branch.unused := by
  simp [State.branch, State.deviceReset, BranchController.initial]

theorem deviceReset_carrier (s : State) (c : CarrierId) : s.deviceReset.carrier c = Carrier.vacant := reset_carrier c

/-! ## The statement -/

/-- The invariant of carriers, branches and grants. -/
def SiteShaped (s : State) : Prop := CarriersShaped s ∧ GrantsShaped s

theorem SiteShaped.of_records {s t : State} (h : SiteShaped s) (hcarriers : t.table.carriers = s.table.carriers)
    (hinputs : t.lines.inputs = s.lines.inputs) (hbranches : t.ctrl.branches = s.ctrl.branches) (harb : t.arb = s.arb) :
    SiteShaped t := by
  have hcarrier (c : CarrierId) : t.carrier c = s.carrier c := by simp only [State.carrier, hcarriers]
  have hbranch (b : BranchId) : t.branch b = s.branch b := by simp only [State.branch, hbranches]
  exact ⟨carriersShaped_kept.same h.1 ⟨hcarriers, hinputs⟩, h.2.of_same (fun c b => by rw [hcarrier]) hbranch harb⟩

theorem SiteShaped.of_channels {s t : State} (h : SiteShaped s) (hframe : ChannelFrame s t) : SiteShaped t :=
  h.of_records (by rw [hframe.table]) hframe.inputs (by rw [hframe.ctrl]) hframe.arb

theorem siteShaped_grants : KeptByGrants True SiteShaped where
  aside hs ha := hs.of_records ha.carriers ha.inputs ha.branches ha.arb
  carrier hs hmove := ⟨carriersShaped_kept.carrier hs.1 hmove, hs.2.setCarrier (provision_of_move hmove)⟩
  branch := fun {s b r} hs hmove => by
    obtain ⟨hshaped, hsame⟩ := hmove.kept (hs.2.branches b).1
    exact ⟨hs.1, hs.2.setBranch hshaped hsame⟩
  queue hs hl hb := ⟨hs.1, hs.2.queuedAt hl hb⟩
  raise hs hl hb _ := ⟨hs.1, hs.2.raisedTo hl hb⟩
  grant hs hnext := ⟨hs.1, hs.2.granted hnext⟩
  release hs hb hstate := ⟨hs.1, hs.2.released hb hstate⟩

theorem siteShaped_work : KeptByWork True SiteShaped where
  toKeptByRecords := siteShaped_grants.toKeptByRecords
  enterQueued := siteShaped_grants.enterQueued
  raiseQueued := siteShaped_grants.raiseQueued
  powerGood := siteShaped_grants.powerGood_considered
  failRaise := siteShaped_grants.failRaise
  decline hs _ := hs.of_channels (.entryProcessed _ _ _)
  entry hs _ := hs.of_channels (.entryProcessed _ _ _)
  wait hs _ := hs.of_records rfl rfl rfl rfl
  outcome hs := hs.of_channels (.drainOutcome _ _ _)
  deliverStart hs _ := hs.of_channels (.deliverStart _ _ _)
  stop hs _ := hs.of_records rfl rfl rfl rfl
  halt hs _ := hs.of_records rfl rfl rfl rfl
  pendingLevel hstrict hs := carriersShaped_kept.pendingLevel hstrict hs.1
  wakeLevel hstrict hs := carriersShaped_kept.wakeLevel hstrict hs.1

theorem siteShaped_kept : KeptByCommands True SiteShaped where
  toKeptByWork := siteShaped_work
  place hs hvacant hpowered hroom :=
    ⟨carriersShaped_kept.kept.place hs.1 hvacant hpowered hroom, hs.2.placeCarrier hs.1 hvacant hpowered hroom⟩
  vacate := fun {s c} hs hon hnone => by
    have hprovision := (hs.1.2 c).2.1 (by simp [hon])
    simp [hnone] at hprovision
  remove hs hon hpv := ⟨carriersShaped_kept.kept.remove hs.1 hon hpv, hs.2.removeMember hpv⟩
  provisionBranch := fun {s b} hs hb => by
    obtain ⟨-, -, -, -, -, -, hunused, -⟩ := (hs.2.branches b).1
    exact ⟨hs.1, hs.2.emptyBranch (.inl rfl) (.inr hb) (hunused hb)⟩
  deprovisionBranch hs hb hmembers := ⟨hs.1, hs.2.emptyBranch (.inr rfl) (.inl hb) hmembers⟩
  budget := fun {s n} hs h1 h4 => by
    have hset : SiteShaped (s.setArb { s.arb with budget := n }) := ⟨hs.1, hs.2.budget h1 h4⟩
    split
    · exact siteShaped_grants.considerGrants hset
    · exact hset
  rewrite hs _ _ _ := hs.of_records rfl rfl rfl rfl
  list hs := hs.of_records rfl rfl rfl rfl
  input hs h1 h7 := ⟨carriersShaped_kept.input hs.1 h1 h7, hs.2.of_same (fun _ _ => rfl) (fun _ => rfl) rfl⟩
  inputLevel hstrict hs := carriersShaped_kept.inputLevel hstrict hs.1
  openWindow hs _ := hs.of_records rfl rfl rfl rfl
  closeEvent hs := siteShaped_work.closeEvent_of_timer (fun hu => hu.of_records rfl rfl rfl rfl) hs _
  shadow hs _ := hs.of_records rfl rfl rfl rfl
  swap hs := hs.of_records rfl rfl rfl rfl
  swapLater hs _ := hs.of_records rfl rfl rfl rfl
  siteTime _ hu _ := hu.of_records rfl rfl rfl rfl
  stepTime hs _ := ⟨carriersShaped_kept.stepTime hs.1, hs.2.stepTime _⟩
  deviceReset := fun {s} hs => ⟨carriersShaped_kept.kept.deviceReset hs.1,
    grantsShaped_of_reset (deviceReset_carrier s) (deviceReset_branch s) rfl rfl rfl rfl⟩

/-- Settles O59: the arbiter considers grants wherever its record changes, and every update of a branch record moves the
branch's entry, its holder and its state together. -/
theorem noServableHeadWaits : Obligations.NoServableHeadWaits := by
  refine ⟨noGrantWaits_kept.step, fun s t hs hstep => ?_⟩
  obtain ⟨hcarriers, hbranches, hholders, hqueue⟩ := hs
  obtain ⟨hcarriers', hgrants⟩ := siteShaped_kept.step s t ⟨hcarriers, hbranches, hholders, hqueue⟩ hstep
  exact ⟨hcarriers', hgrants.branches, hgrants.holders, hgrants.queue⟩

end Sys2Proof.Machine

/-!
SUPPORT. Device reset: the invariants right after it (O51), the reset values of the chapters (O2), and what device reset
and RESTART make of every block and port (O3); and the step (O1).
-/
namespace Sys2Proof.Machine
open Sys2Proof

/-! ## The invariants at device reset -/

theorem reset_port (p : Port) : State.reset.port p = PortState.initial := by
  simp [State.port, State.reset]

theorem reset_channel (k : ChannelId) : State.reset.channel k = Channel.initial := by
  simp [State.channel, State.reset, RestChannels.initial]

theorem carriersShaped_reset : CarriersShaped State.reset := carriersShaped_kept.reset

theorem grantsShaped_reset : GrantsShaped State.reset :=
  grantsShaped_of_reset reset_carrier reset_branch rfl rfl rfl rfl

theorem channelsShaped_reset : ChannelsShaped State.reset := by
  have hkept : ChannelsKept State.reset := fun k => by
    rw [reset_channel]
    exact initial_kept _
  exact (channelsKept_iff fun h => by cases h).mp hkept

/-- Settles O51: every record of State.reset is the record its chapter gives, which has the shape. -/
theorem theInvariantsHoldAtReset : Obligations.TheInvariantsHoldAtReset := by
  have hports : PortsBounded State.reset := fun p _ => by
    rw [reset_port]
    exact initial_bounded
  have hstack : StackBounded State.reset := Nat.zero_le _
  have hquiet : HaltQuiet State.reset := fun h => by cases h
  have hgrants : NoGrantWaits State.reset := nextGrant_of_nil (a := State.reset.arb) rfl
  exact ⟨hports, hstack, hquiet, drainingConsents_kept.reset, carriersShaped_reset, grantsShaped_reset.branches,
    grantsShaped_reset.holders, grantsShaped_reset.queue, windowsShaped_reset, channelsShaped_reset, hgrants⟩

/-! ## The reset values -/

theorem reset_window (w : WindowId) : State.reset.window w = Window.initial := by
  simp [State.window, State.reset, WindowTimer.initial]

/-- Settles O2, record by record. -/
theorem resetLeavesTheValuesOfTheChapters : Obligations.ResetLeavesTheValuesOfTheChapters := by
  refine ⟨reset_carrier, fun t sec => ?_, fun t => ?_, rfl, rfl, fun b => ⟨reset_branch b, ?_⟩, rfl, rfl, rfl, rfl, rfl, rfl,
    rfl, rfl, rfl, fun w => ?_, fun e => ?_, reset_channel, fun k => ?_, reset_input, rfl, rfl, rfl, fun o => ?_, rfl, rfl,
    fun p => ?_⟩
  · simp [State.floorOf, State.reset, CarrierTable.initial]
  · simp [State.drainLimit, State.reset, CarrierTable.initial]
  · rw [State.ben, reset_branch]
    rfl
  · rw [reset_window]
    exact ⟨rfl, rfl, rfl, rfl⟩
  · simp [State.reset, RestChannels.initial]
  · simp [State.slot, State.reset, CauseUnit.initial]
  · simp [State.output, State.reset, CauseUnit.initial]
  · rw [State.ready, State.attn, reset_port]
    exact ⟨rfl, rfl, rfl, rfl, rfl, rfl, rfl⟩

/-! ## Device reset and RESTART -/

theorem deviceReset_port (s : State) (p : Port) : s.deviceReset.port p = (s.port p).deviceReset := by
  simp [State.port, State.deviceReset]

theorem exists_portIndex (i : Fin 6) : ∃ p, portIndex p = i := by
  have hall : ∀ i : Fin 6, ∃ p ∈ allPorts, portIndex p = i := by decide
  obtain ⟨p, -, hp⟩ := hall i
  exact ⟨p, hp⟩

/-- States with the same ports one by one have the same ports. -/
theorem ports_ext {s t : State} (h : ∀ p, t.port p = s.port p) : t.ports = s.ports := by
  refine Vector.ext fun i hi => ?_
  obtain ⟨p, hp⟩ := exists_portIndex ⟨i, hi⟩
  have hport := h p
  simpa [State.port, hp] using hport

theorem deviceReset_eq_of_ports {s : State} {p : Port} {q : PortState} (h : q.selected = (s.port p).selected) :
    (s.setPort p q).deviceReset = s.deviceReset := by
  have hports : (s.setPort p q).ports.map PortState.deviceReset = s.ports.map PortState.deviceReset := by
    change (s.setPort p q).deviceReset.ports = s.deviceReset.ports
    refine ports_ext fun r => ?_
    rw [deviceReset_port, deviceReset_port, port_setPort]
    split
    · next hr => rw [PortState.deviceReset, PortState.deviceReset, h, hr]
    · rfl
  simp only [State.deviceReset, setPort_ctrl, setPort_arb, setPort_lines, setPort_haltDraws, setPort_pending, hports]

/-- A frame that can be taken leaves the select period of its port as it is. -/
theorem takeOut_selected {s : State} {p : Port} {frame : List Byte} (h : s.frameAtFront p frame = true) :
    ((s.takeOut p frame).port p).selected = (s.port p).selected := by
  have hfront : (s.port p).inbound = [] → (s.port p).selected = none := by
    intro hempty
    simp only [State.frameAtFront, hempty, Bool.and_eq_true, Bool.or_eq_true, Option.isNone_iff_eq_none] at h
    obtain ⟨-, hhead | ⟨⟨-, hnone⟩, -⟩⟩ := h
    · simp at hhead
    · exact hnone
  simp only [State.takeOut, port_setPort, ↓reduceIte]
  split
  · next hempty => rw [PortState.written, arrive_selected, hfront (List.isEmpty_iff.mp hempty)]
  · rfl

theorem frameAtFront_of_canTake {s : State} {p : Port} {frame : List Byte} (h : s.canTake p frame = true) :
    s.frameAtFront p frame = true := (Bool.and_eq_true_iff.mp h).1

theorem deviceReset_takeOut {s : State} {p : Port} {frame : List Byte} (h : s.canTake p frame = true) :
    (s.takeOut p frame).deviceReset = s.deviceReset := by
  have hset : ∃ q, s.takeOut p frame = s.setPort p q := ⟨_, rfl⟩
  obtain ⟨q, hq⟩ := hset
  have hselected := takeOut_selected (frameAtFront_of_canTake h)
  rw [hq] at hselected ⊢
  exact deviceReset_eq_of_ports (by simpa using hselected)

/-- Settles O3: RESTART's own port keeps its select period when the frame is taken, so the reset is that of RESET_N. -/
theorem deviceResetReturnsEveryBlock : Obligations.DeviceResetReturnsEveryBlock := by
  refine ⟨fun s => ⟨s.deviceReset, rfl, rfl, rfl, rfl, rfl, rfl, rfl, rfl, rfl, fun hidle => ?_, fun p => ?_, fun p => ?_⟩,
    fun s htake => ?_, fun s => rfl⟩
  · refine ports_ext fun p => ?_
    rw [deviceReset_port, reset_port, PortState.deviceReset, hidle]
    rfl
  · rw [deviceReset_port, reset_port, PortState.deviceReset]
    congr 1
    congr 1
    funext period
    obtain ⟨summary, shifted, kind⟩ := period
    cases kind <;> rfl
  · rw [State.ready, State.attn, deviceReset_port]
    exact ⟨Bool.and_false _, rfl⟩
  · have hverdict : portVerdict .fleet (requestFrame .restart []) = none := by
      rw [portVerdict, frameCheck_requestFrame rfl]
      rfl
    have hexec : exec (.restart .fleet) s = .next (s.takeFrame .fleet (requestFrame .restart []) State.deviceReset) := rfl
    rw [hexec, State.takeFrame, if_pos htake, hverdict]
    exact congrArg _ (deviceReset_takeOut htake)

/-! ## The step -/

/-- Settles O1, by the two cases of the queue. -/
theorem stepRunsTheFrontCommand : Obligations.StepRunsTheFrontCommand := by
  refine ⟨fun c s => rfl, fun s hempty => ?_⟩
  rw [step, hempty]

end Sys2Proof.Machine

/-!
SUPPORT. Frames and the taking of requests: notices (O8), the checks of R188 (O5), when a frame is taken (O6), the one
reply (O7), PORT_RESET (O9), and the frames of the requests (O60).
-/
namespace Sys2Proof.Machine
open Sys2Proof

/-! ## Notices -/

/-- Settles O8, by the three branches of a post. -/
theorem aNoticeIsPlacedOrOverflows : Obligations.ANoticeIsPlacedOrOverflows := by
  intro p n s
  have hport : (s.post p n).port p = (s.port p).post n := by simp
  refine ⟨⟨rfl, rfl, rfl, rfl, rfl, rfl, rfl, rfl⟩, fun q hq => by simp [hq], fun hmark => ?_, fun hmark hroom => ?_,
    fun hmark hfull => ?_⟩
  · rw [hport, PortState.post, if_pos hmark]
  · have hroom' : (s.port p).notices.length < Config.noticePlaces := hroom
    rw [hport, PortState.post, if_neg (by simp [hmark]), if_pos hroom']
  · have hfull' : ¬ (s.port p).notices.length < Config.noticePlaces := by simp [hfull, Config.noticePlaces]
    rw [hport, PortState.post, if_neg (by simp [hmark]), if_neg hfull']

/-! ## The frames of the requests -/

theorem halfOf_twoBytes (h : Half) : ∃ a b, twoBytes h.toNat = [a, b] ∧ halfOf a b = h := by
  refine ⟨_, _, rfl, ?_⟩
  have hlt := h.isLt
  apply BitVec.eq_of_toNat_eq
  simp only [halfOf, byteOf, BitVec.toNat_ofNat]
  omega

theorem tripleOf_threeBytes (t : Triple) : ∃ a b c, threeBytes t.toNat = [a, b, c] ∧ tripleOf a b c = t := by
  refine ⟨_, _, _, rfl, ?_⟩
  have hlt := t.isLt
  apply BitVec.eq_of_toNat_eq
  simp only [tripleOf, byteOf, BitVec.toNat_ofNat]
  omega

/-- The payload of a well-formed request has a length that its kind allows (R199). -/
theorem allowsLength_of_request {i : Instr} {p : Port} {k : RequestKind} {payload : List Byte}
    (h : requestOf i = some (p, k, payload)) (hw : i.wellFormed = true) : k.allowsLength payload.length = true := by
  cases i <;> simp only [requestOf, Option.some.injEq, Prod.mk.injEq, reduceCtorEq] at h <;>
    obtain ⟨-, rfl, rfl⟩ := h <;> try rfl
  case writeList first number entries =>
    simp only [Instr.wellFormed, Bool.and_eq_true, decide_eq_true_eq] at hw
    simp only [RequestKind.allowsLength, RequestKind.row, List.length_cons, Bool.and_eq_true, decide_eq_true_eq]
    omega

/-- The kind and payload of a request spell the request (R199). -/
theorem commandOfRequest_of_request {i : Instr} {p : Port} {k : RequestKind} {payload : List Byte}
    (h : requestOf i = some (p, k, payload)) (frame : List Byte) : commandOfRequest p frame k payload = i := by
  cases i with
  | setTimers port drainTime liveTime linger =>
    simp only [requestOf, Option.some.injEq, Prod.mk.injEq] at h
    obtain ⟨rfl, rfl, rfl⟩ := h
    obtain ⟨a, b, hdrain, hd⟩ := halfOf_twoBytes drainTime
    obtain ⟨c, d, hlive, hl⟩ := halfOf_twoBytes liveTime
    obtain ⟨e, f, hlinger, hn⟩ := halfOf_twoBytes linger
    rw [hdrain, hlive, hlinger, ← hd, ← hl, ← hn]
    rfl
  | setTime port second =>
    simp only [requestOf, Option.some.injEq, Prod.mk.injEq] at h
    obtain ⟨rfl, rfl, rfl⟩ := h
    obtain ⟨a, b, c, hsecond, ht⟩ := tripleOf_threeBytes second
    rw [hsecond, ← ht]
    rfl
  | writeWindow port window enabled openSecond closeSecond dayMask quiet =>
    simp only [requestOf, Option.some.injEq, Prod.mk.injEq] at h
    obtain ⟨rfl, rfl, rfl⟩ := h
    obtain ⟨a, b, c, hopen, ho⟩ := tripleOf_threeBytes openSecond
    obtain ⟨d, e, f, hclose, hc⟩ := tripleOf_threeBytes closeSecond
    rw [hopen, hclose, ← ho, ← hc]
    rfl
  | _ =>
    simp only [requestOf, Option.some.injEq, Prod.mk.injEq, reduceCtorEq] at h
    all_goals
      obtain ⟨rfl, rfl, rfl⟩ := h
      rfl

/-- Settles O60: the frame passes the checks with its kind and payload, which spell the request. -/
theorem requestFramesNameTheirCommand : Obligations.RequestFramesNameTheirCommand := by
  intro i p k payload hrequest hwellFormed
  rw [commandOfFrame, frameCheck_requestFrame (allowsLength_of_request hrequest hwellFormed)]
  exact commandOfRequest_of_request hrequest _

/-! ## The checks of a frame -/

theorem headD_of_head? {frame : List Byte} {code : Byte} (h : frame.head? = some code) (d : Byte) :
    frame.headD d = code := by
  cases frame with
  | nil => simp at h
  | cons first rest => simpa using h

theorem frameCheck_of_checked {frame : List Byte} (hlength : 3 ≤ frame.length ∧ (frame.getD 1 0x00#8).toNat ≤ 24
    ∧ frame.length = (frame.getD 1 0x00#8).toNat + 3) (hchecked : crc8 frame.dropLast = frame.getLastD 0x00#8) :
    frameCheck frame = match requestKindOf (frame.headD 0x00#8) with
      | none => .unknown
      | some k => if k.allowsLength (frame.getD 1 0x00#8).toNat then
          .passed k ((frame.drop 2).take (frame.getD 1 0x00#8).toNat) else .unknown := by
  have hwhole : ¬ (frame.length < 3 ∨ 24 < (frame.getD 1 0x00#8).toNat
      ∨ frame.length ≠ (frame.getD 1 0x00#8).toNat + 3) := by omega
  rw [frameCheck, if_neg hwhole, if_neg (Decidable.not_not.mpr hchecked)] <;> rfl

theorem frameCheck_passed {frame : List Byte} {k : RequestKind} {payload : List Byte}
    (h : frameCheck frame = .passed k payload) : k.allowsLength payload.length = true := by
  unfold frameCheck at h
  dsimp only at h
  split at h
  · cases h
  · next hwhole =>
    split at h
    · cases h
    · split at h
      · cases h
      · split at h
        · next hallows =>
          cases h
          have hpayload : ((frame.drop 2).take (frame.getD 1 0x00#8).toNat).length = (frame.getD 1 0x00#8).toNat := by
            rw [List.length_take, List.length_drop]
            omega
          rwa [hpayload]
        · cases h

/-! ## Taken frames -/

theorem takeFrame_waits {s : State} {p : Port} {frame : List Byte} (h : s.canTake p frame = false)
    (onPermitted : State → State) : s.takeFrame p frame onPermitted = s := by
  rw [State.takeFrame, if_neg (by simp [h])]

theorem takeFrame_answered {s : State} {p : Port} {frame : List Byte} {status : Status} (h : s.canTake p frame = true)
    (hverdict : portVerdict p frame = some status) (onPermitted : State → State) :
    s.takeFrame p frame onPermitted =
      (s.takeOut p frame).placeReply p { kind := frame.headD 0#8, status := status, payload := [] } := by
  rw [State.takeFrame, if_pos h, hverdict]

theorem exec_unknownRequestFrame {p : Port} {frame : List Byte} {s : State}
    (h : ∀ k payload, frameCheck frame ≠ .passed k payload) :
    exec (.unknownRequestFrame p frame) s = .next (s.takeFrame p frame id) := by
  have hexec : exec (.unknownRequestFrame p frame) s = execUnknownRequestFrame p frame s := rfl
  rw [hexec, execUnknownRequestFrame]
  split
  · next k payload hpassed => exact absurd hpassed (h k payload)
  · rfl
  · rfl

/-- A command that takes a frame is a taking of it, whatever its block makes of it (R188). -/
theorem exec_takesFrame {i : Instr} {p : Port} {k : RequestKind} {payload : List Byte}
    (h : requestOf i = some (p, k, payload)) (hp : k ≠ .portReset) :
    ∃ onPermitted, ∀ s, exec i s = .next (s.takeFrame p (requestFrame k payload) onPermitted) := by
  by_cases hr : k = .restart
  · subst hr
    cases i <;> simp only [requestOf, Option.some.injEq, Prod.mk.injEq, reduceCtorEq, false_and, and_false] at h
    obtain ⟨rfl, -, rfl⟩ := h
    exact ⟨State.deviceReset, fun s => rfl⟩
  · obtain ⟨block, hexec, -⟩ := exec_request h hp hr
    exact ⟨_, fun s => hexec s⟩

/-- Settles O5. -/
theorem aPortChecksAndTurnsAway : Obligations.APortChecksAndTurnsAway := by
  refine ⟨fun frame => ⟨fun hwhole => ?_, fun hwhole hchecked => ?_, fun hwhole hchecked hnone => ?_,
    fun k hwhole hchecked hhead hallows => ?_⟩, fun p frame s htake => ⟨fun hcheck => ?_, fun hcheck => ?_⟩,
    fun i p k payload s hrequest hwellFormed hforbidden htake => ?_⟩
  · rw [frameCheck, if_pos (by omega)]
  · rw [frameCheck, if_neg (by omega), if_pos hchecked]
  · rw [frameCheck_of_checked hwhole hchecked]
    split
    · rfl
    · next k hkind =>
      have hcode : k.code = frame.headD 0x00#8 := by simpa using List.find?_some hkind
      have hhead : frame.head? = some k.code := by
        cases frame with
        | nil => simp at hwhole
        | cons first rest => simpa using hcode.symm
      rw [hnone k hhead]
      rfl
  · rw [frameCheck_of_checked hwhole hchecked, headD_of_head? hhead, requestKindOf_code]
    exact if_pos hallows
  · rw [exec_unknownRequestFrame (by simp [hcheck]), takeFrame_answered htake (by rw [portVerdict, hcheck])]
  · rw [exec_unknownRequestFrame (by simp [hcheck]), takeFrame_answered htake (by rw [portVerdict, hcheck])]
  · have hpassed := frameCheck_requestFrame (allowsLength_of_request hrequest hwellFormed)
    have hp : k ≠ .portReset := by
      rintro rfl
      cases p <;> simp [RequestKind.permitted, RequestKind.row, Port.role] at hforbidden
    obtain ⟨onPermitted, hexec⟩ := exec_takesFrame hrequest hp
    have hverdict : portVerdict p (requestFrame k payload) = some .permission := by
      rw [portVerdict, hpassed]
      simp [hforbidden]
    rw [hexec, takeFrame_answered htake hverdict, requestFrame_head]
    rfl

/-- Settles O7: the block's work posts notices alone, and the reply goes behind those already there. -/
theorem eachTakenRequestPlacesOneReply : Obligations.EachTakenRequestPlacesOneReply := by
  intro i p k payload s hrequest hwellFormed hrestart hreset htake
  obtain ⟨block, hexec, hproper⟩ := exec_request hrequest hreset hrestart
  have hallows := allowsLength_of_request hrequest hwellFormed
  have hinbound : ((s.takeOut p (requestFrame k payload)).port p).inbound = (s.port p).inbound.tail := by
    simp only [State.takeOut, port_setPort, ↓reduceIte]
    split
    · next hempty =>
      have hnil := List.isEmpty_iff.mp hempty
      have hroom : (s.port p).inbound.length < 4 := by simp [hnil]
      rw [(written_of_room hroom).1, hnil]
      rfl
    · rfl
  have hother {q : Port} (hq : q ≠ p) : (s.takeOut p (requestFrame k payload)).port q = s.port q := by
    simp [State.takeOut, hq]
  have hreplies := takeOut_replies s p (requestFrame k payload)
  cases hpermitted : k.permitted p.role with
  | true =>
    obtain ⟨⟨hposted, -⟩, hempty, hstale⟩ := hproper (s.takeOut p (requestFrame k payload))
    obtain ⟨hi, hr, -⟩ := (hposted p).keeps
    refine ⟨_, ⟨k.code, (block (s.takeOut p (requestFrame k payload))).status,
      (block (s.takeOut p (requestFrame k payload))).payload⟩,
      (hexec s).trans (takeRequest_permitted block hallows hpermitted htake), ?_, rfl, hempty, hstale, ?_, fun q hq => ?_⟩
    · simp [hr, hreplies]
    · simpa [hi] using hinbound
    · obtain ⟨hiq, hrq, -⟩ := (hposted q).keeps
      rw [port_placeReply, if_neg hq, hiq, hrq, hother hq]
      exact ⟨rfl, rfl⟩
  | false =>
    refine ⟨_, { kind := k.code, status := .permission, payload := [] },
      (hexec s).trans (takeRequest_forbidden block hallows hpermitted htake), ?_, rfl, fun _ _ => rfl, by simp, ?_,
      fun q hq => ?_⟩
    · simp [hreplies]
    · simpa using hinbound
    · rw [port_placeReply, if_neg hq, hother hq]
      exact ⟨rfl, rfl⟩

/-- Every kind with a payload of a length it allows spells a request (R199): of a kind and a list of bytes, either the length
is not the kind's or the pair is a row of the table. -/
theorem requestOf_commandOfRequest {k : RequestKind} {payload : List Byte} (h : k.allowsLength payload.length = true)
    (p : Port) (frame : List Byte) : (requestOf (commandOfRequest p frame k payload)).isSome = true := by
  rcases payload with _ | ⟨a, _ | ⟨b, _ | ⟨c, _ | ⟨d, _ | ⟨e, _ | ⟨f, _ | ⟨g, _ | ⟨h, _ | ⟨i, _ | ⟨j, _ | ⟨l, rest⟩⟩⟩⟩⟩⟩⟩⟩⟩⟩⟩ <;>
    cases k <;> first | rfl | exact absurd h (by simp [RequestKind.allowsLength, RequestKind.row])

theorem takenFrame_eq {i : Instr} {p : Port} {frame : List Byte} (h : takenFrame i = some (p, frame)) :
    i = .unknownRequestFrame p frame
      ∨ ∃ k payload, requestOf i = some (p, k, payload) ∧ frame = requestFrame k payload := by
  unfold takenFrame at h
  split at h
  · cases h
    exact .inl rfl
  · split at h
    · next k payload hrequest =>
      cases h
      exact .inr ⟨k, payload, hrequest, rfl⟩
    · cases h

theorem eq_portReset_of_request {i : Instr} {p : Port} {payload : List Byte}
    (h : requestOf i = some (p, .portReset, payload)) : i = .portReset p ∧ payload = [] := by
  cases i <;> simp only [requestOf, Option.some.injEq, Prod.mk.injEq, reduceCtorEq, false_and, and_false] at h
  obtain ⟨rfl, -, rfl⟩ := h
  exact ⟨rfl, rfl⟩

/-- A well-formed UNKNOWN_REQUEST_FRAME fails one of the checks 1 to 3 (R188). -/
theorem not_passed_of_wellFormed {p : Port} {frame : List Byte}
    (h : (Instr.unknownRequestFrame p frame).wellFormed = true) (k : RequestKind) (payload : List Byte) :
    frameCheck frame ≠ .passed k payload := by
  intro hpassed
  have hcommand : commandOfRequest p frame k payload = .unknownRequestFrame p frame := by
    simp only [Instr.wellFormed, Bool.and_eq_true, beq_iff_eq, commandOfFrame, hpassed] at h
    exact h.2
  have hrequest := requestOf_commandOfRequest (frameCheck_passed hpassed) p frame
  rw [hcommand] at hrequest
  cases hrequest

theorem canTake_eq_false {s : State} {p : Port} (h : 4 ≤ (s.port p).replies.length ∨ s.resetting = true)
    (frame : List Byte) : s.canTake p frame = false := by
  rw [State.canTake, State.frameAtFront]
  rcases h with h | h
  · simp [Config.replyPlaces, Nat.not_lt.mpr h]
  · simp [h]

/-! ## A frame not yet queued -/

section Arrival
variable {s : State} {p : Port} {frame : List Byte}

theorem frameAtFront_empty (hrunning : s.resetting = false) (hempty : (s.port p).inbound = [])
    (hidle : (s.port p).selected = none) (hframe : writeBytesOk frame = true) : s.frameAtFront p frame = true := by
  simp [State.frameAtFront, hrunning, hempty, hidle, hframe]

theorem written_inbound (hempty : (s.port p).inbound = []) : ((s.port p).written frame).inbound = [frame] := by
  have hroom : (s.port p).inbound.length < 4 := by simp [hempty]
  rw [(written_of_room hroom).1, hempty, List.nil_append]

theorem frameAtFront_written (hrunning : s.resetting = false) (hempty : (s.port p).inbound = []) :
    (s.setPort p ((s.port p).written frame)).frameAtFront p frame = true := by
  simp [State.frameAtFront, hrunning, written_inbound hempty]

/-- Once the frame has arrived by its own select period, its taking finds what it would have made itself. -/
theorem takeOut_written (hempty : (s.port p).inbound = []) :
    (s.setPort p ((s.port p).written frame)).takeOut p frame = s.takeOut p frame := by
  rw [State.takeOut, State.takeOut, port_setPort, if_pos rfl, written_inbound hempty, hempty]
  simp [State.setPort]

theorem written_replies : ((s.port p).written frame).replies = (s.port p).replies := arrive_replies

theorem takeFrame_written (hrunning : s.resetting = false) (hempty : (s.port p).inbound = [])
    (hidle : (s.port p).selected = none) (hframe : writeBytesOk frame = true) (onPermitted : State → State)
    (hroom : (s.port p).replies.length < 4) :
    (s.setPort p ((s.port p).written frame)).takeFrame p frame onPermitted = s.takeFrame p frame onPermitted := by
  have htake : s.canTake p frame = true := by
    simp [State.canTake, frameAtFront_empty hrunning hempty hidle hframe, hroom, Config.replyPlaces]
  have htake' : (s.setPort p ((s.port p).written frame)).canTake p frame = true := by
    rw [State.canTake, frameAtFront_written hrunning hempty, port_setPort, if_pos rfl, written_replies]
    exact decide_eq_true hroom
  rw [State.takeFrame, State.takeFrame, if_pos htake, if_pos htake', takeOut_written hempty]

end Arrival

theorem exec_portReset (p : Port) (s : State) :
    exec (.portReset p) s = .next (if s.frameAtFront p (requestFrame .portReset []) then
      (s.takeOut p (requestFrame .portReset [])).setPort p
        ((s.takeOut p (requestFrame .portReset [])).port p).reset else s) := rfl

/-- Settles O6: a taking looks for its frame at the front and for a free reply place, and makes the same of a frame that
has arrived and of one that arrives with it. -/
theorem aTakingNeedsItsFrameAndAReplyPlace : Obligations.ATakingNeedsItsFrameAndAReplyPlace := by
  refine ⟨fun i p frame s htaken hi hwaits => ?_, fun p s hresetting => ?_,
    fun i p frame s u htaken hwellFormed hrunning hempty hidle hroom hwritten => ?_⟩
  · have hwait := canTake_eq_false hwaits frame
    obtain rfl | ⟨k, payload, hrequest, rfl⟩ := takenFrame_eq htaken
    · have hexec : exec (.unknownRequestFrame p frame) s = execUnknownRequestFrame p frame s := rfl
      rw [hexec, execUnknownRequestFrame]
      split
      · rfl
      · rw [takeFrame_waits hwait]
      · rw [takeFrame_waits hwait]
    · have hp : k ≠ .portReset := fun heq => hi (eq_portReset_of_request (heq ▸ hrequest)).1
      obtain ⟨onPermitted, hexec⟩ := exec_takesFrame hrequest hp
      rw [hexec, takeFrame_waits hwait]
  · rw [exec_portReset, if_neg (by simp [State.frameAtFront, hresetting])]
  · obtain ⟨hframe, htakes⟩ : writeBytesOk frame = true
        ∧ exec i (s.setPort p ((s.port p).written frame)) = exec i s := by
      obtain rfl | ⟨k, payload, hrequest, rfl⟩ := takenFrame_eq htaken
      · have hframe : writeBytesOk frame = true := by
          simp only [Instr.wellFormed, Bool.and_eq_true] at hwellFormed
          exact hwellFormed.1
        have hfails := not_passed_of_wellFormed hwellFormed
        exact ⟨hframe, by rw [exec_unknownRequestFrame hfails, exec_unknownRequestFrame hfails,
          takeFrame_written hrunning hempty hidle hframe _ hroom]⟩
      · have hframe := writeBytesOk_requestFrame k payload
        refine ⟨hframe, ?_⟩
        by_cases hp : k = .portReset
        · subst hp
          obtain ⟨rfl, rfl⟩ := eq_portReset_of_request hrequest
          rw [exec_portReset, exec_portReset, frameAtFront_written hrunning hempty,
            frameAtFront_empty hrunning hempty hidle hframe, takeOut_written hempty, if_pos rfl, if_pos rfl]
        · obtain ⟨onPermitted, hexec⟩ := exec_takesFrame hrequest hp
          rw [hexec, hexec, takeFrame_written hrunning hempty hidle hframe _ hroom]
    have hu : u = s.setPort p ((s.port p).written frame) := by
      cases frame with
      | nil => cases hframe
      | cons first rest =>
        have hfirst : first ≠ 0x00#8 := by simpa [writeBytesOk] using hframe
        rw [exec_writeTransaction_whole hfirst hrunning hidle] at hwritten
        cases hwritten
        rfl
    rw [hu, htakes]

/-! ## PORT_RESET -/

theorem takeOut_port_fields {s : State} {p : Port} {frame : List Byte} :
    ((s.takeOut p frame).port p).inbound.length = (s.port p).inbound.length - 1
      ∧ ((s.takeOut p frame).port p).notices = (s.port p).notices
      ∧ ((s.takeOut p frame).port p).overrun = (s.port p).overrun := by
  simp only [State.takeOut, port_setPort, ↓reduceIte]
  split
  · next hempty =>
    have hnil := List.isEmpty_iff.mp hempty
    have hroom : (s.port p).inbound.length < 4 := by simp [hnil]
    refine ⟨?_, arrive_notices, (written_of_room hroom).2⟩
    rw [(written_of_room hroom).1, hnil]
    rfl
  · exact ⟨List.length_tail, rfl, rfl⟩

/-- Settles O9: the frame has left the inbound queue when the port counts what it discards. -/
theorem portResetEmptiesItsPort : Obligations.PortResetEmptiesItsPort := by
  intro p s hfront
  have hrunning : s.resetting = false := by
    simp only [State.frameAtFront, Bool.and_eq_true, Bool.not_eq_true'] at hfront
    exact hfront.1
  obtain ⟨hinbound, hnotices, hoverrun⟩ := takeOut_port_fields (s := s) (p := p) (frame := requestFrame .portReset [])
  have hreplies := takeOut_replies s p (requestFrame .portReset [])
  refine ⟨_, (exec_portReset p s).trans (congrArg _ (if_pos hfront)), ⟨rfl, rfl, rfl, rfl, rfl, rfl, rfl, rfl⟩,
    fun q hq => by simp [State.takeOut, hq], rfl, rfl, ?_⟩
  rw [State.ready, State.attn, port_setPort, if_pos rfl]
  refine ⟨rfl, rfl, rfl, rfl, ?_, ?_, rfl⟩
  · rw [PortState.reset, hinbound, hnotices, hoverrun, hreplies]
    rfl
  · simp [PortState.reset, hrunning, Config.inboundPlaces]

end Sys2Proof.Machine

/-!
SUPPORT. A select period by its moments: bytes clocked in parts are bytes clocked at once, and what its release leaves
(R184, R186, R187); and what a read returns: O10.
-/
namespace Sys2Proof.Machine
open Sys2Proof

/-! ## Bytes clocked in parts -/

/-- The first bytes of a list that goes on with 0x00 for ever. -/
def padded (bytes : List Byte) (n : Nat) : List Byte := (bytes ++ zeroBytes n).take n

theorem padded_nil (n : Nat) : padded [] n = zeroBytes n := by simp [padded, zeroBytes]

theorem padded_zero (bytes : List Byte) : padded bytes 0 = [] := by simp [padded]

theorem padded_cons (b : Byte) (bytes : List Byte) (n : Nat) : padded (b :: bytes) (n + 1) = b :: padded bytes n := by
  simp only [padded, List.cons_append, List.take_succ_cons, List.cons.injEq, true_and]
  rw [List.take_append, List.take_append]
  simp [zeroBytes, List.take_replicate]
  omega

theorem padded_append (bytes : List Byte) (m n : Nat) : padded bytes m ++ padded (bytes.drop m) n = padded bytes (m + n) := by
  induction m generalizing bytes with
  | zero => simp [padded_zero]
  | succ m ih =>
    cases bytes with
    | nil => simp [padded_nil, zeroBytes]
    | cons b bytes =>
      rw [List.drop_succ_cons, Nat.add_right_comm, padded_cons, padded_cons, List.cons_append, ih]

theorem nextBytes_running (period : SelectPeriod) (kind : PeriodKind) (n : Nat) :
    period.nextBytes false kind n = padded ((kind.bytesOut period.summary).drop period.shifted.length) n := rfl

/-- Bytes that do not decide the period leave what it shifts out, outside device reset. -/
theorem bytesOut_kindAfter (q : PortState) {kind : PeriodKind} (hkind : kind ≠ .undecided) (bytes : List Byte)
    (summary : Byte) : (q.kindAfter false kind bytes).bytesOut summary = kind.bytesOut summary := by
  cases bytes with
  | nil => rfl
  | cons b bytes => cases kind <;> first | rfl | exact absurd rfl hkind

theorem kindAfter_ne_undecided (q : PortState) (r : Bool) (kind : PeriodKind) {bytes : List Byte} (h : bytes ≠ []) :
    q.kindAfter r kind bytes ≠ .undecided := by
  cases bytes with
  | nil => exact absurd rfl h
  | cons b bytes => cases kind <;> simp only [PortState.kindAfter] <;> (repeat' split) <;> simp

theorem kindAfter_congr {q q' : PortState} (h : q'.choose = q.choose) (r : Bool) (kind : PeriodKind) (bytes : List Byte) :
    q'.kindAfter r kind bytes = q.kindAfter r kind bytes := by
  unfold PortState.kindAfter
  rw [h]

/-- Bytes clocked in two parts are the bytes clocked at once. -/
theorem clock_clock {q q' : PortState} (h : q'.choose = q.choose) (r : Bool) (period : SelectPeriod) (xs ys : List Byte) :
    q'.clock r (q.clock r period xs) ys = q.clock r period (xs ++ ys) := by
  cases xs with
  | nil =>
    rw [clock_nil, List.nil_append, PortState.clock, PortState.clock, kindAfter_congr h]
  | cons x xs =>
    have hkind : q'.kindAfter r (q.clock r period (x :: xs)).kind ys = q.kindAfter r period.kind (x :: xs ++ ys) := by
      rw [clock_kind, kindAfter_congr h, kindAfter_append]
    have hshifted : (q'.clock r (q.clock r period (x :: xs)) ys).shifted = (q.clock r period (x :: xs ++ ys)).shifted := by
      rw [clock_shifted, clock_shifted, hkind, clock_shifted, List.append_assoc, List.length_append]
      congr 1
      cases r with
      | true => simp [zeroBytes]
      | false =>
        have hdecided := kindAfter_ne_undecided q false period.kind (List.cons_ne_nil x xs)
        have hbytes : (q.kindAfter false period.kind (x :: xs ++ ys)).bytesOut period.summary
            = (q.kindAfter false period.kind (x :: xs)).bytesOut period.summary := by
          rw [← kindAfter_append, bytesOut_kindAfter q hdecided]
        rw [nextBytes_running, nextBytes_running, nextBytes_running, clock_length, clock_summary, hbytes, ← List.drop_drop]
        exact padded_append _ _ _
    have hsummary : (q'.clock r (q.clock r period (x :: xs)) ys).summary = (q.clock r period (x :: xs ++ ys)).summary := rfl
    have hkinds : (q'.clock r (q.clock r period (x :: xs)) ys).kind = (q.clock r period (x :: xs ++ ys)).kind := hkind
    generalize q'.clock r (q.clock r period (x :: xs)) ys = a at *
    generalize q.clock r period (x :: xs ++ ys) = b at *
    obtain ⟨_, _, _⟩ := a
    obtain ⟨_, _, _⟩ := b
    simp_all

/-! ## The end of a period -/

@[simp] theorem setPort_setPort (s : State) (p : Port) (q q' : PortState) : (s.setPort p q).setPort p q' = s.setPort p q' := by
  simp [State.setPort]

/-- The release of a period after its last bytes. -/
def State.endedWith (s : State) (p : Port) (period : SelectPeriod) (bytes : List Byte) : State :=
  s.setPort p ((s.port p).endPeriod ((s.port p).clock s.resetting period bytes))

theorem endPeriod_selected (q : PortState) (selected : Option SelectPeriod) (period : SelectPeriod) :
    ({ q with selected := selected } : PortState).endPeriod period = q.endPeriod period := rfl

section Periods
variable {s : State} {p : Port}

theorem releaseSelect_eq {period : SelectPeriod} (h : (s.port p).selected = some period) (bytes : List Byte) :
    s.releaseSelect p bytes = s.endedWith p period bytes := by
  simp only [State.releaseSelect, h]
  rfl

theorem wholePeriod_eq (h : (s.port p).periodBegun = false) (bytes : List Byte) :
    s.wholePeriod p bytes = s.endedWith p ((s.port p).selected.getD (s.port p).newPeriod) bytes := by
  simp only [State.wholePeriod, h]
  rfl

theorem clockBytes_eq {bytes : List Byte} (h : bytes ≠ []) :
    s.clockBytes p bytes = s.setPeriod p
      ((s.port p).clock s.resetting ((s.port p).selected.getD (s.port p).newPeriod) bytes) := by
  simp only [State.clockBytes, if_neg h]

theorem setPeriod_selected (period : SelectPeriod) : ((s.setPeriod p period).port p).selected = some period := by
  simp [State.setPeriod]

/-- The release of the rest of a period after a part of it is the release of all of it. -/
theorem setPeriod_endedWith (period : SelectPeriod) (xs ys : List Byte) :
    (s.setPeriod p ((s.port p).clock s.resetting period xs)).endedWith p ((s.port p).clock s.resetting period xs) ys
      = s.endedWith p period (xs ++ ys) := by
  have hclock := clock_clock (q := s.port p)
    (q' := { s.port p with selected := some ((s.port p).clock s.resetting period xs) }) rfl s.resetting period xs ys
  simp only [State.endedWith, State.setPeriod, port_setPort, ↓reduceIte, setPort_resetting, hclock, setPort_setPort,
    endPeriod_selected]

theorem clockBytes_releaseSelect {xs : List Byte} (h : xs ≠ []) (ys : List Byte) :
    (s.clockBytes p xs).releaseSelect p ys
      = s.endedWith p ((s.port p).selected.getD (s.port p).newPeriod) (xs ++ ys) := by
  rw [clockBytes_eq h, releaseSelect_eq (setPeriod_selected _), setPeriod_endedWith]

/-- After an assertion of its own the bytes of the part may be none. -/
theorem clockBytes_releaseSelect_asserted {period : SelectPeriod} (h : (s.port p).selected = some period)
    (xs ys : List Byte) : (s.clockBytes p xs).releaseSelect p ys = s.endedWith p period (xs ++ ys) := by
  cases xs with
  | nil => rw [State.clockBytes, if_pos rfl, releaseSelect_eq h, List.nil_append]
  | cons x xs => rw [clockBytes_releaseSelect (List.cons_ne_nil x xs), h, Option.getD_some]

theorem readRest_clocked (xs : List Byte) (n : Nat) {period : SelectPeriod}
    (h : (s.port p).selected.getD (s.port p).newPeriod = period) (hperiod : period.shifted = []) (hxs : xs ≠ []) :
    ((s.clockBytes p xs).port p).readRest n = zeroBytes (n - xs.length) := by
  rw [clockBytes_eq hxs, PortState.readRest, setPeriod_selected, h]
  simp [hperiod]

theorem zeroBytes_add (m n : Nat) : zeroBytes m ++ zeroBytes n = zeroBytes (m + n) := by simp [zeroBytes]

theorem zeroBytes_ne_nil {n : Nat} (h : 1 ≤ n) : zeroBytes n ≠ [] := by
  rw [Ne, zeroBytes_eq_nil]
  omega

end Periods

/-! ## What the release of a period leaves -/

/-- A period after its assertion: no byte is clocked yet. -/
def SelectPeriod.assertedWith (summary : Byte) : SelectPeriod :=
  { summary := summary, shifted := [], kind := .undecided }

theorem newPeriod_eq (q : PortState) : q.newPeriod = .assertedWith q.summary := rfl

/-- The first byte clocked in a period outside device reset decides it: the bytes that it shifts out begin with its
summary byte, whatever that is. -/
theorem clock_assertedWith (q : PortState) {bytes : List Byte} (h : bytes ≠ []) (summary : Byte) :
    ∃ kind rest, kind ≠ .undecided ∧ q.clock false (.assertedWith summary) bytes = ⟨summary, summary :: rest, kind⟩
      ∧ ∀ summary', q.clock false (.assertedWith summary') bytes = ⟨summary', summary' :: rest, kind⟩ := by
  obtain ⟨b, bytes, rfl⟩ := List.exists_cons_of_ne_nil h
  by_cases hb : b = 0x00#8
  · refine ⟨.read q.choose, padded q.choose.frame bytes.length, nofun, ?_, fun summary' => ?_⟩ <;>
      · simp [PortState.clock, SelectPeriod.assertedWith, PortState.kindAfter, hb, nextBytes_running,
          PeriodKind.bytesOut, padded_cons]
  · refine ⟨.write (b :: bytes), zeroBytes bytes.length, nofun, ?_, fun summary' => ?_⟩ <;>
      · simp [PortState.clock, SelectPeriod.assertedWith, PortState.kindAfter, hb, nextBytes_running,
          PeriodKind.bytesOut, padded_cons, padded_nil]

/-- The release of a decided period records the bytes it shifted out, and looks at their number only. -/
theorem endPeriod_of_length_eq (q : PortState) {kind : PeriodKind} (hkind : kind ≠ .undecided) (a b : Byte)
    {xs ys : List Byte} (h : xs.length = ys.length) :
    q.endPeriod ⟨a, xs, kind⟩ = { q.endPeriod ⟨b, ys, kind⟩ with dataOut := xs } := by
  cases kind with
  | undecided => exact absurd rfl hkind
  | ignored => rfl
  | write frame =>
    simp only [PortState.endPeriod, PortState.arrive]
    split <;> rfl
  | read choice =>
    simp only [PortState.endPeriod, h]
    split
    · unfold PortState.removeRead
      split <;> rfl
    · rfl

theorem endPeriod_dataOut (q : PortState) {kind : PeriodKind} (hkind : kind ≠ .undecided) (a : Byte) (xs : List Byte) :
    (q.endPeriod ⟨a, xs, kind⟩).dataOut = xs := by
  rw [endPeriod_of_length_eq q hkind a a (rfl : xs.length = xs.length)]

section Releases
variable {s : State} {p : Port}

/-- Another summary byte changes the first byte shifted out, and nothing else. -/
theorem endedWith_assertedWith (hrunning : s.resetting = false) {bytes : List Byte} (h : bytes ≠ [])
    (summary : Byte) :
    s.endedWith p (.assertedWith summary) bytes = (s.endedWith p (s.port p).newPeriod bytes).withSummary p summary := by
  obtain ⟨kind, rest, hkind, hclock, hother⟩ := clock_assertedWith (s.port p) h (s.port p).summary
  rw [State.endedWith, State.endedWith, hrunning, newPeriod_eq, hclock, hother, State.withSummary, port_setPort,
    if_pos rfl, setPort_setPort, endPeriod_dataOut _ hkind]
  rw [endPeriod_of_length_eq (s.port p) hkind summary (s.port p).summary (ys := (s.port p).summary :: rest)]
  · rfl
  · simp

/-- The period that is in progress plays no part in the release of another. -/
theorem setPeriod_endedWith_other (period period' : SelectPeriod) (bytes : List Byte) :
    (s.setPeriod p period).endedWith p period' bytes = s.endedWith p period' bytes := by
  have hchoose : ({ s.port p with selected := some period } : PortState).choose = (s.port p).choose := rfl
  simp only [State.endedWith, State.setPeriod, port_setPort, ↓reduceIte, setPort_resetting, setPort_setPort,
    endPeriod_selected, PortState.clock, kindAfter_congr hchoose]

/-- A read in device reset shifts out 0x00 alone and is no transaction (R184). -/
theorem endedWith_resetting (hresetting : s.resetting = true) {bytes : List Byte} (h : bytes ≠ [])
    (summary : Byte) :
    s.endedWith p (.assertedWith summary) bytes
      = s.setPort p { s.port p with selected := none, dataOut := zeroBytes bytes.length } := by
  obtain ⟨b, bytes, rfl⟩ := List.exists_cons_of_ne_nil h
  rw [State.endedWith, hresetting]
  rfl

/-- A whole read, from the port without a period (R184, R187). -/
theorem clock_read (q : PortState) (summary : Byte) {n : Nat} (h : 1 ≤ n) :
    q.clock false (.assertedWith summary) (zeroBytes n)
      = ⟨summary, padded (summary :: q.choose.frame) n, .read q.choose⟩ := by
  obtain ⟨m, rfl⟩ := Nat.exists_eq_add_of_le' h
  simp [PortState.clock, SelectPeriod.assertedWith, PortState.kindAfter, zeroBytes, List.replicate_succ,
    nextBytes_running, PeriodKind.bytesOut]

theorem padded_length (bytes : List Byte) (n : Nat) : (padded bytes n).length = n := by
  simp [padded]

/-- The release of a read whose frame is no longer in its queue changes no queue and no mark (R187). -/
theorem endPeriod_gone (q : PortState) {choice : ReadChoice} (h : choice.stillQueued = false) (summary : Byte)
    (shifted : List Byte) :
    q.endPeriod ⟨summary, shifted, .read choice⟩ = { q with selected := none, dataOut := shifted } := by
  simp [PortState.endPeriod, h]

theorem readRest_of_selected {period : SelectPeriod} (h : (s.port p).selected = some period) (n : Nat) :
    (s.port p).readRest n = zeroBytes (n - period.shifted.length) := by
  rw [PortState.readRest, h]
  rfl

theorem kindAfter_read (q : PortState) (r : Bool) (choice : ReadChoice) (bytes : List Byte) :
    q.kindAfter r (.read choice) bytes = .read choice := by
  cases bytes <;> rfl

theorem kindAfter_ignored (q : PortState) (r : Bool) (bytes : List Byte) :
    q.kindAfter r .ignored bytes = .ignored := by
  cases bytes <;> rfl

theorem kindAfter_write (q : PortState) (frame bytes : List Byte) :
    q.kindAfter false (.write frame) bytes = .write (frame ++ bytes) := by
  cases bytes with
  | nil => rw [kindAfter_nil, List.append_nil]
  | cons b bytes => rfl

/-- The rest of a read whose summary byte is clocked out, and its release, when the frame is gone. -/
theorem releaseSelect_gone {summary : Byte} {choice : ReadChoice} {n : Nat}
    (h : (s.port p).selected = some ⟨summary, [summary], .read choice⟩) (hgone : choice.stillQueued = false)
    (hn : 1 ≤ n) : s.releaseSelect p ((s.port p).readRest n) = s.setPort p
      { s.port p with
        selected := none
        dataOut := if s.resetting then (summary :: zeroBytes n).take n else padded (summary :: choice.frame) n } := by
  obtain ⟨m, rfl⟩ := Nat.exists_eq_add_of_le' hn
  have hbytes : [summary] ++ SelectPeriod.nextBytes ⟨summary, [summary], .read choice⟩ s.resetting (.read choice) m
      = if s.resetting then (summary :: zeroBytes (m + 1)).take (m + 1)
        else padded (summary :: choice.frame) (m + 1) := by
    cases s.resetting with
    | true => simp [zeroBytes]
    | false => simp [nextBytes_running, PeriodKind.bytesOut, padded_cons]
  rw [readRest_of_selected h, releaseSelect_eq h, State.endedWith, PortState.clock, kindAfter_read,
    endPeriod_gone _ hgone, ← hbytes]
  simp

/-- The rest of a period that is no transaction, after its first byte, and its release. -/
theorem releaseSelect_ignored {summary : Byte} {shifted : List Byte}
    (h : (s.port p).selected = some ⟨summary, shifted, .ignored⟩) (bytes : List Byte) :
    s.releaseSelect p bytes
      = s.setPort p { s.port p with selected := none, dataOut := shifted ++ zeroBytes bytes.length } := by
  rw [releaseSelect_eq h, State.endedWith, PortState.clock, kindAfter_ignored]
  cases s.resetting <;> simp [PortState.endPeriod, nextBytes_running, PeriodKind.bytesOut, padded_nil]

/-- The rest of a write after its first byte, and its release: the frame arrives (R186). -/
theorem releaseSelect_write {summary : Byte} {shifted frame : List Byte} (hrunning : s.resetting = false)
    (h : (s.port p).selected = some ⟨summary, shifted, .write frame⟩) (hbegun : shifted ≠ []) (bytes : List Byte) :
    s.releaseSelect p bytes = s.setPort p
      (PortState.arrive { s.port p with selected := none, dataOut := shifted ++ zeroBytes bytes.length }
        (frame ++ bytes)) := by
  have hshifted : 1 ≤ shifted.length := List.length_pos_iff.mpr hbegun
  have hout : SelectPeriod.nextBytes ⟨summary, shifted, .write frame⟩ false (.write (frame ++ bytes)) bytes.length
      = zeroBytes bytes.length := by
    rw [nextBytes_running, PeriodKind.bytesOut, List.drop_eq_nil_of_le (by simpa using hshifted), padded_nil]
  rw [releaseSelect_eq h, State.endedWith, hrunning, endPeriod_write _ _ (frame ++ bytes) (kindAfter_write _ _ _),
    PortState.clock, kindAfter_write, hout]

end Releases

/-! ## Reads, from their assertion to their release -/

section Reads
variable {s : State} {p : Port}

/-- The state after an assertion of select on its own. -/
def State.assertedOn (s : State) (p : Port) (summary : Byte) : State := s.setPeriod p (.assertedWith summary)

theorem assertedOn_selected (summary : Byte) :
    ((s.assertedOn p summary).port p).selected = some (.assertedWith summary) := setPeriod_selected _

theorem assertedOn_notBegun (summary : Byte) : ((s.assertedOn p summary).port p).periodBegun = false := by
  simp [PortState.periodBegun, assertedOn_selected, SelectPeriod.assertedWith]

theorem periodBegun_of_idle (h : (s.port p).selected = none) : (s.port p).periodBegun = false := by
  simp [PortState.periodBegun, h]

/-- After an assertion of its own a period by its parts, and by its bytes at once, is the period from the assertion. -/
theorem exec_readAsserted_released (summary : Byte) (n : Nat) :
    exec (.readTransaction p (.released n)) (s.assertedOn p summary)
      = .next (s.endedWith p (.assertedWith summary) (zeroBytes n)) := by
  show Host.Outcome.next ((s.assertedOn p summary).releaseSelect p _) = _
  rw [readRest_of_selected (assertedOn_selected summary), releaseSelect_eq (assertedOn_selected summary),
    State.assertedOn, setPeriod_endedWith_other]
  rfl

theorem readRest_assertedOn_clocked (summary : Byte) (m n : Nat) :
    (((s.assertedOn p summary).clockBytes p (zeroBytes m)).port p).readRest n = zeroBytes (n - m) := by
  have hselected := assertedOn_selected (s := s) (p := p) summary
  cases m with
  | zero => exact readRest_of_selected hselected n
  | succ m =>
    rw [readRest_clocked _ _ (by rw [hselected, Option.getD_some]) rfl (zeroBytes_ne_nil (Nat.le_add_left 1 m)), zeroBytes_length]

theorem clocked_released_assertedOn (summary : Byte) {m n : Nat} (h : m ≤ n) :
    exec (.readTransaction p (.released n)) ((s.assertedOn p summary).clockBytes p (zeroBytes m))
      = .next (s.endedWith p (.assertedWith summary) (zeroBytes n)) := by
  show Host.Outcome.next (((s.assertedOn p summary).clockBytes p (zeroBytes m)).releaseSelect p _) = _
  rw [readRest_assertedOn_clocked, clockBytes_releaseSelect_asserted (assertedOn_selected summary), zeroBytes_add,
    Nat.add_sub_cancel' h, State.assertedOn, setPeriod_endedWith_other]

theorem exec_readAsserted_opened (summary : Byte) :
    exec (.readTransaction p .opened) (s.assertedOn p summary)
      = .next ((s.assertedOn p summary).clockBytes p (zeroBytes 1)) := by
  show Host.Outcome.next (if ((s.assertedOn p summary).port p).periodBegun then _ else _) = _
  rw [assertedOn_notBegun]
  rfl

theorem exec_read_whole (h : (s.port p).selected = none) (n : Nat) :
    exec (.readTransaction p (.whole n)) s = .next (s.endedWith p (s.port p).newPeriod (zeroBytes n)) := by
  show Host.Outcome.next (s.wholePeriod p _) = _
  rw [wholePeriod_eq (periodBegun_of_idle h), h]
  rfl

theorem exec_write_whole (h : (s.port p).selected = none) (bytes : List Byte) :
    exec (.writeTransaction p (.whole bytes)) s = .next (s.endedWith p (s.port p).newPeriod bytes) := by
  show Host.Outcome.next (s.wholePeriod p _) = _
  rw [wholePeriod_eq (periodBegun_of_idle h), h]
  rfl

theorem exec_writeAsserted_whole (summary : Byte) (bytes : List Byte) :
    exec (.writeTransaction p (.whole bytes)) (s.assertedOn p summary)
      = .next (s.endedWith p (.assertedWith summary) bytes) := by
  show Host.Outcome.next ((s.assertedOn p summary).wholePeriod p _) = _
  rw [wholePeriod_eq (assertedOn_notBegun summary), assertedOn_selected, State.assertedOn, setPeriod_endedWith_other]
  rfl

/-- The release of a period before its first byte has no effect (R184). -/
theorem exec_readAsserted_unclocked (h : (s.port p).selected = none) (summary : Byte) :
    exec (.readTransaction p (.released 0)) (s.assertedOn p summary) = .next s := by
  rw [exec_readAsserted_released, State.endedWith, zeroBytes, List.replicate_zero, clock_nil]
  congr 1
  have hport : (s.port p).endPeriod (.assertedWith summary) = s.port p := by
    show { s.port p with selected := none } = s.port p
    rw [← h]
  rw [hport, setPort_port_self]

/-- A read by its opening and its release is the whole read. -/
theorem exec_read_opened_released (h : (s.port p).selected = none) {n : Nat} (hn : 1 ≤ n) :
    ∃ u, exec (.readTransaction p .opened) s = .next u
      ∧ exec (.readTransaction p (.released n)) u = .next (s.endedWith p (s.port p).newPeriod (zeroBytes n)) := by
  have hone := zeroBytes_ne_nil (Nat.le_refl 1)
  have hperiod : (s.port p).selected.getD (s.port p).newPeriod = (s.port p).newPeriod := by rw [h, Option.getD_none]
  refine ⟨s.clockBytes p (zeroBytes 1), ?_, ?_⟩
  · show Host.Outcome.next (if (s.port p).periodBegun then _ else _) = _
    rw [periodBegun_of_idle h]
    rfl
  · show Host.Outcome.next ((s.clockBytes p (zeroBytes 1)).releaseSelect p _) = _
    rw [readRest_clocked _ _ hperiod rfl hone, clockBytes_releaseSelect hone, hperiod, zeroBytes_length, zeroBytes_add,
      Nat.add_sub_cancel' hn]

/-- The port after a whole read. -/
theorem endedWith_read (hrunning : s.resetting = false) {n : Nat} (hn : 1 ≤ n) :
    s.endedWith p (s.port p).newPeriod (zeroBytes n) = s.setPort p ((s.port p).endPeriod
      ⟨(s.port p).summary, padded ((s.port p).summary :: (s.port p).choose.frame) n, .read (s.port p).choose⟩) := by
  rw [State.endedWith, hrunning, newPeriod_eq, clock_read _ _ hn]

end Reads

section Chosen
variable {q : PortState}

theorem choose_of_reply {r : Reply} {rs : List Reply} (h : q.replies = r :: rs) :
    q.choose = { frame := r.frame q.overrun, source := .reply, overrunShown := q.overrun, stillQueued := true } := by
  simp [PortState.choose, h]

theorem choose_of_notice {m : Notice} {ms : List Notice} (hr : q.replies = []) (h : q.notices = m :: ms) :
    q.choose = { frame := m.frame, source := .notice, overrunShown := false, stillQueued := true } := by
  simp [PortState.choose, hr, h]

theorem choose_of_empty (hr : q.replies = []) (h : q.notices = []) :
    q.choose = { frame := emptyFrame, source := .empty, overrunShown := false, stillQueued := true } := by
  simp [PortState.choose, hr, h]

/-- The release of a read after `n` bytes, of a frame still in its queue. -/
theorem endPeriod_read {choice : ReadChoice} (h : choice.stillQueued = true) (summary : Byte) (n : Nat) :
    q.endPeriod ⟨summary, padded (summary :: choice.frame) n, .read choice⟩ =
      if choice.frame.length < n then
        { q with selected := none, dataOut := padded (summary :: choice.frame) n }.removeRead choice
      else { q with selected := none, dataOut := padded (summary :: choice.frame) n } := by
  simp only [PortState.endPeriod, padded_length, h, and_true, Nat.succ_le_iff]

end Chosen

section ReadCases
variable {s : State} {p : Port}

theorem removeRead_inbound (q : PortState) (choice : ReadChoice) : (q.removeRead choice).inbound = q.inbound := by
  unfold PortState.removeRead
  split <;> rfl

theorem removeRead_selected (q : PortState) (choice : ReadChoice) : (q.removeRead choice).selected = q.selected := by
  unfold PortState.removeRead
  split <;> rfl

theorem blocksKept_setPort (s : State) (p : Port) (q : PortState) : BlocksKept s (s.setPort p q) :=
  ⟨rfl, rfl, rfl, rfl, rfl, rfl, rfl, rfl⟩

theorem otherPortsKept_setPort (s : State) (p : Port) (q : PortState) : OtherPortsKept p s (s.setPort p q) :=
  fun p' h => by rw [port_setPort, if_neg h]

/-- A whole read, by the frame it chooses (R187). -/
theorem endedWith_read_port (hrunning : s.resetting = false) {n : Nat} (hn : 1 ≤ n) {choice : ReadChoice}
    (hchoice : (s.port p).choose = choice) (hqueued : choice.stillQueued = true) :
    (s.endedWith p (s.port p).newPeriod (zeroBytes n)).port p =
      if choice.frame.length < n then
        { s.port p with selected := none, dataOut := padded ((s.port p).summary :: choice.frame) n }.removeRead choice
      else { s.port p with selected := none, dataOut := padded ((s.port p).summary :: choice.frame) n } := by
  rw [endedWith_read hrunning hn, port_setPort, if_pos rfl, hchoice, endPeriod_read hqueued]

theorem choose_stillQueued (q : PortState) : q.choose.stillQueued = true := by
  unfold PortState.choose
  split <;> rfl

theorem wholeRead_inbound_selected (hrunning : s.resetting = false) {n : Nat} (hn : 1 ≤ n) :
    ((s.endedWith p (s.port p).newPeriod (zeroBytes n)).port p).inbound = (s.port p).inbound
      ∧ ((s.endedWith p (s.port p).newPeriod (zeroBytes n)).port p).selected = none := by
  rw [endedWith_read_port hrunning hn rfl (choose_stillQueued _)]
  split
  · exact ⟨removeRead_inbound _ _, removeRead_selected _ _⟩
  · exact ⟨rfl, rfl⟩

/-- PORT_RESET within a read leaves its frame to no queue (R187, R193). -/
theorem portReset_selected {summary : Byte} {shifted : List Byte} {choice : ReadChoice}
    (h : (s.port p).selected = some ⟨summary, shifted, .read choice⟩)
    (hfront : s.frameAtFront p (requestFrame .portReset []) = true) :
    ∃ t, exec (.portReset p) s = .next t ∧ t.resetting = s.resetting
      ∧ (t.port p).selected = some ⟨summary, shifted, .read { choice with stillQueued := false }⟩ := by
  refine ⟨_, (exec_portReset p s).trans (congrArg Host.Outcome.next (if_pos hfront)), rfl, ?_⟩
  rw [port_setPort, if_pos rfl]
  show ((s.takeOut p _).port p).selected.map SelectPeriod.frameGone = _
  rw [takeOut_selected hfront, h]
  rfl

theorem deviceReset_selected (s : State) (p : Port) :
    (s.deviceReset.port p).selected = (s.port p).selected.map SelectPeriod.cutByReset := by
  rw [deviceReset_port]
  rfl

/-- A read within which a reset lost the frame. -/
theorem readCutByReset (n : Nat) (summary : Byte) (choice : ReadChoice) (hn : 1 ≤ n)
    (h : (s.port p).selected = some { summary := summary, shifted := [summary], kind := .read choice }) :
    let ended := fun (t : State) (bytes : List Byte) =>
      t.setPort p { t.port p with selected := none, dataOut := bytes.take n }
    let whole := summary :: choice.frame ++ List.replicate n 0x00#8
    (s.frameAtFront p (requestFrame .portReset []) = true →
      ∃ t, exec (.portReset p) s = .next t ∧ exec (.readTransaction p (.released n)) t = .next (ended t whole))
    ∧ ∃ t v, exec .deviceReset s = .next t
      ∧ exec (.readTransaction p (.released n)) t = .next (ended t (summary :: List.replicate n 0x00#8))
      ∧ exec .endOfDeviceReset t = .next v
      ∧ exec (.readTransaction p (.released n)) v = .next (ended v whole) := by
  intro ended whole
  refine ⟨fun hfront => ?_, s.deviceReset, { s.deviceReset with resetting := false }, rfl, ?_, rfl, ?_⟩
  · obtain ⟨t, hreset, hresetting, hselected⟩ := portReset_selected h hfront
    have hrunning : t.resetting = false := by
      rw [hresetting]
      simp only [State.frameAtFront, Bool.and_eq_true, Bool.not_eq_true'] at hfront
      exact hfront.1
    refine ⟨t, hreset, ?_⟩
    show Host.Outcome.next (t.releaseSelect p _) = _
    rw [releaseSelect_gone hselected rfl hn, hrunning]
    rfl
  · have hselected : (s.deviceReset.port p).selected
        = some ⟨summary, [summary], .read { choice with stillQueued := false }⟩ := by
      rw [deviceReset_selected, h]
      rfl
    show Host.Outcome.next (s.deviceReset.releaseSelect p _) = _
    rw [releaseSelect_gone hselected rfl hn]
    rfl
  · have hselected : (({ s.deviceReset with resetting := false } : State).port p).selected
        = some ⟨summary, [summary], .read { choice with stillQueued := false }⟩ := by
      show (s.deviceReset.port p).selected = _
      rw [deviceReset_selected, h]
      rfl
    show Host.Outcome.next (State.releaseSelect { s.deviceReset with resetting := false } p _) = _
    rw [releaseSelect_gone hselected rfl hn]
    rfl

/-- A write after its first byte: its frame arrives at the release, and a device reset cuts it. -/
theorem writeReleased (summary : Byte) (shifted frame bytes : List Byte) (hbegun : shifted ≠ [])
    (h : (s.port p).selected = some { summary := summary, shifted := shifted, kind := .write frame }) :
    let ended := fun t : State => t.setPort p
      { t.port p with selected := none, dataOut := shifted ++ List.replicate bytes.length 0x00#8 }
    (s.resetting = false → exec (.writeTransaction p (.released bytes)) s = .next
      (let t := ended s
       t.setPort p (if (s.port p).inbound.length < 4 then
          { t.port p with inbound := (s.port p).inbound ++ [frame ++ bytes] }
        else { t.port p with overrun := true })))
    ∧ ∃ t v, exec .deviceReset s = .next t ∧ exec (.writeTransaction p (.released bytes)) t = .next (ended t)
      ∧ exec .endOfDeviceReset t = .next v ∧ exec (.writeTransaction p (.released bytes)) v = .next (ended v) := by
  intro ended
  have hcut : (s.deviceReset.port p).selected = some ⟨summary, shifted, .ignored⟩ := by
    rw [deviceReset_selected, h]
    rfl
  refine ⟨fun hrunning => ?_, s.deviceReset, { s.deviceReset with resetting := false }, rfl, ?_, rfl, ?_⟩
  · show Host.Outcome.next (s.releaseSelect p bytes) = _
    rw [releaseSelect_write hrunning h hbegun]
    simp only [ended, setPort_setPort, port_setPort, ↓reduceIte]
    rfl
  · exact congrArg Host.Outcome.next (releaseSelect_ignored hcut bytes)
  · exact congrArg Host.Outcome.next
      (releaseSelect_ignored (s := { s.deviceReset with resetting := false }) hcut bytes)

/-- Settles O10: a period by its parts is the period by its bytes, and its release is that of the frame it chose. -/
theorem aReadReturnsOneFrame : Obligations.AReadReturnsOneFrame := by
  refine ⟨fun p n s hrunning hidle hn => ?_, fun p s hrunning hidle => ?_, fun p summary s hrunning hidle => ?_,
    fun p n summary choice s hn h => readCutByReset n summary choice hn h,
    fun p summary shifted frame bytes s hbegun h => writeReleased summary shifted frame bytes hbegun h,
    fun p s hresetting hidle => ?_⟩
  · obtain ⟨hinbound, hselected⟩ := wholeRead_inbound_selected (p := p) hrunning hn
    refine ⟨_, exec_read_whole hidle n, blocksKept_setPort _ _ _, otherPortsKept_setPort _ _ _, rfl, hrunning,
      exec_read_opened_released hidle hn, hinbound, hselected, fun r rs hreplies => ?_,
      fun m ms hnone hnotices => ?_, fun hnone hempty => ?_⟩
    · rw [endedWith_read_port hrunning hn (choose_of_reply hreplies) rfl]
      by_cases hwhole : (r.frame (s.port p).overrun).length < n <;>
        simp [hwhole, PortState.removeRead, hreplies, padded, zeroBytes]
    · rw [endedWith_read_port hrunning hn (choose_of_notice hnone hnotices) rfl]
      by_cases hwhole : m.frame.length < n <;>
        simp [hwhole, PortState.removeRead, hnone, hnotices, padded, zeroBytes]
    · rw [endedWith_read_port hrunning hn (choose_of_empty hnone hempty) rfl]
      have hframe : emptyFrame = [0x03#8, 0x09#8] := by decide
      split <;> simp [PortState.removeRead, hnone, hempty, padded, zeroBytes, hframe]
  · show Host.Outcome.next (s.assertSelect p) = _
    simp only [State.assertSelect, hidle]
    rfl
  · intro asserted
    refine ⟨exec_readAsserted_unclocked hidle summary, fun n hn => ?_, fun first rest hfirst => ?_⟩
    · have hended := endedWith_assertedWith (p := p) hrunning (zeroBytes_ne_nil hn) summary
      refine ⟨_, _, exec_read_whole hidle n, ?_, exec_readAsserted_opened summary, ?_, fun m hm => ⟨_, rfl, ?_⟩⟩ <;>
        rw [← hended]
      · exact exec_readAsserted_released summary n
      · exact clocked_released_assertedOn summary hn
      · exact clocked_released_assertedOn summary hm
    · have hended := endedWith_assertedWith (p := p) hrunning (List.cons_ne_nil first rest) summary
      refine ⟨_, exec_write_whole hidle _, ?_, fun n => ⟨_, rfl, ?_⟩⟩ <;> rw [← hended]
      · exact exec_writeAsserted_whole summary _
      · show Host.Outcome.next (((s.assertedOn p summary).clockBytes p _).releaseSelect p _) = _
        rw [clockBytes_releaseSelect_asserted (assertedOn_selected summary), List.take_append_drop, State.assertedOn,
          setPeriod_endedWith_other]
  · intro zeros
    have hzeros : ∀ bytes : List Byte, bytes ≠ [] → ∀ summary,
        s.endedWith p (.assertedWith summary) bytes = zeros bytes.length := fun bytes hbytes summary => by
      rw [endedWith_resetting hresetting hbytes, ← hidle]
      rfl
    refine ⟨fun n hn => ?_, fun first rest _ => ?_⟩
    · have hread := fun summary => hzeros (zeroBytes n) (zeroBytes_ne_nil hn) summary
      rw [zeroBytes_length] at hread
      refine ⟨?_, s.assertedOn p (s.port p).summary, _, ?_, ?_, exec_readAsserted_opened _, ?_⟩
      · rw [exec_read_whole hidle, newPeriod_eq, hread]
      · show Host.Outcome.next (s.assertSelect p) = _
        simp only [State.assertSelect, hidle]
        rfl
      · rw [exec_readAsserted_released, hread]
      · rw [clocked_released_assertedOn _ hn, hread]
    · rw [exec_write_whole hidle, newPeriod_eq, hzeros _ (List.cons_ne_nil first rest)]
      rfl

end ReadCases

end Sys2Proof.Machine

/-!
SUPPORT. What one entry of the Rest List does to the carriers, the drain counts and the channels that wait (R11, R127),
and the rules of the drains and the requests that end one: O14, O15.
-/
namespace Sys2Proof.Machine
open Sys2Proof

/-! ## One entry of the Rest List (R127) -/

section Entry
variable {s : State} {k : ChannelId}

theorem postOwner_of_provision {c : CarrierId} {pv : Provision} (h : (s.carrier c).provision = some pv) (n : Notice) :
    s.postOwner c n = s.post (.tenant pv.owner) n := by
  simp only [State.postOwner, h]

theorem processEntry_noEntry (h : s.restEntry (s.channel k).pointer = none) :
    s.processEntry k = s.entryDeclined k .noEntry := by
  simp only [State.processEntry, h]

section Asked
variable {c : CarrierId} (h : s.restEntry (s.channel k).pointer = some c)
include h

theorem processEntry_declined {reason : DeclineReason} (ha : s.drainAnswer c = .declined reason) :
    s.processEntry k = s.entryDeclined k reason := by
  simp only [State.processEntry, h, ha]

theorem processEntry_limit {t : TenantId} (ha : s.drainAnswer c = .limit t) :
    s.processEntry k = s.setChannel k { s.channel k with state := .blocked, waiting := some t } := by
  simp only [State.processEntry, h, ha]

theorem processEntry_started (ha : s.drainAnswer c = .started) :
    s.processEntry k = (s.startDrain c k).entryProcessed k
      { (s.startDrain c k).channel k with outstanding := ((s.startDrain c k).channel k).outstanding + 1 } := by
  simp only [State.processEntry, h, ha]

end Asked

theorem startDrain_eq {c : CarrierId} {pv : Provision} (h : (s.carrier c).provision = some pv) (k : ChannelId) :
    s.startDrain c k = (s.setCarrier c
        { s.carrier c with
          state := .draining, drainDeadline := some (secondsAfter s.now s.table.drainTime),
          drainChannel := some k }).post (.tenant pv.owner) (.drain c (secondsAfter s.now s.table.drainTime)) := by
  rw [State.startDrain, postOwner_of_provision (pv := pv) (by simpa using h)]

theorem startDrain_carrier (c : CarrierId) (k : ChannelId) (d : CarrierId) :
    (s.startDrain c k).carrier d = if d = c then
      { s.carrier c with
        state := .draining, drainDeadline := some (secondsAfter s.now s.table.drainTime), drainChannel := some k }
    else s.carrier d := by
  unfold State.startDrain State.postOwner
  dsimp only
  split <;> simp

theorem startDrain_channel (c : CarrierId) (k j : ChannelId) : (s.startDrain c k).channel j = s.channel j := by
  unfold State.startDrain State.postOwner
  dsimp only
  split <;> simp

/-- A started drain has a free slot of its owner to take (R8, R10). -/
theorem hasFreeSlot_of_started {c : CarrierId} (h : s.drainAnswer c = .started) :
    ∃ pv, (s.carrier c).provision = some pv ∧ s.hasFreeSlot pv.owner = true := by
  unfold State.drainAnswer at h
  dsimp only at h
  split at h
  · cases h
  · split at h
    · cases h
    · next pv hpv =>
      refine ⟨pv, hpv, ?_⟩
      repeat' split at h
      all_goals simp_all

/-- The answer LIMIT names a tenant without a free slot (R8, R10). -/
theorem noFreeSlot_of_limit {c : CarrierId} {t : TenantId} (h : s.drainAnswer c = .limit t) :
    s.hasFreeSlot t = false := by
  unfold State.drainAnswer at h
  dsimp only at h
  split at h
  · cases h
  · split at h
    · cases h
    · repeat' split at h
      all_goals simp_all

/-- Of the carriers an entry reaches one at most: the one whose drain it starts. -/
theorem processEntry_carriers (s : State) (k : ChannelId) :
    (∀ d, (s.processEntry k).carrier d = s.carrier d)
      ∨ ∃ c, s.drainAnswer c = .started ∧ ∀ d, (s.processEntry k).carrier d = if d = c then
          { s.carrier c with
            state := .draining, drainDeadline := some (secondsAfter s.now s.table.drainTime), drainChannel := some k }
        else s.carrier d := by
  have hdeclined : ∀ reason d, (s.entryDeclined k reason).carrier d = s.carrier d := fun reason d =>
    (ChannelFrame.entryProcessed _ _ _).carrier d
  cases hentry : s.restEntry (s.channel k).pointer with
  | none => exact .inl (processEntry_noEntry hentry ▸ hdeclined _)
  | some c =>
    cases hanswer : s.drainAnswer c with
    | started =>
      refine .inr ⟨c, hanswer, fun d => ?_⟩
      rw [processEntry_started hentry hanswer, (ChannelFrame.entryProcessed _ _ _).carrier, startDrain_carrier]
    | declined reason => exact .inl (processEntry_declined hentry hanswer ▸ hdeclined _)
    | limit t =>
      refine .inl fun d => ?_
      rw [processEntry_limit hentry hanswer, setChannel_carrier]

end Entry

/-! ## Drain counts (R10) -/

section Counts

/-- A count of a list without repetitions grows by one at most when a single place changes. -/
theorem countP_le_succ {α : Type} {p q : α → Bool} {a : α} (h : ∀ x, x ≠ a → q x = p x) {l : List α} (hl : l.Nodup) :
    l.countP q ≤ l.countP p + 1 := by
  induction l with
  | nil => exact Nat.zero_le _
  | cons x l ih =>
    obtain ⟨hx, hl⟩ := List.nodup_cons.mp hl
    by_cases hxa : x = a
    · subst hxa
      have hsame : l.countP q = l.countP p :=
        List.countP_congr fun y hy => by rw [h y fun hyx => hx (hyx ▸ hy)]
      rw [List.countP_cons, List.countP_cons, hsame]
      split <;> split <;> omega
    · have := ih hl
      rw [List.countP_cons, List.countP_cons, h x hxa]
      omega

theorem carrierIds_nodup : carrierIds.Nodup := List.nodup_finRange 48

theorem keptOrDrained_trans {s u : State} {now : Nat} {r₁ r₂ r₃ : Carrier} (htime : u.table.drainTime = s.table.drainTime)
    (h : KeptOrDrained s now r₁ r₂) (k : KeptOrDrained u now r₂ r₃) : KeptOrDrained s now r₁ r₃ := by
  rcases h with rfl | ⟨hon, hoffered, hclaims, c, rfl⟩
  · simpa only [KeptOrDrained, htime] using k
  · rcases k with rfl | ⟨hstate, -⟩
    · exact .inr ⟨hon, hoffered, hclaims, c, rfl⟩
    · cases hstate

theorem processEntry_keptOrDrained (s : State) (k : ChannelId) (c : CarrierId) :
    KeptOrDrained s s.now (s.carrier c) ((s.processEntry k).carrier c) := by
  rcases processEntry_carriers s k with hsame | ⟨d, hstarted, hcarrier⟩
  · exact .inl (hsame c)
  · rw [hcarrier]
    split
    · next hc =>
      subst hc
      obtain ⟨hon, hoffered, hclaims⟩ := eligible_of_started hstarted
      exact .inr ⟨hon, hoffered, hclaims, k, rfl⟩
    · exact .inl rfl

theorem processEntry_drainLimit (s : State) (k : ChannelId) (t : TenantId) :
    (s.processEntry k).drainLimit t = s.drainLimit t := by
  obtain ⟨-, -, -, hlimits, -⟩ := processEntry_drainFrame s k
  rw [State.drainLimit, hlimits, State.drainLimit]

/-- An entry ends no drain. -/
theorem drainingCount_le_processEntry (s : State) (k : ChannelId) (t : TenantId) :
    s.drainingCount t ≤ (s.processEntry k).drainingCount t := by
  refine List.countP_mono_left fun c _ hc => ?_
  rcases processEntry_keptOrDrained s k c with hsame | ⟨hon, -⟩
  · rwa [hsame]
  · simp [hon] at hc

/-- An entry takes a tenant's drains no further than its limit. -/
theorem processEntry_drainingCount (s : State) (k : ChannelId) (t : TenantId) :
    (s.processEntry k).drainingCount t ≤ max (s.drainingCount t) (s.drainLimit t) := by
  rcases processEntry_carriers s k with hsame | ⟨c, hstarted, hcarrier⟩
  · exact Nat.le_trans (by simp only [State.drainingCount, hsame, Nat.le_refl]) (Nat.le_max_left _ _)
  · obtain ⟨pv, hpv, hslot⟩ := hasFreeSlot_of_started hstarted
    by_cases howner : pv.owner = t
    · have hfree : s.drainingCount t < s.drainLimit t := by simpa [State.hasFreeSlot, howner] using hslot
      refine Nat.le_trans (countP_le_succ (a := c) (fun d hd => ?_) carrierIds_nodup)
        (Nat.le_trans hfree (Nat.le_max_right _ _))
      rw [hcarrier, if_neg hd]
    · refine Nat.le_trans (Nat.le_of_eq (List.countP_congr fun d _ => ?_)) (Nat.le_max_left _ _)
      rw [hcarrier]
      split
      · next hd => simp [hd, Carrier.ownedBy, hpv, howner]
      · rfl

theorem noFreeSlot_processEntry {s : State} {t : TenantId} (h : s.hasFreeSlot t = false) (k : ChannelId) :
    (s.processEntry k).hasFreeSlot t = false := by
  rw [hasFreeSlot_eq_false_iff] at h ⊢
  rw [processEntry_drainLimit]
  exact Nat.le_trans h (drainingCount_le_processEntry s k t)

end Counts

/-! ## Channels that wait (R11, R129) -/

/-- Every channel that waits on the tenant afterwards waited on it before. -/
def WaitsKept (t : TenantId) (s u : State) : Prop :=
  ∀ k, (u.channel k).waitsOn t = true → (s.channel k).waitsOn t = true

namespace WaitsKept
variable {t : TenantId} {s u : State}

theorem refl : WaitsKept t s s := fun _ h => h

theorem trans {v : State} (h : WaitsKept t s u) (h' : WaitsKept t u v) : WaitsKept t s v := fun k hk => h k (h' k hk)

theorem setChannel {k : ChannelId} {ch : Channel} (h : ch.waitsOn t = true → (s.channel k).waitsOn t = true) :
    WaitsKept t s (s.setChannel k ch) := fun j hj => by
  rw [channel_setChannel] at hj
  split at hj
  · next hjk => exact hjk ▸ h hj
  · exact hj

theorem withPending (k : ChannelId) (source : Option StartSource) :
    WaitsKept t s (s.setChannel k { s.channel k with pendingStart := source }) :=
  setChannel fun hwaits => hwaits

theorem takeStart (k : ChannelId) (source : StartSource) : WaitsKept t s (s.takeStart k source) := fun j hj => by
  rw [takeStart_channel] at hj
  split at hj
  · unfold Channel.waitsOn Channel.started at hj
    split at hj <;> simp at hj
  · exact hj

theorem deliverStart (k : ChannelId) (source : StartSource) : WaitsKept t s (s.deliverStart k source) := by
  by_cases hidle : (s.channel k).state = .idle
  · rw [deliverStart_idle hidle]
    exact takeStart k source
  · rw [deliverStart_busy hidle]
    exact withPending k _

theorem closeStart (k : ChannelId) : WaitsKept t s (s.closeStart k .done) := fun j hj => by
  obtain ⟨hk, hothers, -⟩ := startCloses_done s k
  by_cases hjk : j = k
  · rw [hjk, hk] at hj
    simp [Channel.waitsOn] at hj
  · rwa [hothers j hjk] at hj

theorem followLink (k : ChannelId) : WaitsKept t s (s.followLink k) := by
  unfold State.followLink
  dsimp only
  split
  · exact deliverStart _ _
  · exact refl

theorem takePending (k : ChannelId) : WaitsKept t s (s.takePending k) := by
  unfold State.takePending
  dsimp only
  split
  · exact refl
  · exact (withPending k none).trans (takeStart k _)

theorem completeIfDone (k : ChannelId) : WaitsKept t s (s.completeIfDone k) := by
  unfold State.completeIfDone
  split
  · exact ((closeStart k).trans (followLink k)).trans (takePending k)
  · exact refl

end WaitsKept

theorem processed_ne_blocked (ch : Channel) : ch.processed.state ≠ .blocked := by
  unfold Channel.processed
  dsimp only
  repeat' split
  all_goals simp_all

/-- After a processed entry the channel itself waits on nothing, and no other channel waits anew. -/
theorem entryProcessed_waits {t : TenantId} {s : State} {k : ChannelId} {ch : Channel} {j : ChannelId}
    (h : ((s.entryProcessed k ch).channel j).waitsOn t = true) : j ≠ k ∧ (s.channel j).waitsOn t = true := by
  have hset := WaitsKept.completeIfDone (s := s.setChannel k ch.processed) k j h
  rw [channel_setChannel] at hset
  split at hset
  · simp [Channel.waitsOn, processed_ne_blocked] at hset
  · next hj => exact ⟨hj, hset⟩

/-- A channel waits on a tenant after an entry only if it did before, or the tenant has no free slot. -/
theorem processEntry_waits {t : TenantId} {s : State} {k j : ChannelId}
    (h : ((s.processEntry k).channel j).waitsOn t = true) :
    (j ≠ k ∧ (s.channel j).waitsOn t = true) ∨ s.hasFreeSlot t = false := by
  cases hentry : s.restEntry (s.channel k).pointer with
  | none =>
    rw [processEntry_noEntry hentry] at h
    exact .inl (entryProcessed_waits h)
  | some c =>
    cases hanswer : s.drainAnswer c with
    | started =>
      rw [processEntry_started hentry hanswer] at h
      exact .inl (by simpa only [startDrain_channel] using entryProcessed_waits h)
    | declined reason =>
      rw [processEntry_declined hentry hanswer] at h
      exact .inl (entryProcessed_waits h)
    | limit t' =>
      rw [processEntry_limit hentry hanswer, channel_setChannel] at h
      split at h
      · have htenant : t' = t := by simpa [Channel.waitsOn] using h
        exact .inr (htenant ▸ noFreeSlot_of_limit hanswer)
      · next hj => exact .inl ⟨hj, h⟩

/-- Once the slots were offered to a channel, it waits on the tenant only without a free slot. -/
def NoSlotMissed (t : TenantId) (s : State) (k : ChannelId) : Prop :=
  (s.channel k).waitsOn t = true → s.hasFreeSlot t = false

theorem offerSlotTo_missesNone (s : State) (t : TenantId) (k : ChannelId) : NoSlotMissed t (s.offerSlotTo t k) k := by
  intro hwaits
  unfold State.offerSlotTo at hwaits ⊢
  split
  · next hoffer =>
    rw [if_pos hoffer] at hwaits
    rcases processEntry_waits hwaits with ⟨hk, -⟩ | hfull
    · exact absurd rfl hk
    · exact noFreeSlot_processEntry hfull k
  · next hoffer =>
    rw [if_neg hoffer] at hwaits
    simpa [hwaits] using hoffer

theorem NoSlotMissed.offerSlotTo {t : TenantId} {s : State} {j : ChannelId} (h : NoSlotMissed t s j) (k : ChannelId) :
    NoSlotMissed t (s.offerSlotTo t k) j := by
  intro hwaits
  unfold State.offerSlotTo at hwaits ⊢
  split
  · next hoffer =>
    rw [if_pos hoffer] at hwaits
    rcases processEntry_waits hwaits with ⟨-, hwaited⟩ | hfull
    · exact noFreeSlot_processEntry (h hwaited) k
    · exact noFreeSlot_processEntry hfull k
  · next hoffer =>
    rw [if_neg hoffer] at hwaits
    exact h hwaits

/-- What a step of a fold establishes for its own element, and every step keeps, holds for each element at the end. -/
theorem foldl_establishes {α β : Type} {f : β → α → β} {P : α → β → Prop} (hown : ∀ u a, P a (f u a))
    (hkept : ∀ u a b, P a u → P a (f u b)) (l : List α) (s : β) : ∀ a ∈ l, P a (l.foldl f s) := by
  induction l generalizing s with
  | nil => intro a ha; cases ha
  | cons b l ih =>
    intro a ha
    rcases List.mem_cons.mp ha with rfl | ha
    · have hall : ∀ (l : List α) (u : β), P a u → P a (l.foldl f u) := fun l => by
        induction l with
        | nil => exact fun u hu => hu
        | cons c l ih => exact fun u hu => ih _ (hkept u a c hu)
      exact hall l _ (hown s a)
    · exact ih _ a ha

theorem offerSlots_missesNone (s : State) (t : TenantId) (k : ChannelId) : NoSlotMissed t (s.offerSlots t) k :=
  foldl_establishes (P := fun k u => NoSlotMissed t u k) (fun u k => offerSlotTo_missesNone u t k)
    (fun _ _ j h => h.offerSlotTo j) channelIds s k (List.mem_finRange k)

/-! ## Offers of a slot -/

/-- What every offer of a slot keeps of the carriers and the drain counts. -/
structure OfferFrame (s u : State) : Prop where
  carriers : ∀ c, KeptOrDrained s s.now (s.carrier c) (u.carrier c)
  counts : ∀ t, u.drainingCount t ≤ max (s.drainingCount t) (s.drainLimit t)
  limits : ∀ t, u.drainLimit t = s.drainLimit t
  time : u.now = s.now
  drainTime : u.table.drainTime = s.table.drainTime

namespace OfferFrame

theorem refl (s : State) : OfferFrame s s :=
  ⟨fun _ => .inl rfl, fun _ => Nat.le_max_left _ _, fun _ => rfl, rfl, rfl⟩

theorem processEntry (s : State) (k : ChannelId) : OfferFrame s (s.processEntry k) := by
  obtain ⟨-, -, -, -, hdrainTime, -, htimer, -⟩ := processEntry_drainFrame s k
  exact ⟨processEntry_keptOrDrained s k, processEntry_drainingCount s k, processEntry_drainLimit s k,
    by rw [State.now, htimer, State.now], hdrainTime⟩

theorem trans {s u v : State} (h : OfferFrame s u) (h' : OfferFrame u v) : OfferFrame s v where
  carriers c := keptOrDrained_trans h.drainTime (h.carriers c) (h.time ▸ h'.carriers c)
  counts t := by
    have hbelow := h'.counts t
    rw [h.limits] at hbelow
    exact Nat.le_trans hbelow (Nat.max_le.mpr ⟨h.counts t, Nat.le_max_right _ _⟩)
  limits t := (h'.limits t).trans (h.limits t)
  time := h'.time.trans h.time
  drainTime := h'.drainTime.trans h.drainTime

theorem offerSlots (s : State) (t : TenantId) : OfferFrame s (s.offerSlots t) := by
  refine foldl_keeps (OfferFrame s) (fun u k hu => ?_) channelIds (refl s)
  unfold State.offerSlotTo
  split
  · exact hu.trans (processEntry u k)
  · exact hu

end OfferFrame

theorem cancelled_eq (r : Carrier) (reason : CancelReason) :
    r.cancelled reason =
      { r with
        state := .on, drainDeadline := none, drainChannel := none,
        offered := r.offered && decide (reason ≠ .withdrawn ∧ reason ≠ .timeout) } := by
  cases reason <;> rfl

theorem restEntry_eq (s : State) (entry : Fin 256) : s.restEntry entry.val = s.rest.list[entry.val] := by
  simp [State.restEntry]

/-- Offers of the slots of a carrier's owner, where the records name the owner. -/
theorem offerOwnersSlots_eq {s : State} {c : CarrierId} {pv : Provision} (h : (s.carrier c).provision = some pv) :
    s.offerOwnersSlots c = s.offerSlots pv.owner := by
  simp only [State.offerOwnersSlots, h]

/-- The cancel of a drain that has its owner and its channel. -/
theorem cancelAndOffer_eq {s : State} {c : CarrierId} {pv : Provision} {k : ChannelId}
    (hpv : (s.carrier c).provision = some pv) (hk : (s.carrier c).drainChannel = some k) (reason : CancelReason) :
    s.cancelAndOffer c reason = (((s.setCarrier c ((s.carrier c).cancelled reason)).post (.tenant pv.owner)
      (.drainCancel c reason)).drainOutcome k .declined).offerSlots pv.owner := by
  have hcancel : s.cancelDrain c reason = ((s.setCarrier c ((s.carrier c).cancelled reason)).post (.tenant pv.owner)
      (.drainCancel c reason)).drainOutcome k .declined := by
    simp only [State.cancelDrain, hk, State.reportOutcome]
    rw [postOwner_of_provision (pv := pv)]
    simpa [Carrier.cancelled] using hpv
  rw [State.cancelAndOffer, hcancel, offerOwnersSlots_eq (pv := pv)]
  rw [(ChannelFrame.drainOutcome _ _ _).carrier]
  simpa [Carrier.cancelled] using hpv

/-- Settles O14: an entry ends no drain and passes no limit, and a channel waits on a tenant only without a free slot. -/
theorem aCancelFreesASlotForAdmittedDrains : Obligations.ACancelFreesASlotForAdmittedDrains := by
  refine ⟨fun c pv k reason s hpv _ hk => ?_, fun t s => ?_, fun t s => ⟨?_, fun k hblocked hwaiting => ?_⟩,
    fun k entry s hpointer => ?_⟩
  · rw [cancelAndOffer_eq hpv hk, cancelled_eq]
  · obtain ⟨hctrl, harb, -, -, -, -, htimer, hstack, -⟩ := offerSlots_drainFrame s t
    have hframe := OfferFrame.offerSlots s t
    exact ⟨offerSlots_posts s t, hctrl, harb, htimer, hstack, hframe.carriers, hframe.counts⟩
  · refine congrArg (fun f => (List.finRange 8).foldl f s) (funext fun u => funext fun k => ?_)
    simp [State.offerSlotTo, Channel.waitsOn, State.hasFreeSlot, and_assoc]
  · rw [← hasFreeSlot_eq_false_iff]
    exact offerSlots_missesNone s t k (by simp [Channel.waitsOn, hblocked, hwaiting])
  · have hentry : s.restEntry (s.channel k).pointer = s.rest.list[entry.val] := by
      rw [hpointer, restEntry_eq]
    refine ⟨fun hnone => processEntry_noEntry (hentry.trans hnone), fun c hc => ?_⟩
    rw [hc] at hentry
    refine ⟨fun reason ha => processEntry_declined hentry ha, fun tenant ha => processEntry_limit hentry ha,
      fun pv hpv ha => ?_⟩
    rw [processEntry_started hentry ha, startDrain_channel, startDrain_eq hpv]
    rfl

/-! ## The requests that end a drain -/

theorem postOwner_carrier (s : State) (c : CarrierId) (n : Notice) (d : CarrierId) :
    (s.postOwner c n).carrier d = s.carrier d := by
  unfold State.postOwner
  split
  · rfl
  · exact post_carrier _ _ _ _

theorem reportOutcome_carrier (s : State) (k : Option ChannelId) (o : DrainOutcome) (d : CarrierId) :
    (s.reportOutcome k o).carrier d = s.carrier d := by
  cases k with
  | none => rfl
  | some k => exact (ChannelFrame.drainOutcome s k o).carrier d

theorem cancelDrain_carrier (s : State) (c : CarrierId) (reason : CancelReason) (d : CarrierId) :
    (s.cancelDrain c reason).carrier d = if d = c then (s.carrier c).cancelled reason else s.carrier d := by
  rw [State.cancelDrain, reportOutcome_carrier, postOwner_carrier, carrier_setCarrier]

theorem OfferFrame.offerOwnersSlots (s : State) (c : CarrierId) : OfferFrame s (s.offerOwnersSlots c) := by
  unfold State.offerOwnersSlots
  split
  · exact refl s
  · exact offerSlots s _

/-- A freed slot does not reach a carrier whose offer the cancel took back (R9, R16). -/
theorem cancelAndOffer_withdrawn (s : State) (c : CarrierId) :
    (s.cancelAndOffer c .withdrawn).carrier c = (s.carrier c).cancelled .withdrawn := by
  have hcancelled : (s.cancelDrain c .withdrawn).carrier c = (s.carrier c).cancelled .withdrawn := by
    rw [cancelDrain_carrier, if_pos rfl]
  rcases (OfferFrame.offerOwnersSlots (s.cancelDrain c .withdrawn) c).carriers c with hsame | ⟨-, hoffered, -⟩
  · exact hsame.trans hcancelled
  · rw [hcancelled] at hoffered
    simp [Carrier.cancelled, CancelReason.keepsOffer] at hoffered

section Withdraw
variable {t : TenantId} {c : CarrierId} {s : State} (howner : (s.carrier c).ownedBy t = true)
include howner

theorem withdrawAnswer_already (h : (s.carrier c).offered = false) :
    withdrawAnswer (.tenant t) (indexByte c) s = .fail .already s := by
  rw [withdrawAnswer, ownCarrier_owner howner, if_pos h]

theorem withdrawAnswer_withdraws (h : (s.carrier c).offered ≠ false) :
    withdrawAnswer (.tenant t) (indexByte c) s = .ok (if (s.carrier c).state = .draining then
      s.cancelAndOffer c .withdrawn else s.setCarrier c { s.carrier c with offered := false }) := by
  rw [withdrawAnswer, ownCarrier_owner howner, if_neg h]
  split <;> rfl

theorem drainedAnswer_state (h : (s.carrier c).state ≠ .draining) :
    drainedAnswer (.tenant t) (indexByte c) s = .fail .state s := by
  rw [drainedAnswer, ownCarrier_owner howner, if_neg h]

theorem drainedAnswer_rests (h : (s.carrier c).state = .draining) :
    drainedAnswer (.tenant t) (indexByte c) s = .ok (s.restCarrier c) := by
  rw [drainedAnswer, ownCarrier_owner howner, if_pos h]

end Withdraw

/-- Settles O13, by the offer and the state of the carrier. -/
theorem withdrawEndsTheConsent : Obligations.WithdrawEndsTheConsent := by
  intro t c s htake howner
  refine ⟨?_, fun u hu hdraining => ?_⟩
  · split
    case isTrue hoffered => exact exec_turnedAway rfl rfl rfl htake (withdrawAnswer_already howner hoffered)
    case isFalse hoffered => exact exec_answered rfl rfl rfl htake (withdrawAnswer_withdraws howner hoffered)
  · rw [cancelAndOffer_withdrawn, hu]
    simp [Carrier.cancelled, CancelReason.keepsOffer]

theorem ownedBy_iff {r : Carrier} {pv : Provision} (h : r.provision = some pv) (t : TenantId) :
    r.ownedBy t = true ↔ pv.owner = t := by
  simp [Carrier.ownedBy, h]

/-- The end of a drain that has its owner, its branch and its channel (R14). -/
theorem restCarrier_eq {s : State} {c : CarrierId} {pv : Provision} {k : ChannelId}
    (hpv : (s.carrier c).provision = some pv) (hk : (s.carrier c).drainChannel = some k) :
    s.restCarrier c = ((((s.setCarrier c (s.carrier c).rest).post (.tenant pv.owner) (.rested c)).drainOutcome k
      .rested).offerSlots pv.owner).settleTest pv.branch := by
  have hrested : ((s.setCarrier c (s.carrier c).rest).carrier c).provision = some pv := by
    simpa [Carrier.rest] using hpv
  have hposted := postOwner_of_provision hrested (.rested c)
  have hreported : ((((s.setCarrier c (s.carrier c).rest).post (.tenant pv.owner) (.rested c)).drainOutcome k
      .rested).carrier c) = (s.carrier c).rest := by
    rw [(ChannelFrame.drainOutcome _ _ _).carrier]
    simp
  have hoffered := (OfferFrame.offerSlots (((s.setCarrier c (s.carrier c).rest).post (.tenant pv.owner)
    (.rested c)).drainOutcome k .rested) pv.owner).carriers c
  rw [hreported] at hoffered
  have hprovision : (((((s.setCarrier c (s.carrier c).rest).post (.tenant pv.owner) (.rested c)).drainOutcome k
      .rested).offerSlots pv.owner).carrier c).provision = some pv := by
    rcases hoffered with hsame | ⟨hon, -⟩
    · rw [hsame]
      exact hpv
    · cases hon
  simp only [State.restCarrier, hk, State.reportOutcome, hposted]
  rw [offerOwnersSlots_eq (pv := pv) (by rw [hreported]; exact hpv)]
  simp only [State.memberResting, hprovision]

/-- Settles O15, by the state of the carrier. -/
theorem drainedRestsTheCarrier : Obligations.DrainedRestsTheCarrier := by
  intro t c s htake howner
  refine ⟨fun hstate => exec_turnedAway rfl rfl rfl htake (drainedAnswer_state howner hstate),
    fun pv k hpv hdraining hk => exec_answered rfl rfl rfl htake ?_⟩
  have htenant : pv.owner = t := (ownedBy_iff hpv t).mp howner
  refine (drainedAnswer_rests (s := s.takeOut _ _) howner hdraining).trans ?_
  rw [restCarrier_eq (s := s.takeOut _ _) hpv hk, htenant]
  rfl

end Sys2Proof.Machine

/-!
SUPPORT. Operands outside and inside their codings (R197), the answers of the plant's and the fleet's settings, and the
statements about them: O24, O25, O31, O32, O34, O39, O41.
-/
namespace Sys2Proof.Machine
open Sys2Proof

/-! ## Operands outside their coding -/

theorem asTenant_outside {b : Byte} (h : 4 ≤ b.toNat) : asTenant b = none := asIndex_outside h
theorem asSector_outside {b : Byte} (h : 6 ≤ b.toNat) : asSector b = none := asIndex_outside h
theorem asChannel_outside {b : Byte} (h : 8 ≤ b.toNat) : asChannel b = none := asIndex_outside h
theorem asSlot_outside {b : Byte} (h : 16 ≤ b.toNat) : asSlot b = none := asIndex_outside h
theorem asInput_outside {b : Byte} (h : 8 ≤ b.toNat) : asInput b = none := asIndex_outside h
theorem asOutput_outside {b : Byte} (h : 4 ≤ b.toNat) : asOutput b = none := asIndex_outside h

theorem asLevel_outside {b : Byte} (h : b.toNat = 0 ∨ 7 < b.toNat) : asLevel b = none := asRange_outside (by omega)

theorem asOneOf_outside {α : Type} {values : List α} {b : Byte} (h : values.length ≤ b.toNat) : asOneOf values b = none :=
  List.getElem?_eq_none h

theorem asFlag_outside {b : Byte} (h : 2 ≤ b.toNat) : asFlag b = none := by
  rw [asFlag, if_neg, if_neg] <;>
    · rintro rfl
      simp at h

theorem asSet_outside {n : Nat} {b : Byte} (h : 2 ^ n ≤ b.toNat) : asSet n b = none := if_neg (Nat.not_lt.mpr h)

theorem asWindowOrNone_outside {b : Byte} (h : 8 ≤ b.toNat ∧ b.toNat ≠ 255) : asWindowOrNone b = none := by
  obtain ⟨hwindow, hnone⟩ := h
  rw [asWindowOrNone, if_neg, asWindow_outside hwindow, Option.map_none]
  rintro rfl
  exact hnone rfl

/-! ## Operands by their codes -/

@[simp] theorem asLayer_code (l : Layer) : asLayer l.code = some l := by cases l <;> rfl
@[simp] theorem asChannelMode_code (m : ChannelMode) : asChannelMode m.code = some m := by cases m <;> rfl
@[simp] theorem asPointerMode_code (m : PointerMode) : asPointerMode m.code = some m := by cases m <;> rfl
@[simp] theorem asEdgeMode_code (m : EdgeMode) : asEdgeMode m.code = some m := by cases m <;> rfl
@[simp] theorem asInputRole_code (r : InputRole) : asInputRole r.code = some r := by cases r <;> rfl
@[simp] theorem asHoldMode_code (m : HoldMode) : asHoldMode m.code = some m := by cases m <;> rfl

@[simp] theorem asWindowOrNone_optionByte (window : Option WindowId) :
    asWindowOrNone (optionByte indexByte window) = some window := by
  cases window with
  | none => rfl
  | some w =>
    have hbyte : optionByte indexByte (some w) = indexByte w := rfl
    rw [hbyte, asWindowOrNone, if_neg, asWindow_indexByte, Option.map_some]
    intro hw
    have hlt : (indexByte w).toNat < 8 := by
      rw [indexByte_toNat w (by decide)]
      exact w.isLt
    rw [hw] at hlt
    exact absurd hlt (by decide)

/-! ## Limits and durations: SET_RAMP, SET_TIMERS, SET_DRAIN_LIMIT -/

section Durations
variable {s : State}

theorem setRampAnswer_range {down up : Byte}
    (h : ¬ (1 ≤ down.toNat ∧ down.toNat ≤ 120 ∧ 1 ≤ up.toNat ∧ up.toNat ≤ 120)) :
    setRampAnswer down up s = .fail .range s := by
  by_cases hdown : 1 ≤ down.toNat ∧ down.toNat ≤ 120
  · rw [setRampAnswer, asRange_inside hdown.1 hdown.2, asRange_outside (n := up.toNat) (by omega)]
  · rw [setRampAnswer, asRange_outside (n := down.toNat) (by omega)]

theorem setRampAnswer_replaces {down up : Byte}
    (h : 1 ≤ down.toNat ∧ down.toNat ≤ 120 ∧ 1 ≤ up.toNat ∧ up.toNat ≤ 120) :
    setRampAnswer down up s =
      .ok { s with ctrl := { s.ctrl with rampDown := down.toNat, rampUp := up.toNat } } := by
  obtain ⟨hdown, hdown', hup, hup'⟩ := h
  rw [setRampAnswer, asRange_inside hdown hdown', asRange_inside hup hup']

section Timers
variable {drain live linger : Half}

theorem setTimersAnswer_range (h : ¬ (10 ≤ drain.toNat ∧ drain.toNat ≤ 900 ∧ 5 ≤ live.toNat ∧ live.toNat ≤ 300
    ∧ linger.toNat ≤ 3600)) : setTimersAnswer drain live linger s = .fail .range s := by
  by_cases hdrain : 10 ≤ drain.toNat ∧ drain.toNat ≤ 900
  · by_cases hlive : 5 ≤ live.toNat ∧ live.toNat ≤ 300
    · rw [setTimersAnswer, asRange_inside hdrain.1 hdrain.2, asRange_inside hlive.1 hlive.2,
        asRange_outside (n := linger.toNat) (by omega)]
    · rw [setTimersAnswer, asRange_inside hdrain.1 hdrain.2, asRange_outside (n := live.toNat) (by omega)]
  · rw [setTimersAnswer, asRange_outside (n := drain.toNat) (by omega)]

theorem setTimersAnswer_replaces (h : 10 ≤ drain.toNat ∧ drain.toNat ≤ 900 ∧ 5 ≤ live.toNat ∧ live.toNat ≤ 300
    ∧ linger.toNat ≤ 3600) : setTimersAnswer drain live linger s =
      .ok { s with table := { s.table with drainTime := drain.toNat, liveTime := live.toNat },
                   ctrl := { s.ctrl with linger := linger.toNat } } := by
  obtain ⟨hdrain, hdrain', hlive, hlive', hlinger⟩ := h
  rw [setTimersAnswer, asRange_inside hdrain hdrain', asRange_inside hlive hlive',
    asRange_inside (Nat.zero_le _) hlinger]

end Timers

theorem setDrainLimitAnswer_range {t limit : Byte} (h : 4 ≤ t.toNat ∨ limit.toNat = 0 ∨ 8 < limit.toNat) :
    setDrainLimitAnswer t limit s = .fail .range s := by
  unfold setDrainLimitAnswer
  rcases h with ht | hlimit
  · rw [asTenant_outside ht]
  · rw [asRange_outside (n := limit.toNat) (by omega)]
    cases asTenant t <;> rfl

theorem setDrainLimitAnswer_replaces (t : TenantId) {limit : Byte} (h1 : 1 ≤ limit.toNat) (h8 : limit.toNat ≤ 8) :
    setDrainLimitAnswer (indexByte t) limit s = .ok (if s.drainLimit t < limit.toNat then
      (s.setDrainLimit t limit.toNat).offerSlots t else s.setDrainLimit t limit.toNat) := by
  rw [setDrainLimitAnswer, asTenant_indexByte, asRange_inside h1 h8]

end Durations

/-- Settles O24, by the ranges of the operands. -/
theorem limitsAndDurationsAreReplaced : Obligations.LimitsAndDurationsAreReplaced := by
  refine ⟨⟨fun down up s htake => ?_, fun drain live linger s => ?_⟩,
    fun t limit s htake h => exec_turnedAway rfl rfl rfl htake (setDrainLimitAnswer_range h),
    fun t limit s h1 h8 htake => exec_answered rfl rfl rfl htake (setDrainLimitAnswer_replaces t h1 h8)⟩
  · split
    case isTrue h => exact exec_answered rfl rfl rfl htake (setRampAnswer_replaces h)
    case isFalse h => exact exec_turnedAway rfl rfl rfl htake (setRampAnswer_range h)
  · intro payload htake
    split
    case isTrue h => exact exec_answered rfl rfl rfl htake (setTimersAnswer_replaces h)
    case isFalse h => exact exec_turnedAway rfl rfl rfl htake (setTimersAnswer_range h)

/-! ## The line mode: PIN and UNPIN -/

section LineMode
variable {b : BranchId} {s : State}

theorem pinAnswer_outside {b : Byte} (h : 16 ≤ b.toNat) : pinAnswer b s = .fail .range s := by
  rw [pinAnswer, asBranch_outside h]

theorem pinAnswer_unused (h : (s.branch b).state = .unused) : pinAnswer (indexByte b) s = .fail .state s := by
  rw [pinAnswer, asBranch_indexByte]
  exact if_pos h

theorem pinAnswer_already (hused : (s.branch b).state ≠ .unused) (h : (s.branch b).lineMode = .pinned) :
    pinAnswer (indexByte b) s = .fail .already s := by
  rw [pinAnswer, asBranch_indexByte]
  exact (if_neg hused).trans (if_pos h)

theorem pinBranch_eq (hused : (s.branch b).state ≠ .unused) :
    s.pinBranch b =
      if (s.branch b).state = .settling then
        s.setBranch b (({ s.branch b with lineMode := .pinned } : Branch).enter .powered)
      else if (s.branch b).state = .dark then
        (s.setBranch b { s.branch b with lineMode := .pinned }).enterQueued b 1
      else s.setBranch b { s.branch b with lineMode := .pinned } := by
  unfold State.pinBranch
  cases hstate : (s.branch b).state <;> simp_all

theorem pinAnswer_pins (hused : (s.branch b).state ≠ .unused) (h : (s.branch b).lineMode ≠ .pinned) :
    pinAnswer (indexByte b) s = .ok (s.pinBranch b) := by
  rw [pinAnswer, asBranch_indexByte]
  exact (if_neg hused).trans (if_neg h)

theorem unpinAnswer_outside {b : Byte} (h : 16 ≤ b.toNat) : unpinAnswer b s = .fail .range s := by
  rw [unpinAnswer, asBranch_outside h]

theorem unpinAnswer_unused (h : (s.branch b).state = .unused) : unpinAnswer (indexByte b) s = .fail .state s := by
  rw [unpinAnswer, asBranch_indexByte]
  exact if_pos h

theorem unpinAnswer_already (hused : (s.branch b).state ≠ .unused) (h : (s.branch b).lineMode = .follow) :
    unpinAnswer (indexByte b) s = .fail .already s := by
  rw [unpinAnswer, asBranch_indexByte]
  exact (if_neg hused).trans (if_pos h)

/-- The settle conditions hold of a POWERED branch only (R56). -/
theorem settleTest_of_ne_powered (h : (s.branch b).state ≠ .powered) : s.settleTest b = s := by
  simp [State.settleTest, State.settleConditions, h]

theorem unpinAnswer_unpins (hused : (s.branch b).state ≠ .unused) (h : (s.branch b).lineMode ≠ .follow) :
    unpinAnswer (indexByte b) s = .ok (if (s.branch b).state = .powered then
      (s.setBranch b { s.branch b with lineMode := .follow }).settleTest b
    else s.setBranch b { s.branch b with lineMode := .follow }) := by
  have hanswer : unpinAnswer (indexByte b) s
      = .ok ((s.setBranch b { s.branch b with lineMode := .follow }).settleTest b) := by
    rw [unpinAnswer, asBranch_indexByte]
    exact (if_neg hused).trans (if_neg h)
  rw [hanswer]
  split
  · rfl
  · next hstate => rw [settleTest_of_ne_powered (by simpa using hstate)]

end LineMode

/-- Settles O25, by the checks and the state of the branch. -/
theorem pinAndUnpinSetTheLineMode : Obligations.PinAndUnpinSetTheLineMode := by
  refine ⟨fun b s h => ⟨fun htake => exec_turnedAway rfl rfl rfl htake (pinAnswer_outside h),
    fun htake => exec_turnedAway rfl rfl rfl htake (unpinAnswer_outside h)⟩,
    fun b s htake => ?_, fun b s htake => ?_⟩
  · intro pinned
    split
    case isTrue hunused => exact exec_turnedAway rfl rfl rfl htake (pinAnswer_unused hunused)
    case isFalse hused =>
      split
      case isTrue hpinned => exact exec_turnedAway rfl rfl rfl htake (pinAnswer_already hused hpinned)
      case isFalse hfollow =>
        refine exec_answered rfl rfl rfl htake ((pinAnswer_pins (s := s.takeOut _ _) hused hfollow).trans ?_)
        rw [pinBranch_eq (s := s.takeOut _ _) hused]
        rfl
  · split
    case isTrue hunused => exact exec_turnedAway rfl rfl rfl htake (unpinAnswer_unused hunused)
    case isFalse hused =>
      split
      case isTrue hfollow => exact exec_turnedAway rfl rfl rfl htake (unpinAnswer_already hused hfollow)
      case isFalse hpinned => exact exec_answered rfl rfl rfl htake (unpinAnswer_unpins hused hpinned)

/-! ## What a line shows: SET_OUTPUT -/

section Outputs
variable {s : State}

theorem asOutputSource_outside {source channel : Byte}
    (h : 5 < source.toNat ∨ (source.toNat = 5 ∧ 8 ≤ channel.toNat)) : asOutputSource source channel = none := by
  unfold asOutputSource
  split
  · next hdone =>
    rcases h with h | ⟨-, h⟩
    · rw [hdone] at h
      exact absurd h (by decide)
    · rw [asChannel_outside h, Option.map_none]
  · next hother =>
    rcases h with h | ⟨h, -⟩
    · exact asOneOf_outside (Nat.le_of_lt h)
    · exact asOneOf_outside (Nat.le_of_eq h.symm)

theorem asOutputSource_code (source : OutputSource) {channel : Byte} (h : ∀ k, source = .done k → channel = indexByte k) :
    asOutputSource source.code channel = some source := by
  cases source with
  | done k =>
    rw [h k rfl]
    show (asChannel (indexByte k)).map OutputSource.done = _
    rw [asChannel_indexByte, Option.map_some]
  | none => rfl
  | halt => rfl
  | faults => rfl
  | raising => rfl
  | hold => rfl

theorem setOutputAnswer_range {o source channel : Byte}
    (h : 4 ≤ o.toNat ∨ 5 < source.toNat ∨ (source.toNat = 5 ∧ 8 ≤ channel.toNat)) :
    setOutputAnswer o source channel s = .fail .range s := by
  unfold setOutputAnswer
  rcases h with ho | hsource
  · rw [asOutput_outside ho]
  · rw [asOutputSource_outside hsource]
    cases asOutput o <;> rfl

theorem setOutputAnswer_replaces (o : OutputId) (source : OutputSource) {channel : Byte}
    (h : ∀ k, source = .done k → channel = indexByte k) :
    setOutputAnswer (indexByte o) source.code channel s =
      .okWith [(s.output o).source.code, optionByte indexByte (sourceChannel (s.output o).source)]
        (s.setOutput o { source := source, pulse := false }) := by
  rw [setOutputAnswer, asOutput_indexByte, asOutputSource_code source h]

end Outputs

/-- Settles O31, by the coding of the source and the source of the line. -/
theorem setOutputChoosesWhatALineShows : Obligations.SetOutputChoosesWhatALineShows := by
  refine ⟨fun o source channel s htake h => exec_turnedAway rfl rfl rfl htake (setOutputAnswer_range h),
    fun o source channel s htake h =>
      exec_answered rfl rfl rfl htake ((setOutputAnswer_replaces (s := s.takeOut _ _) o source h).trans ?_),
    fun o s => ?_, fun o s => rfl⟩
  · show Answer.okWith [(s.output o).source.code, optionByte indexByte (sourceChannel (s.output o).source)] _ = _
    cases (s.output o).source <;> rfl
  · refine ⟨fun h => ?_, fun h => ?_, fun h => ?_, fun h => ?_, fun h => ?_, fun k h => ?_⟩ <;>
      simp only [State.eo, h]
    · cases s.stack.records <;> simp
    · simp [State.anyRaising, branchIds]

/-! ## START_CHANNEL -/

section Starts
variable {p : Port} {source : StartSource} {k : ChannelId} {s : State}

theorem startChannelAnswer_outside {b : Byte} (h : 8 ≤ b.toNat) : startChannelAnswer p b s = .fail .range s := by
  rw [startChannelAnswer, asChannel_outside h]

theorem startChannelAnswer_halted (h : s.halted = true) : startChannelAnswer p (indexByte k) s = .fail .halted s := by
  rw [startChannelAnswer, asChannel_indexByte]
  exact if_pos h

theorem startChannelAnswer_running (h : s.halted = false) (hsource : requestSource p = source) :
    startChannelAnswer p (indexByte k) s =
      .okWith [startOutcome (s.channel k), ((s.deliverStart k source).channel k).state.code,
        byteOf ((s.deliverStart k source).channel k).count,
        optionByte StartSource.code (if (s.channel k).state = .idle then none else (s.channel k).pendingStart)]
        (s.deliverStart k source) := by
  rw [startChannelAnswer, asChannel_indexByte]
  exact (if_neg (by simp [h])).trans (by rw [hsource])

end Starts

/-! ## Starts of a request -/

section RequestStarts
variable {source : StartSource} {k : ChannelId} {s : State}

/-- The source is a request's, and no cause is told of the start. -/
def StartSource.OfRequest (source : StartSource) : Prop := source = .plantRequest ∨ source = .fleetRequest

theorem startTaken_of_request (h : source.OfRequest) : s.startTaken source = s := by
  rcases h with rfl | rfl <;> rfl

theorem reportSource_of_request (h : source.OfRequest) (report : CauseReport) : s.reportSource report source = s := by
  rcases h with rfl | rfl <;> rfl

theorem disarmFor_of_request (h : source.OfRequest) (countLeft : Nat) : s.disarmFor (some source) countLeft = s := by
  rcases h with rfl | rfl <;> rfl

/-- A start of count 0 completes EMPTY at once (R124, R135): CHANNEL_DONE where it is asked for, and the pulses. -/
theorem takeStart_empty (hsource : source.OfRequest) (hcount : (s.channel k).count = 0) :
    s.takeStart k source =
      let started := { s.channel k with
        currentSource := some source, rested := 0, declined := 0, lastReason := none, state := .idle, quota := 0,
        outstanding := 0 }
      let notice := Notice.channelDone k .empty 0 0 0 (some source)
      let told := if (s.channel k).completionNotice then
          ((s.setChannel k started).post .fleet notice).post .plant notice
        else s.setChannel k started
      { told with lines := { told.lines with outputs := told.lines.outputs.map (fun o => o.pulsedBy k) } } := by
  simp only [State.takeStart, hcount, if_true, reportSource_of_request hsource, State.closeStart, channel_setChannel,
    setChannel_setChannel, State.postChannelDone]
  split <;> simp [State.channelDone, disarmFor_of_request hsource]

theorem startOutcome_idle (hidle : (s.channel k).state = .idle) :
    startOutcome (s.channel k) = if (s.channel k).count = 0 then 0x02#8 else 0x00#8 := by
  rw [startOutcome, if_pos hidle]

theorem startOutcome_busy (hbusy : (s.channel k).state ≠ .idle) : startOutcome (s.channel k) = 0x01#8 := if_neg hbusy

variable {p : Port} (hrunning : s.halted = false) (hport : requestSource p = source)
include hrunning hport

theorem startChannelAnswer_steps (hsource : source.OfRequest) (hidle : (s.channel k).state = .idle)
    (hcount : (s.channel k).count ≠ 0) :
    startChannelAnswer p (indexByte k) s =
      .okWith [0x00#8, ChannelState.stepping.code, byteOf (s.channel k).count, 0xFF#8]
        (s.setChannel k
          { (s.channel k).opened source with state := .stepping, quota := (s.channel k).startQuota }) := by
  have hstart : s.deliverStart k source = s.setChannel k
      { (s.channel k).opened source with state := .stepping, quota := (s.channel k).startQuota } := by
    rw [deliverStart_idle hidle, takeStart_steps hcount, startTaken_of_request hsource]
  rw [startChannelAnswer_running hrunning hport, hstart, startOutcome_idle hidle, if_neg hcount, if_pos hidle,
    channel_setChannel, if_pos rfl]
  rfl

theorem startChannelAnswer_empty (hidle : (s.channel k).state = .idle) (hcount : (s.channel k).count = 0) :
    startChannelAnswer p (indexByte k) s =
      .okWith [0x02#8, ChannelState.idle.code, 0x00#8, 0xFF#8] (s.takeStart k source) := by
  have hchannel := takeStart_channel s k source k
  rw [if_pos rfl, Channel.started, if_pos hcount] at hchannel
  rw [startChannelAnswer_running hrunning hport, deliverStart_idle hidle, startOutcome_idle hidle, if_pos hcount,
    if_pos hidle, hchannel]
  simp [Channel.opened, hcount, byteOf, optionByte]

theorem startChannelAnswer_pends (hbusy : (s.channel k).state ≠ .idle) :
    startChannelAnswer p (indexByte k) s =
      .okWith [0x01#8, (s.channel k).state.code, byteOf (s.channel k).count,
        optionByte StartSource.code (s.channel k).pendingStart]
        (s.setChannel k { s.channel k with pendingStart := some source }) := by
  rw [startChannelAnswer_running hrunning hport, deliverStart_busy hbusy, startOutcome_busy hbusy, if_neg hbusy,
    channel_setChannel, if_pos rfl]

end RequestStarts

/-- Settles O32, by the state of the channel and its count. -/
theorem startChannelDeliversAStart : Obligations.StartChannelDeliversAStart := by
  have hpermitted : ∀ p, p = .plant ∨ p = .fleet → RequestKind.startChannel.permitted (Port.role p) = true := by
    rintro p (rfl | rfl) <;> rfl
  refine ⟨fun p b s hp hb htake => exec_turnedAway rfl rfl (hpermitted p hp) htake (startChannelAnswer_outside hb),
    fun p source k s hp htake => ?_⟩
  intro ch
  have hrole := hpermitted p (hp.imp And.left And.left)
  have hport : requestSource p = source := by rcases hp with ⟨rfl, rfl⟩ | ⟨rfl, rfl⟩ <;> rfl
  have hsource : source.OfRequest := hp.imp And.right And.right
  refine ⟨fun hhalted => exec_turnedAway rfl rfl hrole htake (startChannelAnswer_halted hhalted),
    fun hrunning hidle hcount =>
      exec_answered rfl rfl hrole htake (startChannelAnswer_steps hrunning hport hsource hidle hcount),
    fun hrunning hidle hcount => exec_answered rfl rfl hrole htake
      ((startChannelAnswer_empty (s := s.takeOut _ _) hrunning hport hidle hcount).trans ?_),
    fun hrunning hbusy => exec_answered rfl rfl hrole htake (startChannelAnswer_pends hrunning hport hbusy)⟩
  rw [takeStart_empty (s := s.takeOut _ _) hsource hcount, ← hidle]
  rfl

/-! ## PROVISION_CARRIER and DEPROVISION_CARRIER -/

section Provisions
variable {c : CarrierId} {s : State}

theorem asProvision_outside {owner sector branch layer window : Byte}
    (h : 4 ≤ owner.toNat ∨ 6 ≤ sector.toNat ∨ 16 ≤ branch.toNat ∨ 2 ≤ layer.toNat
      ∨ (8 ≤ window.toNat ∧ window.toNat ≠ 255)) : asProvision owner sector branch layer window = none := by
  unfold asProvision
  rcases h with h | h | h | h | h
  · simp [asTenant_outside h]
  · simp [asSector_outside h]
  · simp [asBranch_outside h]
  · have hlayer : asLayer layer = none := asOneOf_outside h
    simp [hlayer]
  · simp [asWindowOrNone_outside h]

theorem asProvision_fields (pv : Provision) :
    asProvision (indexByte pv.owner) (indexByte pv.sector) (indexByte pv.branch) pv.layer.code
      (optionByte indexByte pv.window) = some pv := by
  simp [asProvision]

theorem provisionCarrierAnswer_outside {c owner sector branch layer window : Byte}
    (h : 48 ≤ c.toNat ∨ 4 ≤ owner.toNat ∨ 6 ≤ sector.toNat ∨ 16 ≤ branch.toNat ∨ 2 ≤ layer.toNat
      ∨ (8 ≤ window.toNat ∧ window.toNat ≠ 255)) :
    provisionCarrierAnswer c owner sector branch layer window s = .fail .range s := by
  unfold provisionCarrierAnswer
  rcases h with hc | hfields
  · rw [asCarrier_outside hc]
  · rw [asProvision_outside hfields]
    cases asCarrier c <;> rfl

theorem provisionCarrierAnswer_inside (c : CarrierId) (pv : Provision) (s : State) :
    provisionCarrierAnswer (indexByte c) (indexByte pv.owner) (indexByte pv.sector) (indexByte pv.branch) pv.layer.code
        (optionByte indexByte pv.window) s =
      if (s.carrier c).state ≠ .vacant ∨ (s.branch pv.branch).state ≠ .powered then .fail .state s
      else if Config.memberPlaces ≤ (s.branch pv.branch).members.length then .fail .full s
      else .ok (s.placeCarrier c pv) := by
  rw [provisionCarrierAnswer, asCarrier_indexByte, asProvision_fields]
  by_cases hvacant : (s.carrier c).state = .vacant
  · by_cases hpowered : (s.branch pv.branch).state = .powered
    · simp [hvacant, hpowered]
    · simp [hvacant, hpowered]
  · simp [hvacant]

theorem deprovisionCarrierAnswer_outside {b : Byte} (h : 48 ≤ b.toNat) :
    deprovisionCarrierAnswer b s = .fail .range s := by
  rw [deprovisionCarrierAnswer, asCarrier_outside h]

theorem deprovisionCarrierAnswer_state (h : (s.carrier c).state ≠ .on) :
    deprovisionCarrierAnswer (indexByte c) s = .fail .state s := by
  rw [deprovisionCarrierAnswer, asCarrier_indexByte]
  exact if_neg h

theorem deprovisionCarrierAnswer_removes {pv : Provision} (hpv : (s.carrier c).provision = some pv)
    (h : (s.carrier c).state = .on) :
    deprovisionCarrierAnswer (indexByte c) s =
      .ok ((s.setCarrier c Carrier.vacant).memberRemoved pv.branch c) := by
  rw [deprovisionCarrierAnswer, asCarrier_indexByte]
  refine (if_pos h).trans ?_
  rw [State.removeCarrier, hpv]

end Provisions

/-- Settles O34, by the checks in their order. -/
theorem carriersAreProvisionedAndDeprovisioned : Obligations.CarriersAreProvisionedAndDeprovisioned := by
  refine ⟨⟨fun c owner sector branch layer window s htake h =>
      exec_turnedAway rfl rfl rfl htake (provisionCarrierAnswer_outside h), fun c pv s => ?_⟩,
    fun b s h htake => exec_turnedAway rfl rfl rfl htake (deprovisionCarrierAnswer_outside h),
    fun c s htake => ⟨fun hstate => exec_turnedAway rfl rfl rfl htake (deprovisionCarrierAnswer_state hstate),
      fun pv hpv hon => exec_answered rfl rfl rfl htake (deprovisionCarrierAnswer_removes hpv hon)⟩⟩
  intro window payload htake
  have hanswer := provisionCarrierAnswer_inside c pv (s.takeOut .fleet (requestFrame .provisionCarrier payload))
  refine ⟨?_, fun l hl => ⟨insertIndex_sorted c hl, fun d => mem_insertIndex c d l⟩⟩
  split
  case isTrue hstate => exact exec_turnedAway rfl rfl rfl htake (hanswer.trans (if_pos hstate))
  case isFalse hstate =>
    split
    case isTrue hfull =>
      exact exec_turnedAway rfl rfl rfl htake (hanswer.trans ((if_neg hstate).trans (if_pos hfull)))
    case isFalse hfull =>
      exact exec_answered rfl rfl rfl htake (hanswer.trans ((if_neg hstate).trans (if_neg hfull)))

/-! ## WRITE_CHANNEL -/

section ChannelSettings
variable {s : State}

/-- The checks of the codings and of the pair and its span, which WRITE_CHANNEL makes before it looks at the channel
(R121, R122). -/
theorem writeChannelAnswer_range {k mode pointerMode base count groupSize linkEnable linkTarget notice : Byte}
    (h : asChannel k = none
      ∨ ∀ c, asChannelSetting mode pointerMode base count groupSize linkEnable linkTarget notice = some c →
          c.spanOk = false) :
    writeChannelAnswer k mode pointerMode base count groupSize linkEnable linkTarget notice s = .fail .range s := by
  unfold writeChannelAnswer
  rcases h with hk | hspan
  · rw [hk]
  · cases asChannel k with
    | none => rfl
    | some k =>
      cases hc : asChannelSetting mode pointerMode base count groupSize linkEnable linkTarget notice with
      | none => rfl
      | some c => simp only [hspan c hc, if_true]

theorem writeChannelAnswer_checked {k : ChannelId} {c : ChannelSetting}
    {mode pointerMode base count groupSize linkEnable linkTarget notice : Byte}
    (hc : asChannelSetting mode pointerMode base count groupSize linkEnable linkTarget notice = some c)
    (hspan : c.spanOk = true) :
    writeChannelAnswer (indexByte k) mode pointerMode base count groupSize linkEnable linkTarget notice s =
      if (s.channel k).state = .idle ∧ (s.channel k).pendingStart = none then
        .ok (s.setChannel k ((s.channel k).rewritten c))
      else .fail .busy s := by
  rw [writeChannelAnswer, asChannel_indexByte, hc]
  exact if_neg (by simp [hspan])

theorem asChannelSetting_codes (mode : ChannelMode) (pointerMode : PointerMode) (base count : Byte) {groupSize : Byte}
    (link : Bool) (target : ChannelId) (notice : Bool) (h1 : 1 ≤ groupSize.toNat) (h16 : groupSize.toNat ≤ 16) :
    asChannelSetting mode.code pointerMode.code base count groupSize (flagByte link) (indexByte target)
        (flagByte notice) =
      some { mode := mode, pointerMode := pointerMode, base := base.toNat, count := count.toNat,
             groupSize := groupSize.toNat, linkEnable := link, linkTarget := target, completionNotice := notice } := by
  simp [asChannelSetting, asRange_inside h1 h16]

theorem toNat_of_asChannelMode {b : Byte} {m : ChannelMode} (h : asChannelMode b = some m) :
    b.toNat = m.code.toNat := by
  rcases hb : b.toNat with _ | _ | _ | n <;> simp [asChannelMode, asOneOf, hb] at h <;> subst h <;> rfl

theorem toNat_of_asPointerMode {b : Byte} {m : PointerMode} (h : asPointerMode b = some m) :
    b.toNat = m.code.toNat := by
  rcases hb : b.toNat with _ | _ | _ | n <;> simp [asPointerMode, asOneOf, hb] at h <;> subst h <;> rfl

theorem flagByte_toNat_lt (f : Bool) : (flagByte f).toNat < 2 := by cases f <;> decide

theorem toNat_lt_of_asIndex {n : Nat} {b : Byte} {x : Fin n} (h : asIndex n b = some x) : b.toNat < n := by
  refine Nat.lt_of_not_le fun hb => ?_
  rw [asIndex_outside hb] at h
  cases h

/-- What the codings of a channel's programmed fields say of the bytes (R121). -/
theorem asChannelSetting_eq_some {mode pointerMode base count groupSize linkEnable linkTarget notice : Byte}
    {c : ChannelSetting}
    (h : asChannelSetting mode pointerMode base count groupSize linkEnable linkTarget notice = some c) :
    (c.base = base.toNat ∧ c.count = count.toNat ∧ c.groupSize = groupSize.toNat)
      ∧ mode.toNat = c.mode.code.toNat ∧ pointerMode.toNat = c.pointerMode.code.toNat
      ∧ 1 ≤ groupSize.toNat ∧ groupSize.toNat ≤ 16 ∧ linkEnable.toNat < 2 ∧ linkTarget.toNat < 8
      ∧ notice.toNat < 2 := by
  simp only [asChannelSetting, Option.bind_eq_bind, Option.bind_eq_some_iff, Option.some.injEq] at h
  obtain ⟨m, hm, pm, hpm, size, hsize, enable, henable, target, htarget, done, hdone, rfl⟩ := h
  obtain ⟨hlow, hhigh⟩ := asRange_bounds hsize
  obtain ⟨rfl, -⟩ := asRange_eq_some hsize
  refine ⟨⟨rfl, rfl, rfl⟩, toNat_of_asChannelMode hm, toNat_of_asPointerMode hpm, hlow, hhigh, ?_,
    toNat_lt_of_asIndex htarget, ?_⟩
  · rw [eq_flagByte_of_asFlag henable]
    exact flagByte_toNat_lt enable
  · rw [eq_flagByte_of_asFlag hdone]
    exact flagByte_toNat_lt done

/-- A pair that is not legal, or a span that goes past the Rest List, fails the second check of R121. -/
theorem spanOk_eq_false {c : ChannelSetting}
    (h : (c.mode.code.toNat = 0 ∧ c.pointerMode.code.toNat = 2) ∨ (c.mode.code.toNat = 1 ∧ c.pointerMode.code.toNat ≠ 0)
      ∨ (c.mode.code.toNat = 2 ∧ c.pointerMode.code.toNat = 1)
      ∨ (c.count ≠ 0
        ∧ ((c.mode.code.toNat ≤ 1 ∧ c.pointerMode.code.toNat = 0 ∧ 256 < c.base + c.count)
          ∨ (c.mode.code.toNat = 2 ∧ c.pointerMode.code.toNat = 0 ∧ 256 < c.base + c.count * c.groupSize)
          ∨ (c.mode.code.toNat = 2 ∧ c.pointerMode.code.toNat = 2 ∧ 256 < c.base + c.groupSize)))) :
    c.spanOk = false := by
  unfold ChannelSetting.spanOk ChannelSetting.spanLength
  cases hmode : c.mode <;> cases hpointer : c.pointerMode <;>
    simp [hmode, hpointer, ChannelMode.code, PointerMode.code] at h ⊢ <;> omega

/-- A legal pair whose span fits passes it. -/
theorem spanOk_eq_true {c : ChannelSetting}
    (h : (c.mode = .one ∧ c.pointerMode = .advance ∧ (c.count = 0 ∨ c.base + c.count ≤ 256))
      ∨ (c.mode = .one ∧ c.pointerMode = .hold)
      ∨ (c.mode = .all ∧ c.pointerMode = .advance ∧ (c.count = 0 ∨ c.base + c.count ≤ 256))
      ∨ (c.mode = .group ∧ c.pointerMode = .advance ∧ (c.count = 0 ∨ c.base + c.count * c.groupSize ≤ 256))
      ∨ (c.mode = .group ∧ c.pointerMode = .rewind ∧ (c.count = 0 ∨ c.base + c.groupSize ≤ 256)))
    (hbase : c.base ≤ 256) : c.spanOk = true := by
  unfold ChannelSetting.spanOk ChannelSetting.spanLength
  rcases h with ⟨hm, hp, h⟩ | ⟨hm, hp⟩ | ⟨hm, hp, h⟩ | ⟨hm, hp, h⟩ | ⟨hm, hp, h⟩ <;>
    simp_all

end ChannelSettings

/-- Settles O39, by the codings, the legal pairs and the state of the channel. -/
theorem writeChannelReplacesThePlan : Obligations.WriteChannelReplacesThePlan := by
  refine ⟨fun k mode pointerMode base count groupSize linkEnable linkTarget notice s => ?_,
    fun k mode pointerMode base count groupSize link target notice s => ?_⟩
  · intro payload htake h
    refine exec_turnedAway rfl rfl rfl htake (writeChannelAnswer_range ?_)
    rcases h with hk | h
    · exact .inl (asChannel_outside hk)
    · refine .inr fun c hc => ?_
      obtain ⟨⟨hbase, hcount, hsize⟩, hmode, hpointer, hlow, hhigh, henable, htarget, hdone⟩ :=
        asChannelSetting_eq_some hc
      have hmodes : c.mode.code.toNat < 3 := by cases c.mode <;> decide
      have hpointers : c.pointerMode.code.toNat < 3 := by cases c.pointerMode <;> decide
      refine spanOk_eq_false ?_
      rw [hbase, hcount, hsize, ← hmode, ← hpointer]
      rw [← hmode] at hmodes
      rw [← hpointer] at hpointers
      rcases h with h | h | h | h | h | h | h | h
      all_goals omega
  · intro payload htake h1 h16 hlegal
    have hanswer := writeChannelAnswer_checked (s := s.takeOut .fleet (requestFrame .writeChannel payload)) (k := k)
      (asChannelSetting_codes mode pointerMode base count link target notice h1 h16)
      (spanOk_eq_true hlegal (Nat.le_of_lt base.isLt))
    split
    case isTrue hidle => exact exec_answered rfl rfl rfl htake (hanswer.trans (if_pos hidle))
    case isFalse hbusy => exact exec_turnedAway rfl rfl rfl htake (hanswer.trans (if_neg hbusy))

/-! ## The cause slots and the event inputs: CLEAR_CAUSE, MAP_CAUSE, SET_INPUT -/

section CauseRequests
variable {s : State}

theorem clearCauseAnswer_outside {k : Byte} (h : 16 ≤ k.toNat) : clearCauseAnswer k s = .fail .range s := by
  rw [clearCauseAnswer, asSlot_outside h]

theorem clearCauseAnswer_inside (k : SlotId) (s : State) :
    clearCauseAnswer (indexByte k) s = if (s.slot k).flag = false then .fail .already s
      else .ok (s.setSlot k { s.slot k with flag := false }) := by
  rw [clearCauseAnswer, asSlot_indexByte]

theorem mapCauseAnswer_range {k target enable disarm : Byte}
    (h : 16 ≤ k.toNat ∨ 8 ≤ target.toNat ∨ 2 ≤ enable.toNat ∨ 2 ≤ disarm.toNat) :
    mapCauseAnswer k target enable disarm s = .fail .range s := by
  unfold mapCauseAnswer
  rcases h with h | h | h | h
  · rw [asSlot_outside h]
  · rw [asChannel_outside h]
    cases asSlot k <;> rfl
  · rw [asFlag_outside h]
    cases asSlot k <;> cases asChannel target <;> rfl
  · rw [asFlag_outside h]
    cases asSlot k <;> cases asChannel target <;> cases asFlag enable <;> rfl

/-- The slot with the three fields of MAP_CAUSE (R149). -/
def CauseSlot.mappedTo (slot : CauseSlot) (target : ChannelId) (enable disarm : Bool) : CauseSlot :=
  { slot with target := target, startEnable := enable, disarm := disarm }

section Mapped
variable {k : SlotId} {target : ChannelId} {enable disarm : Bool}

/-- The state with the slot mapped, before the start that may follow. -/
def State.mapSlot (s : State) (k : SlotId) (target : ChannelId) (enable disarm : Bool) : State :=
  s.setSlot k ((s.slot k).mappedTo target enable disarm)

theorem mapSlot_slot : (s.mapSlot k target enable disarm).slot k = (s.slot k).mappedTo target enable disarm := by
  simp [State.mapSlot]

/-- The reply of MAP_CAUSE, by the state it leaves. -/
theorem mapCauseAnswer_codes {mapped : State}
    (h : (s.mapSlot k target enable disarm).startMapped k (s.slot k).startEnable = mapped) :
    mapCauseAnswer (indexByte k) (indexByte target) (flagByte enable) (flagByte disarm) s =
      .okWith [indexByte (s.slot k).target, flagByte (s.slot k).startEnable, flagByte (s.slot k).disarm,
        flagByte (mapped.slot k).flag] mapped := by
  rw [mapCauseAnswer, asSlot_indexByte, asChannel_indexByte, asFlag_flagByte, asFlag_flagByte, ← h]
  rfl

theorem startMapped_none (h : (s.slot k).startEnable = true ∨ enable = false ∨ (s.slot k).flag = false
    ∨ s.halted = true) :
    (s.mapSlot k target enable disarm).startMapped k (s.slot k).startEnable = s.mapSlot k target enable disarm := by
  refine if_neg ?_
  rw [mapSlot_slot]
  rintro ⟨hold, henable, hflag, hrunning⟩
  rcases h with h | h | h | h
  · exact absurd (h.symm.trans hold) (by decide)
  · exact absurd (h.symm.trans henable) (by decide)
  · exact absurd (h.symm.trans hflag) (by decide)
  · exact absurd (h.symm.trans hrunning) (by decide)

theorem startMapped_starts (hold : (s.slot k).startEnable = false) (henable : enable = true)
    (hflag : (s.slot k).flag = true) (hrunning : s.halted = false) :
    (s.mapSlot k target enable disarm).startMapped k (s.slot k).startEnable =
      (s.mapSlot k target enable disarm).deliverStart target (.cause k) := by
  have hstarts : (s.slot k).startEnable = false ∧ ((s.mapSlot k target enable disarm).slot k).startEnable = true
      ∧ ((s.mapSlot k target enable disarm).slot k).flag = true
      ∧ (s.mapSlot k target enable disarm).halted = false := by
    rw [mapSlot_slot]
    exact ⟨hold, henable, hflag, hrunning⟩
  rw [State.startMapped, if_pos hstarts, mapSlot_slot]
  rfl

/-- A start that is taken clears the flag of its cause, and one that waits leaves it (R124, R147). -/
theorem deliverStart_flag {t : ChannelId} (h : (s.slot k).flag = true) :
    ((s.deliverStart t (.cause k)).slot k).flag = decide ((s.channel t).state ≠ .idle) := by
  by_cases hidle : (s.channel t).state = .idle
  · have hcleared : (s.startTaken (.cause k)).slot k = { s.slot k with flag := false } := by
      simp [State.startTaken]
    rw [deliverStart_idle hidle]
    by_cases hcount : (s.channel t).count = 0
    · obtain ⟨-, -, -, -, -, -, -, -, -, -, -, -, -, hslots, -⟩ := takeStart_closes hcount (.cause k)
      rw [hslots, hcleared]
      split <;> simp [hidle]
    · rw [takeStart_steps hcount]
      simp [State.startTaken, hidle]
  · rw [deliverStart_busy hidle]
    simp [h, hidle]

end Mapped

theorem asInputSetting_outside {edge role level tenants sectors : Byte}
    (h : 4 ≤ edge.toNat ∨ 2 ≤ role.toNat ∨ level.toNat = 0 ∨ 7 < level.toNat ∨ 16 ≤ tenants.toNat
      ∨ 64 ≤ sectors.toNat) : asInputSetting edge role level tenants sectors = none := by
  unfold asInputSetting
  rcases h with h | h | h | h | h | h
  · have hedge : asEdgeMode edge = none := asOneOf_outside h
    simp [hedge]
  · have hrole : asInputRole role = none := asOneOf_outside h
    simp [hrole]
  · simp [asLevel_outside (.inl h)]
  · simp [asLevel_outside (.inr h)]
  · simp [asSet_outside (n := 4) h]
  · simp [asSet_outside (n := 6) h]

theorem asInputSetting_fields {setting : InputSetting} (h1 : 1 ≤ setting.level) (h7 : setting.level ≤ 7) :
    asInputSetting setting.edgeMode.code setting.role.code (byteOf setting.level) (setByte setting.tenantMask)
      (setByte setting.sectorMask) = some setting := by
  have hlevel : asLevel (byteOf setting.level) = some setting.level := by
    have hbyte : (byteOf setting.level).toNat = setting.level := byteOf_toNat (by omega)
    rw [asLevel_inside (by omega) (by omega), hbyte]
  simp [asInputSetting, hlevel, asSet_setByte]

theorem setInputAnswer_range {i edge role level tenants sectors : Byte}
    (h : 8 ≤ i.toNat ∨ 4 ≤ edge.toNat ∨ 2 ≤ role.toNat ∨ level.toNat = 0 ∨ 7 < level.toNat ∨ 16 ≤ tenants.toNat
      ∨ 64 ≤ sectors.toNat) : setInputAnswer i edge role level tenants sectors s = .fail .range s := by
  unfold setInputAnswer
  rcases h with h | h
  · rw [asInput_outside h]
  · rw [asInputSetting_outside h]
    cases asInput i <;> rfl

theorem setInputAnswer_replaces (i : InputId) {setting : InputSetting} (h1 : 1 ≤ setting.level)
    (h7 : setting.level ≤ 7) :
    setInputAnswer (indexByte i) setting.edgeMode.code setting.role.code (byteOf setting.level)
        (setByte setting.tenantMask) (setByte setting.sectorMask) s =
      .okWith [(s.input i).edgeMode.code, (s.input i).role.code, byteOf (s.input i).level,
        setByte (s.input i).tenantMask, setByte (s.input i).sectorMask, flagByte (s.ev i)] (s.setInput i setting) := by
  rw [setInputAnswer, asInput_indexByte, asInputSetting_fields h1 h7]

end CauseRequests

/-- Settles O41, by the codings and, for MAP_CAUSE, by whether a start follows. -/
theorem theCauseUnitIsSet : Obligations.TheCauseUnitIsSet := by
  refine ⟨⟨fun k s h htake => exec_turnedAway rfl rfl rfl htake (clearCauseAnswer_outside h), fun k s htake => ?_,
      fun k target enable disarm s htake h => exec_turnedAway rfl rfl rfl htake (mapCauseAnswer_range h),
      fun k target enable disarm s => ?_⟩,
    fun i edge role level tenants sectors s htake h => exec_turnedAway rfl rfl rfl htake (setInputAnswer_range h),
    fun i setting s => ?_⟩
  · have hanswer := clearCauseAnswer_inside k (s.takeOut .fleet (requestFrame .clearCause [indexByte k]))
    split
    case isTrue hclear => exact exec_turnedAway rfl rfl rfl htake (hanswer.trans (if_pos hclear))
    case isFalse hset => exact exec_answered rfl rfl rfl htake (hanswer.trans (if_neg hset))
  · intro payload htake old reply mapped
    refine ⟨fun h => exec_answered rfl rfl rfl htake
        ((mapCauseAnswer_codes (s := s.takeOut _ _) (startMapped_none h)).trans ?_),
      fun hold henable hflag hrunning => exec_answered rfl rfl rfl htake
        ((mapCauseAnswer_codes (s := s.takeOut _ _) (startMapped_starts hold henable hflag hrunning)).trans ?_)⟩
    · rw [mapSlot_slot]
      rfl
    · have hset : (((s.takeOut .fleet (requestFrame .mapCause payload)).mapSlot k target enable disarm).slot k).flag
          = true := by
        rw [mapSlot_slot]
        exact hflag
      rw [deliverStart_flag hset]
      rfl
  · intro payload htake h1 h7
    exact exec_answered rfl rfl rfl htake (setInputAnswer_replaces i h1 h7)

end Sys2Proof.Machine

/-!
SUPPORT. The bytes of the images (R201) and the reads that carry them: O42. The rest hold and the settings that move it:
O30.
-/
namespace Sys2Proof.Machine
open Sys2Proof

/-! ## Places of an image -/

/-- A list in a fixed number of places, by its places: those it does not fill are 0xFF (R201). -/
theorem places_eq {α : Type} (code : α → Byte) (l : List α) (n : Nat) :
    (List.range n).map (fun i => optionByte code l[i]?) = (l.map code ++ List.replicate n 0xFF#8).take n := by
  induction n generalizing l with
  | zero => rfl
  | succ n ih =>
    rw [List.range_succ_eq_map, List.map_cons, List.map_map]
    cases l with
    | nil => simp [Function.comp_def, optionByte, List.replicate_succ, List.map_const']
    | cons x l =>
      have htail := ih l
      simp only [List.map_cons, List.cons_append, List.take_succ_cons]
      have htake : (l.map code ++ List.replicate (n + 1) 0xFF#8).take n
          = (l.map code ++ List.replicate n 0xFF#8).take n := by
        simp only [List.take_append, List.take_replicate]
        congr 2
        omega
      rw [htake, ← htail]
      rfl

/-- The same, with two bytes to a place. -/
theorem pairPlaces_eq {α : Type} (first second : α → Byte) (l : List α) (n : Nat) :
    (List.range n).flatMap (fun i => (l[i]?).elim [0xFF#8, 0xFF#8] (fun x => [first x, second x]))
      = (l.flatMap (fun x => [first x, second x]) ++ List.replicate (2 * n) 0xFF#8).take (2 * n) := by
  induction n generalizing l with
  | zero => rfl
  | succ n ih =>
    rw [List.range_succ_eq_map, List.flatMap_cons, List.flatMap_map]
    have hlength : 2 * (n + 1) = 2 * n + 1 + 1 := by omega
    cases l with
    | nil => simpa [hlength, List.replicate_succ] using ih []
    | cons x l =>
      have htake : (l.flatMap (fun x => [first x, second x]) ++ List.replicate (2 * n + 1 + 1) 0xFF#8).take (2 * n)
          = (l.flatMap (fun x => [first x, second x]) ++ List.replicate (2 * n) 0xFF#8).take (2 * n) := by
        simp only [List.take_append, List.take_replicate]
        congr 2
        omega
      simp only [hlength, List.flatMap_cons, List.cons_append, List.nil_append, List.take_succ_cons, htake, ← ih]
      rfl

/-! ## Bits of an image -/

/-- A value above the bits of another is or-ed to it as it is added. -/
theorem byteOf_or_fieldAt {a n : Nat} (h : a < 2 ^ n) (hn : n ≤ 8) (y : Byte) :
    byteOf a ||| fieldAt n y = byteOf (a + y.toNat * 2 ^ n) := by
  refine BitVec.eq_of_toNat_eq ?_
  have ha : a % 2 ^ 8 = a := Nat.mod_eq_of_lt (Nat.lt_of_lt_of_le h (Nat.pow_le_pow_right (by decide) hn))
  have hor : a ||| y.toNat <<< n = a + y.toNat * 2 ^ n := by
    rw [Nat.or_comm, Nat.add_comm, ← Nat.shiftLeft_eq, Nat.shiftLeft_add_eq_or_of_lt h]
  rw [fieldAt, byteOf, byteOf, BitVec.toNat_or, BitVec.toNat_shiftLeft, BitVec.toNat_ofNat, BitVec.toNat_ofNat, ← hor,
    Nat.or_mod_two_pow, ha]

/-- A bit of an image, by its weight. -/
def bitValue (place : Nat) (set : Bool) : Nat := if set then 2 ^ place else 0

theorem byteOf_or_flag {a n : Nat} (h : a < 2 ^ n) (hn : n ≤ 8) (set : Bool) :
    byteOf a ||| fieldAt n (flagByte set) = byteOf (a + bitValue n set) := by
  rw [byteOf_or_fieldAt h hn]
  cases set <;> simp [flagByte, bitValue]

theorem bitValue_le (n : Nat) (set : Bool) : bitValue n set ≤ 2 ^ n := by
  cases set <;> simp [bitValue]

theorem byteOf_toNat_self (b : Byte) : byteOf b.toNat = b := by
  simp [byteOf]

/-- The fields of two bits, three bits and one bit of the images. -/
theorem edgeMode_code_lt (m : EdgeMode) : m.code.toNat < 4 := by cases m <;> decide
theorem inputRole_code_lt (r : InputRole) : r.code.toNat < 2 := by cases r <;> decide
theorem holdMode_code_lt (m : HoldMode) : m.code.toNat < 4 := by cases m <;> decide

theorem slotImage_eq (r : CauseSlot) :
    r.image = byteOf (r.target.val + bitValue 3 r.startEnable + bitValue 4 r.disarm + bitValue 5 r.flag) := by
  have hstart := bitValue_le 3 r.startEnable
  have hdisarm := bitValue_le 4 r.disarm
  have htarget := r.target.isLt
  rw [CauseSlot.image, indexByte, byteOf_or_flag (n := 3) (by omega) (by omega),
    byteOf_or_flag (n := 4) (by omega) (by omega), byteOf_or_flag (n := 5) (by omega) (by omega)]

theorem inputImage_eq (r : InputSetting) (high : Bool) :
    inputImage r high = [byteOf (r.edgeMode.code.toNat + r.role.code.toNat * 4 + bitValue 3 high + r.level * 16),
      setByte r.tenantMask, setByte r.sectorMask] := by
  have hedge := edgeMode_code_lt r.edgeMode
  have hrole := inputRole_code_lt r.role
  have hhigh := bitValue_le 3 high
  have hlevel : ∀ a, byteOf (a + (byteOf r.level).toNat * 2 ^ 4) = byteOf (a + r.level * 16) := fun a => by
    refine BitVec.eq_of_toNat_eq ?_
    simp only [byteOf, BitVec.toNat_ofNat]
    omega
  rw [inputImage, ← byteOf_toNat_self r.edgeMode.code, byteOf_or_fieldAt (n := 2) (by simpa using hedge) (by omega),
    byteOf_or_flag (n := 3) (by simp; omega) (by omega), byteOf_or_fieldAt (n := 4) (by simp; omega) (by omega), hlevel]
  simp [byteOf]

theorem holdImage_eq (u : CauseUnit) :
    u.holdImage = byteOf (u.holdMode.code.toNat + bitValue 2 u.holdInvert + bitValue 3 u.holdawk
      + bitValue 4 u.restHold) := by
  have hmode := holdMode_code_lt u.holdMode
  have hinvert := bitValue_le 2 u.holdInvert
  have hawk := bitValue_le 3 u.holdawk
  have hcode : u.holdImage = byteOf u.holdMode.code.toNat ||| fieldAt 2 (flagByte u.holdInvert)
      ||| fieldAt 3 (flagByte u.holdawk) ||| fieldAt 4 (flagByte u.restHold) := by
    rw [byteOf_toNat_self, CauseUnit.holdImage]
  rw [hcode, byteOf_or_flag (n := 2) (by omega) (by omega), byteOf_or_flag (n := 3) (by omega) (by omega),
    byteOf_or_flag (n := 4) (by omega) (by omega)]

/-- The source of an output and its channel, in the six bits of an image (R201). -/
def OutputSource.bits : OutputSource → Nat
  | .none => 0
  | .halt => 1
  | .faults => 2
  | .raising => 3
  | .hold => 4
  | .done k => 5 + k.val * 8

theorem outputImage_eq (r : Output) (high : Bool) : outputImage r high = byteOf (r.source.bits + bitValue 6 high) := by
  have hbits : r.source.code ||| fieldAt 3 ((sourceChannel r.source).elim 0x00#8 indexByte) = byteOf r.source.bits := by
    cases r.source with
    | done k =>
      have hk : (indexByte k).toNat = k.val := indexByte_toNat k (by decide)
      have hor := byteOf_or_fieldAt (a := 5) (n := 3) (by decide) (by decide) (indexByte k)
      rw [hk] at hor
      exact hor
    | none => rfl
    | halt => rfl
    | faults => rfl
    | raising => rfl
    | hold => rfl
  have hlt : r.source.bits < 2 ^ 6 := by
    cases r.source with
    | done k =>
      have := k.isLt
      simp only [OutputSource.bits]
      omega
    | none => decide
    | halt => decide
    | faults => decide
    | raising => decide
    | hold => decide
  rw [outputImage, hbits, byteOf_or_flag hlt (by decide)]

/-! ## The images (R201) -/

section Images
variable (s : State)

theorem branchImage_eq (b : BranchId) : s.branchImage b =
    [indexByte b, (s.branch b).state.code, (s.branch b).lineMode.code, byteOf (s.branch b).members.length]
    ++ (List.range 6).map (fun i => optionByte indexByte (s.branch b).members[i]?)
    ++ [byteOf (s.branch b).raiseLevel] ++ optionSecond (s.branch b).lingerDeadline
    ++ [flagByte (s.branch b).lingerExpired] ++ optionSecond (s.branch b).rampDeadline
    ++ [flagByte (s.branch b).wakeSeen, (s.branch b).grant.code, flagByte (s.ben b), flagByte (s.bgd b)]
    ++ twoBytes s.ctrl.linger ++ [byteOf s.ctrl.rampDown, byteOf s.ctrl.rampUp] := by
  rw [places_eq]
  rfl

theorem causesImage_eq : s.causesImage =
    slotIds.map (fun k => byteOf ((s.slot k).target.val + bitValue 3 (s.slot k).startEnable
      + bitValue 4 (s.slot k).disarm + bitValue 5 (s.slot k).flag))
    ++ inputIds.flatMap (fun i =>
      [byteOf ((s.input i).edgeMode.code.toNat + (s.input i).role.code.toNat * 4 + bitValue 3 (s.ev i)
        + (s.input i).level * 16), setByte (s.input i).tenantMask, setByte (s.input i).sectorMask])
    ++ [byteOf (s.lines.holdMode.code.toNat + bitValue 2 s.lines.holdInvert + bitValue 3 s.lines.holdawk
        + bitValue 4 s.lines.restHold)]
    ++ outputIds.map (fun o => byteOf ((s.output o).source.bits + bitValue 6 (s.eo o))) := by
  simp only [State.causesImage, slotImage_eq, inputImage_eq, holdImage_eq, outputImage_eq]

theorem snapshotBytes_eq (snapshot : List (CarrierId × CarrierState)) :
    snapshotBytes snapshot = (List.range 6).flatMap (fun i =>
      (snapshot[i]?).elim [0xFF#8, 0xFF#8] (fun m => [indexByte m.1, m.2.code])) :=
  (pairPlaces_eq (fun m : CarrierId × CarrierState => indexByte m.1) (fun m => m.2.code) snapshot 6).symm

end Images

/-! ## The reads -/

section Reads
variable {s : State}

theorem readBranchAnswer_outside {b : Byte} (h : 16 ≤ b.toNat) : readBranchAnswer b s = .fail .range s := by
  rw [readBranchAnswer, asBranch_outside h]

theorem readWindowAnswer_outside {w : Byte} (h : 8 ≤ w.toNat) : readWindowAnswer w s = .fail .range s := by
  rw [readWindowAnswer, asWindow_outside h]

theorem readChannelAnswer_outside {k : Byte} (h : 8 ≤ k.toNat) : readChannelAnswer k s = .fail .range s := by
  rw [readChannelAnswer, asChannel_outside h]

theorem readFaultsAnswer_outside {depth : Byte} (h : 7 < depth.toNat) : readFaultsAnswer depth s = .fail .range s := by
  rw [readFaultsAnswer, asRange_outside (.inr h)]

theorem readCarrierAnswer_inside (c : CarrierId) : readCarrierAnswer (indexByte c) s = .okWith (s.carrierImage c) s := by
  rw [readCarrierAnswer, asCarrier_indexByte]

theorem readBranchAnswer_inside (b : BranchId) : readBranchAnswer (indexByte b) s = .okWith (s.branchImage b) s := by
  rw [readBranchAnswer, asBranch_indexByte]

theorem readWindowAnswer_inside (w : WindowId) : readWindowAnswer (indexByte w) s = .okWith (s.windowImage w) s := by
  rw [readWindowAnswer, asWindow_indexByte]

theorem readChannelAnswer_inside (k : ChannelId) : readChannelAnswer (indexByte k) s = .okWith (s.channelImage k) s := by
  rw [readChannelAnswer, asChannel_indexByte]

theorem readFaultsAnswer_record {depth : Byte} {r : FaultRecord} (h : depth.toNat ≤ 7)
    (hr : s.stack.records[depth.toNat]? = some r) :
    readFaultsAnswer depth s = .okWith (s.faultImage depth.toNat r) s := by
  rw [readFaultsAnswer, asRange_inside (Nat.zero_le _) h]
  simp only [hr]

theorem readFaultsAnswer_empty {depth : Byte} (h : depth.toNat ≤ 7) (hr : s.stack.records.length ≤ depth.toNat) :
    readFaultsAnswer depth s = .fail .state s := by
  rw [readFaultsAnswer, asRange_inside (Nat.zero_le _) h]
  simp only [List.getElem?_eq_none hr]

end Reads

/-- A reply touches the port it is placed on, and nothing else. -/
theorem answered_id_frame (s : State) (p : Port) (k : RequestKind) (payload : List Byte) (status : Status)
    (reply : List Byte) :
    BlocksKept s (s.answered p k payload id status reply) ∧ OtherPortsKept p s (s.answered p k payload id status reply) := by
  refine ⟨⟨rfl, rfl, rfl, rfl, rfl, rfl, rfl, rfl⟩, fun q hq => ?_⟩
  rw [State.answered, port_placeReply, if_neg hq]
  exact otherPortsKept_setPort _ _ _ q hq

theorem readChannel_permitted {p : Port} (h : p.role ≠ .tenant) :
    RequestKind.readChannel.permitted p.role = true ∧ RequestKind.readCauses.permitted p.role = true
      ∧ RequestKind.readFaults.permitted p.role = true := by
  cases p with
  | tenant t => exact absurd rfl h
  | plant => exact ⟨rfl, rfl, rfl⟩
  | fleet => exact ⟨rfl, rfl, rfl⟩

theorem read_permitted (p : Port) :
    RequestKind.readSite.permitted p.role = true ∧ RequestKind.readCarrier.permitted p.role = true
      ∧ RequestKind.readBranch.permitted p.role = true ∧ RequestKind.readWindow.permitted p.role = true := by
  cases p <;> exact ⟨rfl, rfl, rfl, rfl⟩

/-- Settles O42, image by image and read by read. -/
theorem readsCarryTheImageAndChangeNothing : Obligations.ReadsCarryTheImageAndChangeNothing := by
  refine ⟨fun s => ?_, fun p s => ?_⟩
  · intro lost windowSet bit
    refine ⟨?_, ?_, ?_, ?_, fun c => ?_, fun b => branchImage_eq s b, fun w => ?_, fun k => ?_, ?_,
      fun depth kind b time snapshot => ?_, fun depth c time settled => ?_⟩
    · unfold haltStateCode
      split <;> decide
    · unfold haltStateCode
      split <;> decide
    · unfold haltStateCode
      split <;> decide
    · rw [State.siteImage]
      rcases s.stack.halt with _ | ⟨⟨_ | _ | _ | _⟩ | _, time⟩ <;>
        simp [lost, optionByte, optionSecond, HaltReason.code, HaltReason.lost, Failure.kindCode, Failure.subjectCode, indexByte]
    · rw [State.carrierImage]
      cases (s.carrier c).provision <;> simp [optionByte]
    · rw [State.windowImage]
      cases (s.window w).state <;> simp [windowSet, WindowSet.image, WindowState.code]
    · intro ch
      have hpending : flagByte ch.pendingStart.isSome = if ch.pendingStart = none then 0x00#8 else 0x01#8 := by
        cases ch.pendingStart <;> rfl
      have hwaiting : optionByte indexByte (if ch.state = .blocked then ch.waiting else none)
          = if ch.state = .blocked then optionByte indexByte ch.waiting else 0xFF#8 := by
        split <;> rfl
      rw [← hpending, ← hwaiting]
      rfl
    · rw [causesImage_eq]
      have hbits : ∀ o, (s.output o).source.bits = match (s.output o).source with
          | .none => 0
          | .halt => 1
          | .faults => 2
          | .raising => 3
          | .hold => 4
          | .done k => 5 + k.val * 8 := fun o => by cases (s.output o).source <;> rfl
      simp only [hbits]
      rfl
    · rw [State.faultImage, FaultRecord.image, snapshotBytes_eq]
      have hplaces : ∀ i : Nat, (snapshot[i]?).elim [0xFF#8, 0xFF#8] (fun m => [indexByte m.1, m.2.code])
          = match snapshot[i]? with
            | none => [0xFF#8, 0xFF#8]
            | some member => [indexByte member.1, member.2.code] := fun i => by cases snapshot[i]? <;> rfl
      simp only [hplaces, List.append_assoc]
      cases kind <;> rfl
    · rfl
  · obtain ⟨hsite, hcarrier, hbranch, hwindow⟩ := read_permitted p
    refine ⟨fun htake => exec_answered rfl rfl hsite htake rfl,
      fun c htake => exec_answered rfl rfl hcarrier htake (readCarrierAnswer_inside c),
      fun b htake => exec_answered rfl rfl hbranch htake (readBranchAnswer_inside b),
      fun w htake => exec_answered rfl rfl hwindow htake (readWindowAnswer_inside w), fun hrole => ?_,
      fun c h htake => exec_turnedAway rfl rfl hcarrier htake (readCarrierAnswer_outside h _),
      fun b h htake => exec_turnedAway rfl rfl hbranch htake (readBranchAnswer_outside h),
      fun w h htake => exec_turnedAway rfl rfl hwindow htake (readWindowAnswer_outside h),
      fun k payload status reply _ => answered_id_frame s p k payload status reply⟩
    obtain ⟨hchannel, hcauses, hfaults⟩ := readChannel_permitted hrole
    exact ⟨fun k htake => exec_answered rfl rfl hchannel htake (readChannelAnswer_inside k),
      fun htake => exec_answered rfl rfl hcauses htake rfl,
      fun depth h htake =>
        ⟨fun r hr => exec_answered rfl rfl hfaults htake (readFaultsAnswer_record (s := s.takeOut _ _) h hr),
          fun hr => exec_turnedAway rfl rfl hfaults htake (readFaultsAnswer_empty h hr)⟩,
      fun depth h htake => exec_turnedAway rfl rfl hfaults htake (readFaultsAnswer_outside h),
      fun k h htake => exec_turnedAway rfl rfl hchannel htake (readChannelAnswer_outside h)⟩

/-! ## The end of the rest hold (R59) -/

/-- The record after the end of the rest hold: a SETTLING branch whose linger expired lowers. -/
def Branch.released (r : Branch) (deadline : Nat) : Branch :=
  if r.state = .settling ∧ r.lingerExpired = true then { r.enter .lowering with rampDeadline := some deadline } else r

theorem setBranch_branch_self (s : State) (b : BranchId) : s.setBranch b (s.branch b) = s := by
  simp [State.setBranch, State.branch]

theorem lowerIfHeld_eq (s : State) (b : BranchId) :
    s.lowerIfHeld b = s.setBranch b ((s.branch b).released (secondsAfter s.now s.ctrl.rampDown)) := by
  unfold State.lowerIfHeld Branch.released
  split
  · rfl
  · rw [setBranch_branch_self]

/-- The end of the hold, branch by branch of a list. -/
theorem foldl_lowerIfHeld (l : List BranchId) (hl : l.Nodup) (s : State) :
    (l.foldl (fun u b => u.lowerIfHeld b) s).lines = s.lines
      ∧ ∀ b, (l.foldl (fun u b => u.lowerIfHeld b) s).branch b =
          if b ∈ l then (s.branch b).released (secondsAfter s.now s.ctrl.rampDown) else s.branch b := by
  induction l generalizing s with
  | nil => exact ⟨rfl, fun b => rfl⟩
  | cons c l ih =>
    obtain ⟨hc, hl⟩ := List.nodup_cons.mp hl
    rw [List.foldl_cons, lowerIfHeld_eq]
    obtain ⟨hlines, hbranch⟩ := ih hl (s.setBranch c ((s.branch c).released (secondsAfter s.now s.ctrl.rampDown)))
    refine ⟨hlines, fun b => ?_⟩
    rw [hbranch, branch_setBranch, setBranch_now, setBranch_ctrl_rampDown]
    by_cases hb : b = c
    · simp [hb, hc]
    · simp [hb]

theorem endRestHold_lines (s : State) : s.endRestHold.lines = { s.lines with restHold := false } :=
  (foldl_lowerIfHeld branchIds (List.nodup_finRange 16) (s.setRestHold false)).1

theorem endRestHold_branch (s : State) (b : BranchId) :
    s.endRestHold.branch b = (s.branch b).released (secondsAfter s.now s.ctrl.rampDown) := by
  have hbranch := (foldl_lowerIfHeld branchIds (List.nodup_finRange 16) (s.setRestHold false)).2 b
  exact hbranch.trans (if_pos (List.mem_finRange b))

theorem holdBecomes_restHold (s : State) (inEffect : Bool) : (s.holdBecomes inEffect).lines.restHold = inEffect := by
  unfold State.holdBecomes
  split
  · next h => rw [endRestHold_lines, h.2]
  · rfl

/-! ## SET_HOLD_MODE and CLEAR_HOLD -/

section HoldRequests
variable {s : State}

theorem asHoldMode_outside {b : Byte} (h : 3 < b.toNat) : asHoldMode b = none := asOneOf_outside h

theorem setHoldModeAnswer_range {mode invert : Byte} (h : 3 < mode.toNat ∨ 1 < invert.toNat) :
    setHoldModeAnswer mode invert s = .fail .range s := by
  unfold setHoldModeAnswer
  rcases h with h | h
  · rw [asHoldMode_outside h]
  · rw [asFlag_outside h]
    cases asHoldMode mode <;> rfl

/-- The state with another mode and invert, before the hold is recomputed (R154). -/
def State.withHoldMode (s : State) (mode : HoldMode) (invert : Bool) : State :=
  { s with lines := { s.lines with holdMode := mode, holdInvert := invert } }

theorem setHoldModeAnswer_replaces (mode : HoldMode) (invert : Bool) :
    setHoldModeAnswer mode.code (flagByte invert) s =
      .okWith [s.lines.holdMode.code, flagByte s.lines.holdInvert,
        flagByte (decide (mode ≠ .off) && (s.lines.holdawk != invert))]
        ((s.withHoldMode mode invert).holdBecomes (decide (mode ≠ .off) && (s.lines.holdawk != invert))) := by
  have hstate : s.setHoldMode mode invert
      = (s.withHoldMode mode invert).holdBecomes (decide (mode ≠ .off) && (s.lines.holdawk != invert)) := rfl
  rw [setHoldModeAnswer, asHoldMode_code, asFlag_flagByte]
  simp only [hstate, holdBecomes_restHold]

theorem clearHoldAnswer_eq : clearHoldAnswer s =
    if s.lines.restHold = false then .fail .already s
    else if s.lines.holdMode = .latch then .ok s.endRestHold else .fail .state s := rfl

end HoldRequests

/-- Settles O30, branch by branch for the end of the hold, and by the mode for the requests. -/
theorem theRestHoldFollowsItsMode : Obligations.TheRestHoldFollowsItsMode := by
  refine ⟨fun b s => ⟨endRestHold_lines s, endRestHold_branch s b⟩,
    fun mode invert s htake h => exec_turnedAway rfl rfl rfl htake (setHoldModeAnswer_range h),
    fun mode invert s htake => ?_, fun s htake => ?_⟩
  · intro hold
    exact exec_answered rfl rfl rfl htake (setHoldModeAnswer_replaces mode invert)
  · have hanswer := clearHoldAnswer_eq (s := s.takeOut .plant (requestFrame .clearHold []))
    split
    case isTrue hnone => exact exec_turnedAway rfl rfl rfl htake (hanswer.trans (if_pos hnone))
    case isFalse hheld =>
      split
      case isTrue hlatch =>
        exact exec_answered rfl rfl rfl htake (hanswer.trans ((if_neg hheld).trans (if_pos hlatch)))
      case isFalse hmode =>
        exact exec_turnedAway rfl rfl rfl htake (hanswer.trans ((if_neg hheld).trans (if_neg hmode)))

end Sys2Proof.Machine

/-!
SUPPORT. The commands that do one thing by the state they find: a channel's step, edges of the lines, FORCE_WAKE:
O23, O47, O49.
-/
namespace Sys2Proof.Machine
open Sys2Proof

/-! ## A channel's step -/

theorem exec_channelStep (k : ChannelId) (s : State) :
    exec (.channelStep k) s =
      .next (if (s.channel k).state = .stepping ∧ s.halted = false then s.processEntry k else s) := rfl

/-- Settles O49, by the entry at the pointer and the answer to it. -/
theorem aChannelStepProcessesOneEntry : Obligations.AChannelStepProcessesOneEntry := by
  refine ⟨fun k s h => ?_, fun k entry s hstepping hrunning hpointer => ?_⟩
  · rw [exec_channelStep, if_neg]
    rintro ⟨hstepping, hrunning⟩
    rcases h with h | h
    · exact h hstepping
    · exact absurd (h.symm.trans hrunning) (by decide)
  · intro ch declined
    have hstep : exec (.channelStep k) s = .next (s.processEntry k) := by
      rw [exec_channelStep, if_pos ⟨hstepping, hrunning⟩]
    have hentry : s.restEntry (s.channel k).pointer = s.rest.list[entry.val] := by
      rw [hpointer, restEntry_eq]
    rw [hstep]
    refine ⟨fun hnone => congrArg _ (processEntry_noEntry (hentry.trans hnone)), fun c hc => ?_⟩
    rw [hc] at hentry
    refine ⟨fun reason ha => congrArg _ (processEntry_declined hentry ha),
      fun t ha => congrArg _ (processEntry_limit hentry ha), fun pv hpv ha => ?_⟩
    rw [processEntry_started hentry ha, startDrain_channel, startDrain_eq hpv]
    rfl

/-! ## Edges of the lines -/

section Edges
variable {s : State}

theorem exec_evEdge_change {i : InputId} {high : Bool} (h : s.ev i = !high) :
    exec (.evEdge i high) s = .next (if (s.input i).edgeMode.counted high = true then
      (s.setEv i high).countedEdge i else s.setEv i high) := by
  have hchange : s.ev i ≠ high := by
    rw [h]
    cases high <;> decide
  show Host.Outcome.next (if s.ev i = high then s else _) = _
  rw [if_neg hchange]
  rfl

theorem counted_iff (mode : EdgeMode) (high : Bool) : mode.counted high = true ↔
    (mode = .both ∨ (mode = .rising ∧ high = true) ∨ (mode = .falling ∧ high = false)) := by
  cases mode <;> cases high <;> simp [EdgeMode.counted]

theorem reaches_eq (setting : InputSetting) :
    setting.reaches = fun r => (r.state == .resting || r.state == .draining) && r.provision.any (fun pv =>
      setting.tenantMask.getLsbD pv.owner.val && setting.sectorMask.getLsbD pv.sector.val) := by
  funext r
  unfold InputSetting.reaches
  cases r.provision with
  | none => simp
  | some pv => simp [Carrier.restsOrDrains, Bool.and_assoc]

theorem countedEdge_cause {i : InputId} (h : (s.input i).role = .cause) :
    s.countedEdge i = s.causeOccurs (inputSlot i) := by
  simp only [State.countedEdge, h]

theorem countedEdge_wake {i : InputId} (h : (s.input i).role = .wake) :
    s.countedEdge i = (s.wakeRound (s.input i).reaches (s.input i).level).finish := by
  simp only [State.countedEdge, h]

theorem exec_holdawkEdge_change {high : Bool} (h : s.lines.holdawk = !high) :
    exec (.holdawkEdge high) s = .next (State.holdawkActs { s with lines := { s.lines with holdawk := high } }
      (high != s.lines.holdInvert)) := by
  have hchange : s.lines.holdawk ≠ high := by
    rw [h]
    cases high <;> decide
  show Host.Outcome.next (if s.lines.holdawk = high then s else _) = _
  rw [if_neg hchange]
  rfl

theorem holdBecomes_true : s.holdBecomes true = s.setRestHold true := if_neg (by simp)

theorem holdBecomes_false : s.holdBecomes false = if s.lines.restHold = true then s.endRestHold else s := by
  unfold State.holdBecomes
  by_cases hheld : s.lines.restHold = true
  · simp [hheld]
  · have hsame : s.setRestHold false = s := by
      rw [Bool.not_eq_true] at hheld
      rw [← hheld]
      rfl
    simp [hheld, hsame]

theorem holdawkActs_off (h : s.lines.holdMode = .off) (active : Bool) : s.holdawkActs active = s := by
  unfold State.holdawkActs
  rw [h]

theorem holdawkActs_level (h : s.lines.holdMode = .level) (active : Bool) : s.holdawkActs active = s.holdBecomes active := by
  unfold State.holdawkActs
  rw [h]

theorem holdawkActs_latch (h : s.lines.holdMode = .latch) (active : Bool) :
    s.holdawkActs active = if active then s.holdBecomes true else s := by
  unfold State.holdawkActs
  rw [h]
  cases active <;> rfl

theorem holdawkActs_wake (h : s.lines.holdMode = .wake) (active : Bool) :
    s.holdawkActs active =
      if active then ((s.holdBecomes true).wakeRound Carrier.restsOrDrains 7).finish else s.holdBecomes false := by
  unfold State.holdawkActs
  rw [h]
  cases active <;> rfl

end Edges

/-- Settles O47, by the edge mode and role of the input, and by the mode and the level of the rest hold. -/
theorem inputEdgesActByRoleAndMode : Obligations.InputEdgesActByRoleAndMode := by
  refine ⟨fun i high s h => ?_, fun i high s h => ?_, fun high s h => ?_, fun high s h => ?_⟩
  · exact congrArg Host.Outcome.next (if_pos h)
  · intro changed mode counted
    have hedge := exec_evEdge_change h
    refine ⟨fun hnot => ?_, fun hcounted hrole => ?_, fun hcounted hrole => ?_⟩
    · rw [hedge, if_neg fun hc => hnot ((counted_iff _ _).mp hc)]
    · rw [hedge, if_pos ((counted_iff _ _).mpr hcounted), countedEdge_cause (s := s.setEv i high) hrole]
      rfl
    · rw [hedge, if_pos ((counted_iff _ _).mpr hcounted), countedEdge_wake (s := s.setEv i high) hrole, reaches_eq]
      rfl
  · exact congrArg Host.Outcome.next (if_pos h)
  · intro changed held released active
    have hedge := exec_holdawkEdge_change h
    have hactive : active → (high != s.lines.holdInvert) = true := fun ha => by simpa [active] using ha
    have hinactive : ¬ active → (high != s.lines.holdInvert) = false := fun ha => by simpa [active] using ha
    refine ⟨fun hmode => ?_, fun hmode ha => ?_, fun hmode ha => ?_, fun hmode ha => ?_, fun hmode ha => ?_,
      fun hmode ha => ?_, fun hmode ha => ?_⟩ <;> rw [hedge]
    · exact congrArg _ (holdawkActs_off (s := changed) hmode _)
    · rw [hactive ha]
      exact congrArg _ ((holdawkActs_level (s := changed) hmode _).trans holdBecomes_true)
    · rw [hinactive ha]
      exact congrArg _ ((holdawkActs_level (s := changed) hmode _).trans holdBecomes_false)
    · rw [hactive ha]
      exact congrArg _ ((holdawkActs_latch (s := changed) hmode _).trans holdBecomes_true)
    · rw [hinactive ha]
      exact congrArg _ (holdawkActs_latch (s := changed) hmode _)
    · rw [hactive ha]
      refine congrArg _ ((holdawkActs_wake (s := changed) hmode _).trans ?_)
      rw [if_pos rfl, holdBecomes_true]
      rfl
    · rw [hinactive ha]
      exact congrArg _ ((holdawkActs_wake (s := changed) hmode _).trans holdBecomes_false)

/-! ## FORCE_WAKE -/

section ForceWake
variable {s : State}

theorem asScope_outside {scope index : Byte}
    (h : 3 ≤ scope.toNat ∨ (scope.toNat = 1 ∧ 16 ≤ index.toNat) ∨ (scope.toNat = 2 ∧ 6 ≤ index.toNat)) :
    asScope scope index = none := by
  unfold asScope
  split
  · next hall =>
    subst hall
    simp at h
  · split
    · next hbranch =>
      subst hbranch
      rw [asBranch_outside (by simpa using h), Option.map_none]
    · split
      · next hsector =>
        subst hsector
        rw [asSector_outside (by simpa using h), Option.map_none]
      · rfl

theorem forceWakeAnswer_range {scope index : Byte} (h : asScope scope index = none) :
    forceWakeAnswer scope index s = .fail .range s := by
  rw [forceWakeAnswer, h]

theorem forceWakeAnswer_unused {scope index : Byte} {sc : WakeScope} (h : asScope scope index = some sc)
    (hunused : s.scopeUnused sc = true) : forceWakeAnswer scope index s = .fail .state s := by
  rw [forceWakeAnswer, h]
  exact if_pos hunused

theorem forceWakeAnswer_wakes {scope index : Byte} {sc : WakeScope} (h : asScope scope index = some sc)
    (hused : s.scopeUnused sc = false) :
    forceWakeAnswer scope index s =
      .okWith [byteOf (s.wakeRound sc.covers 7).woken, byteOf (s.wakeRound sc.covers 7).cancelled,
        byteOf (s.wakeRound sc.covers 7).raised, byteOf (s.wakeRound sc.covers 7).pending]
        (s.wakeRound sc.covers 7).finish := by
  rw [forceWakeAnswer, h]
  exact if_neg (by simp [hused])

/-- The carriers in a scope, by what it names of their provision (R89). -/
def WakeScope.named (sc : WakeScope) (pv : Provision) : Bool :=
  match sc with
  | .all => true
  | .branch b => pv.branch == b
  | .sector sec => pv.sector == sec

theorem covers_eq (sc : WakeScope) : sc.covers = fun r => r.provision.any sc.named := by
  funext r
  unfold WakeScope.covers
  cases r.provision with
  | none => rfl
  | some pv => cases sc <;> rfl

theorem asScope_branch (b : BranchId) : asScope 0x01#8 (indexByte b) = some (.branch b) := by
  show (asBranch (indexByte b)).map WakeScope.branch = _
  rw [asBranch_indexByte, Option.map_some]

theorem asScope_sector (sec : SectorId) : asScope 0x02#8 (indexByte sec) = some (.sector sec) := by
  show (asSector (indexByte sec)).map WakeScope.sector = _
  rw [asSector_indexByte, Option.map_some]

end ForceWake

/-- Settles O23, by the scope. -/
theorem forceWakeWakesItsScope : Obligations.ForceWakeWakesItsScope := by
  refine ⟨fun scope index s htake h => exec_turnedAway rfl rfl rfl htake (forceWakeAnswer_range (asScope_outside h)),
    fun b s htake hunused => exec_turnedAway rfl rfl rfl htake
      (forceWakeAnswer_unused (asScope_branch b) (beq_iff_eq.mpr hunused)), fun scope index named s htake h => ?_⟩
  intro round
  have hscope : ∃ sc : WakeScope, asScope scope index = some sc ∧ s.scopeUnused sc = false ∧ sc.named = named := by
    rcases h with ⟨rfl, rfl⟩ | ⟨b, rfl, rfl, hused, rfl⟩ | ⟨sec, rfl, rfl, rfl⟩
    · exact ⟨.all, rfl, rfl, rfl⟩
    · exact ⟨.branch b, asScope_branch b, beq_eq_false_iff_ne.mpr hused, rfl⟩
    · exact ⟨.sector sec, asScope_sector sec, rfl, rfl⟩
  obtain ⟨sc, hsc, hused, rfl⟩ := hscope
  refine exec_answered rfl rfl rfl htake ((forceWakeAnswer_wakes (s := s.takeOut _ _) hsc hused).trans ?_)
  rw [covers_eq]
  rfl

end Sys2Proof.Machine

/-!
SUPPORT. What the Branch Controller and the arbiter do beside their own records: they unmute WAKING carriers, and touch
no other field of a carrier and no port but the owners' (R20). With it: O16, O17, O18, O20.
-/
namespace Sys2Proof.Machine
open Sys2Proof

/-! ## Carriers that may have been unmuted -/

section KeptOrUnmuted
variable {r r' r'' : Carrier}

theorem keptOrUnmuted_refl (r : Carrier) : KeptOrUnmuted r r := by
  unfold KeptOrUnmuted
  split <;> rfl

/-- An unmute touches the mark and the live deadline alone. -/
theorem KeptOrUnmuted.eq (h : KeptOrUnmuted r r') :
    r' = { r with unmuteSent := r'.unmuteSent, liveDeadline := r'.liveDeadline } := by
  unfold KeptOrUnmuted at h
  split at h
  · exact h
  · rw [h]

theorem KeptOrUnmuted.state (h : KeptOrUnmuted r r') : r'.state = r.state := by rw [h.eq]
theorem KeptOrUnmuted.provision (h : KeptOrUnmuted r r') : r'.provision = r.provision := by rw [h.eq]
theorem KeptOrUnmuted.claims (h : KeptOrUnmuted r r') : r'.claims = r.claims := by rw [h.eq]
theorem KeptOrUnmuted.offered (h : KeptOrUnmuted r r') : r'.offered = r.offered := by rw [h.eq]
theorem KeptOrUnmuted.wakeLevel (h : KeptOrUnmuted r r') : r'.wakeLevel = r.wakeLevel := by rw [h.eq]
theorem KeptOrUnmuted.pendingWake (h : KeptOrUnmuted r r') : r'.pendingWake = r.pendingWake := by rw [h.eq]

theorem KeptOrUnmuted.eq_of_not_waking (h : KeptOrUnmuted r r') (hs : r.state ≠ .waking) : r' = r := by
  rwa [KeptOrUnmuted, if_neg hs] at h

theorem KeptOrUnmuted.trans (h : KeptOrUnmuted r r') (h' : KeptOrUnmuted r' r'') : KeptOrUnmuted r r'' := by
  by_cases hs : r.state = .waking
  · rw [KeptOrUnmuted, if_pos hs, h'.eq, h.eq]
  · rw [h.eq_of_not_waking hs] at h'
    exact h'

/-- The record after an unmute, if the carrier waits for one (R20). -/
def Carrier.unmutedAt (r : Carrier) (deadline : Nat) : Carrier :=
  if r.state = .waking ∧ r.unmuteSent = false then { r with unmuteSent := true, liveDeadline := some deadline } else r

theorem keptOrUnmuted_unmutedAt (r : Carrier) (deadline : Nat) : KeptOrUnmuted r (r.unmutedAt deadline) := by
  unfold Carrier.unmutedAt
  split
  · next h => rw [KeptOrUnmuted, if_pos h.1]
  · exact keptOrUnmuted_refl r

theorem unmutedAt_unmutedAt (r : Carrier) (deadline : Nat) :
    (r.unmutedAt deadline).unmutedAt deadline = r.unmutedAt deadline := by
  unfold Carrier.unmutedAt
  split
  · simp
  · rfl

end KeptOrUnmuted

/-! ## One unmute, and the "powered" report -/

section Unmute
variable {s : State}

theorem unmuteMember_carrier (s : State) (c d : CarrierId) :
    (s.unmuteMember c).carrier d =
      if d = c then (s.carrier c).unmutedAt (secondsAfter s.now s.table.liveTime) else s.carrier d := by
  unfold State.unmuteMember Carrier.unmutedAt
  split
  · rw [State.sendUnmute, postOwner_carrier, carrier_setCarrier]
  · split
    · next hd => rw [hd]
    · rfl

theorem unmuteMember_branchFrame (s : State) (c : CarrierId) : BranchFrame s (s.unmuteMember c) := by
  unfold State.unmuteMember
  split
  · exact sendUnmute_branchFrame s c
  · exact BranchFrame.refl s

theorem postOwner_arb (s : State) (c : CarrierId) (n : Notice) :
    (s.postOwner c n).ctrl = s.ctrl ∧ (s.postOwner c n).arb = s.arb := by
  unfold State.postOwner
  split <;> exact ⟨rfl, rfl⟩

theorem unmuteMember_ctrl (s : State) (c : CarrierId) :
    (s.unmuteMember c).ctrl = s.ctrl ∧ (s.unmuteMember c).arb = s.arb := by
  unfold State.unmuteMember
  split
  · exact postOwner_arb _ _ _
  · exact ⟨rfl, rfl⟩

/-- A notice to the owner of a carrier reaches the owner's port, and no other. -/
theorem postOwner_port (s : State) (c : CarrierId) (n : Notice) (p : Port) :
    (s.postOwner c n).port p =
      if (s.carrier c).provision.map (fun pv => Port.tenant pv.owner) = some p then (s.port p).post n else s.port p := by
  unfold State.postOwner
  cases hpv : (s.carrier c).provision with
  | none => simp
  | some pv =>
    by_cases hp : p = .tenant pv.owner
    · simp [hp]
    · have hp' : Port.tenant pv.owner ≠ p := fun h => hp h.symm
      simp [hp, hp']

theorem postOwner_tenant (s : State) (c : CarrierId) (n : Notice) (t : TenantId) :
    (s.postOwner c n).port (.tenant t) =
      if (s.carrier c).ownedBy t = true then (s.port (.tenant t)).post n else s.port (.tenant t) := by
  rw [postOwner_port]
  cases hpv : (s.carrier c).provision with
  | none => simp [Carrier.ownedBy, hpv]
  | some pv => simp [Carrier.ownedBy, hpv]

theorem postOwner_other (s : State) (c : CarrierId) (n : Notice) {p : Port} (hp : p = .plant ∨ p = .fleet) :
    (s.postOwner c n).port p = s.port p := by
  rw [postOwner_port, if_neg]
  rintro h
  cases hpv : (s.carrier c).provision with
  | none => simp [hpv] at h
  | some pv => rcases hp with rfl | rfl <;> simp [hpv] at h

/-- The carrier waits for its UNMUTE, which its owner will get (R20). -/
def Carrier.unmutesTo (r : Carrier) (t : TenantId) : Bool := r.state == .waking && !r.unmuteSent && r.ownedBy t

theorem unmuteMember_tenant (s : State) (c : CarrierId) (t : TenantId) :
    (s.unmuteMember c).port (.tenant t) =
      if (s.carrier c).unmutesTo t = true then
        (s.port (.tenant t)).post (.unmute c (secondsAfter s.now s.table.liveTime))
      else s.port (.tenant t) := by
  unfold State.unmuteMember Carrier.unmutesTo
  by_cases h : (s.carrier c).state = .waking ∧ (s.carrier c).unmuteSent = false
  · rw [if_pos h, State.sendUnmute, postOwner_tenant]
    simp [h.1, h.2, Carrier.ownedBy]
  · rw [if_neg h, if_neg]
    simp only [Bool.and_eq_true, beq_iff_eq, Bool.not_eq_true', not_and]
    exact fun hwaits => absurd hwaits h

theorem unmuteMember_other (s : State) (c : CarrierId) {p : Port} (hp : p = .plant ∨ p = .fleet) :
    (s.unmuteMember c).port p = s.port p := by
  unfold State.unmuteMember
  split
  · rw [State.sendUnmute, postOwner_other _ _ _ hp, setCarrier_port]
  · rfl

/-- The "powered" report, member by member of a list. -/
theorem foldl_unmuteMember (l : List CarrierId) (s : State) :
    (∀ d, (l.foldl (fun u c => u.unmuteMember c) s).carrier d =
        if d ∈ l then (s.carrier d).unmutedAt (secondsAfter s.now s.table.liveTime) else s.carrier d)
      ∧ (l.foldl (fun u c => u.unmuteMember c) s).ctrl = s.ctrl ∧ (l.foldl (fun u c => u.unmuteMember c) s).arb = s.arb
      ∧ (∀ p, p = .plant ∨ p = .fleet → (l.foldl (fun u c => u.unmuteMember c) s).port p = s.port p)
      ∧ (l.Nodup → ∀ t, (l.foldl (fun u c => u.unmuteMember c) s).port (.tenant t) =
          ((l.filter (fun c => (s.carrier c).unmutesTo t)).map
            (fun c => Notice.unmute c (secondsAfter s.now s.table.liveTime))).foldl PortState.post
            (s.port (.tenant t))) := by
  induction l generalizing s with
  | nil => exact ⟨fun _ => rfl, rfl, rfl, fun _ _ => rfl, fun _ _ => rfl⟩
  | cons c l ih =>
    obtain ⟨hcarrier, hctrl, harb, hother, htenant⟩ := ih (s.unmuteMember c)
    obtain ⟨hctrl', harb'⟩ := unmuteMember_ctrl s c
    obtain ⟨-, -, -, -, -, hlive, htimer, -, -⟩ := unmuteMember_branchFrame s c
    have hnow : (s.unmuteMember c).now = s.now := by rw [State.now, htimer, State.now]
    simp only [List.foldl_cons]
    refine ⟨fun d => ?_, hctrl.trans hctrl', harb.trans harb', fun p hp => (hother p hp).trans (unmuteMember_other s c hp),
      fun hl t => ?_⟩
    · rw [hcarrier, unmuteMember_carrier, hnow, hlive]
      by_cases hd : d = c
      · simp [hd, unmutedAt_unmutedAt]
      · simp [hd]
    · obtain ⟨hc, hl⟩ := List.nodup_cons.mp hl
      have hrest : l.filter (fun d => ((s.unmuteMember c).carrier d).unmutesTo t)
          = l.filter (fun d => (s.carrier d).unmutesTo t) :=
        List.filter_congr fun d hd => by
          rw [unmuteMember_carrier, if_neg (fun hdc : d = c => hc (hdc ▸ hd))]
      rw [htenant hl, hrest, unmuteMember_tenant, hnow, hlive, List.filter_cons]
      split <;> rfl

end Unmute

/-! ## The frame of the Branch Controller's work -/

/-- Unmutes, and the branches and the arbiter at work: no branch goes OUT, none changes its members or its line mode. -/
structure UnmuteFrame (s u : State) : Prop where
  carriers : ∀ c, KeptOrUnmuted (s.carrier c) (u.carrier c)
  unmuted : ∀ c, (s.carrier c).unmuteSent = true → u.carrier c = s.carrier c
  tenants : ∀ t, ∃ unmutes, UnmutesOnly unmutes ∧ u.port (.tenant t) = unmutes.foldl PortState.post (s.port (.tenant t))
  others : ∀ p, p = .plant ∨ p = .fleet → u.port p = s.port p
  members : ∀ b, (u.branch b).members = (s.branch b).members
  lineMode : ∀ b, (u.branch b).lineMode = (s.branch b).lineMode
  notOut : ∀ b, (s.branch b).state ≠ .out → (u.branch b).state ≠ .out
  rampDown : u.ctrl.rampDown = s.ctrl.rampDown
  bgd : u.ctrl.bgd = s.ctrl.bgd

namespace UnmuteFrame
variable {s t u : State}

theorem refl (s : State) : UnmuteFrame s s :=
  ⟨fun _ => keptOrUnmuted_refl _, fun _ _ => rfl, fun _ => ⟨[], by simp [UnmutesOnly], rfl⟩, fun _ _ => rfl, fun _ => rfl, fun _ => rfl,
    fun _ h => h, rfl, rfl⟩

theorem trans (h : UnmuteFrame s t) (k : UnmuteFrame t u) : UnmuteFrame s u where
  carriers c := (h.carriers c).trans (k.carriers c)
  unmuted c hc := by
    have hsame := h.unmuted c hc
    rw [k.unmuted c (by rwa [hsame]), hsame]
  tenants x := by
    obtain ⟨xs, hxs, hport⟩ := h.tenants x
    obtain ⟨ys, hys, hport'⟩ := k.tenants x
    refine ⟨xs ++ ys, fun n hn => ?_, by rw [hport', hport, List.foldl_append]⟩
    rcases List.mem_append.mp hn with hn | hn
    · exact hxs n hn
    · exact hys n hn
  others p hp := (k.others p hp).trans (h.others p hp)
  members b := (k.members b).trans (h.members b)
  lineMode b := (k.lineMode b).trans (h.lineMode b)
  notOut b hb := k.notOut b (h.notOut b hb)
  rampDown := k.rampDown.trans h.rampDown
  bgd := k.bgd.trans h.bgd

theorem foldl {α : Type} (f : State → α → State) (hf : ∀ u a, UnmuteFrame u (f u a)) (l : List α) (s : State) :
    UnmuteFrame s (l.foldl f s) := by
  induction l generalizing s with
  | nil => exact refl s
  | cons a l ih => exact (hf s a).trans (ih _)

theorem setBranch (s : State) (b : BranchId) {r : Branch} (hmembers : r.members = (s.branch b).members)
    (hmode : r.lineMode = (s.branch b).lineMode) (hout : r.state ≠ .out) : UnmuteFrame s (s.setBranch b r) where
  carriers c := keptOrUnmuted_refl _
  unmuted c _ := rfl
  tenants t := ⟨[], by simp [UnmutesOnly], rfl⟩
  others p hp := rfl
  members d := by
    rw [branch_setBranch]
    split
    · next hd => rw [hd, hmembers]
    · rfl
  lineMode d := by
    rw [branch_setBranch]
    split
    · next hd => rw [hd, hmode]
    · rfl
  notOut d hd := by
    rw [branch_setBranch]
    split
    · exact hout
    · exact hd
  rampDown := rfl
  bgd := rfl

theorem setArb (s : State) (a : Arbiter) : UnmuteFrame s (s.setArb a) :=
  ⟨fun _ => keptOrUnmuted_refl _, fun _ _ => rfl, fun _ => ⟨[], by simp [UnmutesOnly], rfl⟩, fun _ _ => rfl, fun _ => rfl, fun _ => rfl,
    fun _ h => h, rfl, rfl⟩

theorem setRestHold (s : State) (inEffect : Bool) : UnmuteFrame s (s.setRestHold inEffect) :=
  ⟨fun _ => keptOrUnmuted_refl _, fun _ _ => rfl, fun _ => ⟨[], by simp [UnmutesOnly], rfl⟩, fun _ _ => rfl, fun _ => rfl, fun _ => rfl,
    fun _ h => h, rfl, rfl⟩

theorem unmuteMember (s : State) (c : CarrierId) : UnmuteFrame s (s.unmuteMember c) := by
  obtain ⟨hctrl, -⟩ := unmuteMember_ctrl s c
  have hbranch : ∀ b, (s.unmuteMember c).branch b = s.branch b := fun b => by rw [State.branch, hctrl, State.branch]
  refine ⟨fun d => ?_, fun d hd => ?_, fun t => ?_, fun p hp => unmuteMember_other s c hp, fun b => by rw [hbranch],
    fun b => by rw [hbranch], fun b hb => by rwa [hbranch], by rw [hctrl], by rw [hctrl]⟩
  · rw [unmuteMember_carrier]
    split
    · next hd => exact hd ▸ keptOrUnmuted_unmutedAt _ _
    · exact keptOrUnmuted_refl _
  · rw [unmuteMember_carrier]
    split
    · next hdc =>
      subst hdc
      rw [Carrier.unmutedAt, if_neg (by simp [hd])]
    · rfl
  · rw [unmuteMember_tenant]
    split
    · exact ⟨[_], by simp [UnmutesOnly], rfl⟩
    · exact ⟨[], by simp [UnmutesOnly], rfl⟩

theorem reportPowered (s : State) (b : BranchId) : UnmuteFrame s (s.reportPowered b) :=
  foldl _ unmuteMember _ s

theorem enterBranch (s : State) (b : BranchId) {state : BranchState} (h : state ≠ .out) :
    UnmuteFrame s (s.enterBranch b state) :=
  setBranch s b rfl rfl h

theorem beginLowering (s : State) (b : BranchId) : UnmuteFrame s (s.beginLowering b) :=
  setBranch s b rfl rfl nofun

theorem lingerExpires (s : State) {b : BranchId} (h : (s.branch b).state ≠ .out) : UnmuteFrame s (s.lingerExpires b) := by
  unfold State.lingerExpires
  split
  · exact setBranch s b rfl rfl h
  · exact beginLowering s b

theorem settleTest (s : State) (b : BranchId) : UnmuteFrame s (s.settleTest b) := by
  unfold State.settleTest State.enterSettling
  dsimp only
  have hsettled : UnmuteFrame s (s.setBranch b
      { (s.branch b).enter .settling with lingerDeadline := some (secondsAfter s.now s.ctrl.linger) }) :=
    setBranch s b rfl rfl nofun
  split
  · split
    · exact hsettled.trans (lingerExpires _ (by simp))
    · exact hsettled
  · exact refl s

theorem powerGood {consider : State → State} (hconsider : ∀ u, UnmuteFrame u (consider u)) (s : State) (b : BranchId) :
    UnmuteFrame s (s.powerGood consider b) := by
  have hpowered : UnmuteFrame s (s.enterBranch b .powered) := enterBranch s b nofun
  unfold State.powerGood
  dsimp only
  exact (((hpowered.trans (setArb _ _)).trans (hconsider _)).trans (reportPowered _ b)).trans (settleTest _ b)

theorem takeGrant {consider : State → State} (hconsider : ∀ u, UnmuteFrame u (consider u)) (s : State) (b : BranchId)
    (g : Grant) : UnmuteFrame s (s.takeGrant consider b g) := by
  unfold State.takeGrant
  dsimp only
  have hraised : UnmuteFrame s ((s.setArb (s.arb.give b g)).setBranch b
      { (s.branch b).enter .raising with
        raiseLevel := (s.branch b).raiseLevel, grant := g,
        rampDeadline := some (secondsAfter s.now s.ctrl.rampUp) }) :=
    (setArb s _).trans (setBranch _ b rfl rfl nofun)
  split
  · exact hraised.trans (powerGood hconsider _ b)
  · exact hraised

theorem considerGrantsUpTo (n : Nat) (s : State) : UnmuteFrame s (considerGrantsUpTo n s) := by
  induction n generalizing s with
  | zero => exact refl s
  | succ n ih =>
    unfold Machine.considerGrantsUpTo
    split
    · exact refl s
    · exact (takeGrant ih s _ _).trans (ih _)

theorem considerGrants (s : State) : UnmuteFrame s s.considerGrants := considerGrantsUpTo _ s

theorem enterQueued (s : State) (b : BranchId) (level : Nat) : UnmuteFrame s (s.enterQueued b level) := by
  have hqueued : UnmuteFrame s (s.setBranch b { (s.branch b).enter .queued with raiseLevel := level }) :=
    setBranch s b rfl rfl nofun
  unfold State.enterQueued
  dsimp only
  exact (hqueued.trans (setArb _ _)).trans (considerGrants _)

theorem raiseQueued (s : State) {b : BranchId} (h : (s.branch b).state ≠ .out) (level : Nat) :
    UnmuteFrame s (s.raiseQueued b level) := by
  have hraised : UnmuteFrame s (s.setBranch b { s.branch b with raiseLevel := level }) := setBranch s b rfl rfl h
  unfold State.raiseQueued
  dsimp only
  split
  · exact (hraised.trans (setArb _ _)).trans (considerGrants _)
  · exact refl s

theorem releaseGrant (s : State) (b : BranchId) (g : Grant) : UnmuteFrame s (s.releaseGrant b g) :=
  (setArb s _).trans (considerGrants _)

theorem memberWaking (s : State) (b : BranchId) (level : Nat) : UnmuteFrame s (s.memberWaking b level) := by
  unfold State.memberWaking
  dsimp only
  split
  case h_1 => exact reportPowered s b
  case h_2 =>
    have hpowered : UnmuteFrame s (s.enterBranch b .powered) := enterBranch s b nofun
    exact hpowered.trans (reportPowered _ b)
  case h_3 h => exact setBranch s b rfl rfl (by simp [h])
  case h_4 => exact enterQueued s b level
  case h_5 h => exact raiseQueued s (by simp [h]) level
  case h_6 h => exact setBranch s b rfl rfl (by simp [h])
  all_goals exact refl s

theorem memberRaised (s : State) (b : BranchId) (level : Nat) : UnmuteFrame s (s.memberRaised b level) := by
  unfold State.memberRaised
  dsimp only
  split
  case h_1 h => exact raiseQueued s (by simp [h]) level
  case h_2 h => exact setBranch s b rfl rfl (by simp [h])
  all_goals exact refl s

theorem memberReport (s : State) (report : MemberReport) : UnmuteFrame s (s.memberReport report) := by
  cases report with
  | waking b level => exact memberWaking s b level
  | raised b level => exact memberRaised s b level

theorem reports (reports : List MemberReport) (s : State) :
    UnmuteFrame s (reports.foldl (fun u report => u.memberReport report) s) := foldl _ memberReport reports s

theorem queueIfPinned (s : State) (b : BranchId) : UnmuteFrame s (s.queueIfPinned b) := by
  unfold State.queueIfPinned
  split
  · exact enterQueued s b 1
  · exact refl s

theorem goDark (s : State) (b : BranchId) : UnmuteFrame s (s.goDark b) := by
  have hdark : UnmuteFrame s (s.enterBranch b .dark) := enterBranch s b nofun
  unfold State.goDark
  dsimp only
  split
  · exact hdark.trans (enterQueued _ b _)
  · exact hdark

theorem lowerIfHeld (s : State) (b : BranchId) : UnmuteFrame s (s.lowerIfHeld b) := by
  unfold State.lowerIfHeld
  split
  · exact beginLowering s b
  · exact refl s

theorem endRestHold (s : State) : UnmuteFrame s s.endRestHold :=
  (setRestHold s false).trans (foldl _ lowerIfHeld _ _)

end UnmuteFrame

/-! ## The settle test (R56) -/

section Settling
variable {s : State} {b : BranchId}

/-- The settle conditions, spelt out. -/
def SettleMet (s : State) (b : BranchId) : Prop :=
  (s.branch b).state = .powered ∧ (s.branch b).lineMode = .follow ∧ (s.branch b).members ≠ []
    ∧ (∀ c ∈ (s.branch b).members, (s.carrier c).state = .resting) ∧ s.halted = false

theorem settleConditions_iff : s.settleConditions b = true ↔ SettleMet s b := by
  simp [State.settleConditions, State.allMembersResting, SettleMet, and_assoc]

theorem settleTest_not (h : ¬ SettleMet s b) : s.settleTest b = s :=
  if_neg fun hc => h (settleConditions_iff.mp hc)

theorem settleTest_met (h : SettleMet s b) : s.settleTest b = s.enterSettling b := if_pos (settleConditions_iff.mpr h)

/-- The record of a branch in FOLLOW that enters another state. -/
theorem enter_of_follow {r : Branch} (h : r.lineMode = .follow) (state : BranchState) :
    r.enter state =
      { state := state, lineMode := .follow, members := r.members, raiseLevel := 0, lingerDeadline := none,
        lingerExpired := false, rampDeadline := none, wakeSeen := false, grant := .none } := by
  rw [← h]
  rfl

theorem enterSettling_lingers (h : s.ctrl.linger ≠ 0) : s.enterSettling b = s.setBranch b
    { (s.branch b).enter .settling with lingerDeadline := some (secondsAfter s.now s.ctrl.linger) } := if_neg h

theorem lingerExpires_held (h : s.lines.restHold = true) :
    s.lingerExpires b = s.setBranch b { s.branch b with lingerDeadline := none, lingerExpired := true } := if_pos h

theorem lingerExpires_free (h : s.lines.restHold = false) : s.lingerExpires b = s.beginLowering b :=
  if_neg (by simp [h])

theorem enterSettling_waits (h : s.ctrl.linger = 0) (hheld : s.lines.restHold = true) :
    (s.enterSettling b).branch b = { (s.branch b).enter .settling with lingerExpired := true } := by
  rw [State.enterSettling, if_pos h, lingerExpires_held (s := s.setBranch b _) hheld]
  simp [Branch.enter]

theorem enterSettling_lowers (h : s.ctrl.linger = 0) (hfree : s.lines.restHold = false) :
    (s.enterSettling b).branch b =
      { (s.branch b).enter .lowering with rampDeadline := some (secondsAfter s.now s.ctrl.rampDown) } := by
  rw [State.enterSettling, if_pos h, lingerExpires_free (s := s.setBranch b _) hfree, State.beginLowering]
  simp [Branch.enter]

end Settling

/-! ## The reports of the Carrier Table, by the branch's state (R61, R62) -/

section Reports
variable {s : State} {b : BranchId} {level : Nat}

theorem memberWaking_powered (h : (s.branch b).state = .powered) : s.memberWaking b level = s.reportPowered b := by
  simp only [State.memberWaking, h]

theorem memberWaking_settling (h : (s.branch b).state = .settling) :
    s.memberWaking b level = (s.enterBranch b .powered).reportPowered b := by
  simp only [State.memberWaking, h]

theorem memberWaking_lowering (h : (s.branch b).state = .lowering) :
    s.memberWaking b level = s.setBranch b { s.branch b with wakeSeen := true } := by
  simp only [State.memberWaking, h]

theorem memberWaking_dark (h : (s.branch b).state = .dark) : s.memberWaking b level = s.enterQueued b level := by
  simp only [State.memberWaking, h]

theorem memberWaking_queued (h : (s.branch b).state = .queued) : s.memberWaking b level = s.raiseQueued b level := by
  simp only [State.memberWaking, h]

theorem memberWaking_raising (h : (s.branch b).state = .raising) :
    s.memberWaking b level = s.setBranch b { s.branch b with raiseLevel := max (s.branch b).raiseLevel level } := by
  simp only [State.memberWaking, h]

/-- In FAULTED, UNUSED and OUT a branch takes no report of a waking member. -/
theorem memberWaking_ignored (h : (s.branch b).state = .faulted ∨ (s.branch b).state = .unused
    ∨ (s.branch b).state = .out) : s.memberWaking b level = s := by
  rcases h with h | h | h <;> simp only [State.memberWaking, h]

theorem memberRaised_queued (h : (s.branch b).state = .queued) : s.memberRaised b level = s.raiseQueued b level := by
  simp only [State.memberRaised, h]

theorem memberRaised_raising (h : (s.branch b).state = .raising) :
    s.memberRaised b level = s.setBranch b { s.branch b with raiseLevel := max (s.branch b).raiseLevel level } := by
  simp only [State.memberRaised, h]

/-- Outside QUEUED and RAISING a branch takes no report of a raised member. -/
theorem memberRaised_ignored (hq : (s.branch b).state ≠ .queued) (hr : (s.branch b).state ≠ .raising) :
    s.memberRaised b level = s := by
  cases h : (s.branch b).state <;> simp_all [State.memberRaised]

theorem raiseQueued_low (h : level ≤ (s.branch b).raiseLevel) : s.raiseQueued b level = s :=
  if_neg (Nat.not_lt.mpr h)

theorem raiseQueued_high (h : (s.branch b).raiseLevel < level) :
    s.raiseQueued b level = ((s.setBranch b { s.branch b with raiseLevel := level }).setArb
      { s.arb with queue := raiseEntry b level s.arb.queue }).considerGrants := if_pos h

end Reports

/-- Settles O16, by the settle conditions, and report by report. -/
theorem aBranchFollowsItsMembers : Obligations.ABranchFollowsItsMembers := by
  refine ⟨fun b s => ?_, fun b c s => ?_, fun b s hsorted => ?_, fun b level s => ?_⟩
  · intro met
    refine ⟨settleTest_not, fun hmet hlinger => ?_, fun hmet hlinger hheld => ?_, fun hmet hlinger hfree => ?_⟩ <;>
      rw [settleTest_met hmet]
    · rw [enterSettling_lingers hlinger, enter_of_follow hmet.2.1]
      rfl
    · rw [enterSettling_waits hlinger hheld, enter_of_follow hmet.2.1]
    · rw [enterSettling_lowers hlinger hfree, enter_of_follow hmet.2.1]
      rfl
  · obtain ⟨hcarrier, hctrl, harb, -, -⟩ := foldl_unmuteMember (s.branch b).members s
    refine ⟨(hcarrier c).trans ?_, hctrl, harb⟩
    unfold Carrier.unmutedAt
    by_cases hc : c ∈ (s.branch b).members
    · simp only [hc, if_true, true_and]
      rfl
    · simp [hc]
  · obtain ⟨-, -, -, hother, htenant⟩ := foldl_unmuteMember (s.branch b).members s
    have hnodup : (s.branch b).members.Nodup := hsorted.imp fun h => Fin.ne_of_lt h
    exact ⟨reportPowered_posts s b, htenant hnodup, hother _ (.inl rfl), hother _ (.inr rfl)⟩
  · refine ⟨memberWaking_powered, memberWaking_settling, memberWaking_lowering, memberWaking_dark,
      fun h => ⟨memberWaking_raising h, (memberRaised_raising h).trans (memberWaking_raising h).symm⟩,
      fun h hlow => ⟨(memberWaking_queued h).trans (raiseQueued_low hlow),
        (memberRaised_queued h).trans (raiseQueued_low hlow)⟩,
      fun h hhigh => ⟨(memberRaised_queued h).trans (memberWaking_queued h).symm,
        (memberWaking_queued h).trans (raiseQueued_high hhigh)⟩,
      fun h => ⟨memberWaking_ignored (.inl h), memberRaised_ignored (by simp [h]) (by simp [h])⟩,
      fun h => memberRaised_ignored ?_ ?_⟩ <;>
      rcases h with h | h <;> simp [h]

/-! ## LIVE (R21, R41, R168) -/

section Live
variable {s : State} {t : TenantId} {c : CarrierId}

theorem claimantPort_eq_tenant {m : Claimant} : m.port = .tenant t ↔ m = .tenant t := by
  cases m <;> simp [Claimant.port]

theorem postCarrierOn_eq (howner : (s.carrier c).ownedBy t = true) (m : Claimant) :
    s.postCarrierOn c m =
      if claims (s.carrier c).claims m && m != .tenant t then s.post m.port (.carrierOn c) else s := by
  obtain ⟨pv, hpv, hp⟩ : ∃ pv, (s.carrier c).provision = some pv ∧ pv.owner = t := by
    cases hpv : (s.carrier c).provision with
    | none => simp [Carrier.ownedBy, hpv] at howner
    | some pv => exact ⟨pv, rfl, (ownedBy_iff hpv t).mp howner⟩
  have hport : (Port.tenant t ≠ m.port) ↔ (m != .tenant t) = true := by
    rw [bne_iff_ne, ne_eq, eq_comm, claimantPort_eq_tenant]
  simp only [State.postCarrierOn, hpv, Option.map_some, hp, ne_eq, Option.some.injEq, Bool.and_eq_true]
  exact ite_congr (propext (and_congr_right fun _ => hport)) (fun _ => rfl) fun _ => rfl

/-- CARRIER_ON, claimant by claimant of a list. -/
theorem foldl_postCarrierOn (l : List Claimant) (howner : (s.carrier c).ownedBy t = true) :
    l.foldl (fun u m => u.postCarrierOn c m) s =
      (l.filter (fun m => claims (s.carrier c).claims m && m != .tenant t)).foldl
        (fun u m => u.post m.port (.carrierOn c)) s := by
  induction l generalizing s with
  | nil => rfl
  | cons m l ih =>
    rw [List.foldl_cons, postCarrierOn_eq howner, List.filter_cons]
    split
    · rw [ih (by simpa using howner), post_carrier, List.foldl_cons]
    · exact ih howner

theorem foldl_post_stack (l : List Claimant) (s : State) :
    (l.foldl (fun u m => u.post m.port (.carrierOn c)) s).stack = s.stack := by
  induction l generalizing s with
  | nil => rfl
  | cons m l ih => rw [List.foldl_cons, ih, post_stack]

theorem comesLive_eq (howner : (s.carrier c).ownedBy t = true) :
    s.comesLive c = (allClaimants.filter (fun m => claims (s.carrier c).claims m && m != .tenant t)).foldl
      (fun u m => u.post m.port (.carrierOn c)) (s.setCarrier c (s.carrier c).live) := by
  have hlive : ((s.setCarrier c (s.carrier c).live).carrier c).ownedBy t = true := by
    rw [carrier_setCarrier, if_pos rfl]
    exact howner
  rw [State.comesLive, foldl_postCarrierOn _ hlive, carrier_setCarrier, if_pos rfl]
  rfl

theorem liveAnswer_state (howner : (s.carrier c).ownedBy t = true)
    (h : ¬ ((s.carrier c).state = .waking ∧ (s.carrier c).unmuteSent = true)) :
    liveAnswer (.tenant t) (indexByte c) s = .fail .state s := by
  rw [liveAnswer, ownCarrier_owner howner, if_neg h]

theorem liveAnswer_comesLive (howner : (s.carrier c).ownedBy t = true)
    (h : (s.carrier c).state = .waking ∧ (s.carrier c).unmuteSent = true) :
    liveAnswer (.tenant t) (indexByte c) s = .ok ((s.comesLive c).settleRecords c) := by
  rw [liveAnswer, ownCarrier_owner howner, if_pos h]

end Live

/-- Settles O17, claimant by claimant. -/
theorem liveBringsTheCarrierOn : Obligations.LiveBringsTheCarrierOn := by
  intro t c s htake howner
  split
  case isTrue h =>
    refine exec_answered rfl rfl rfl htake ((liveAnswer_comesLive (s := s.takeOut _ _) howner h).trans ?_)
    rw [State.settleRecords, comesLive_eq (s := s.takeOut _ _) howner, foldl_post_stack]
    rfl
  case isFalse h => exact exec_turnedAway rfl rfl rfl htake (liveAnswer_state howner h)

/-! ## One wake, by the table of R18 -/

section Wakes
variable {s : State} {c : CarrierId} {level : Nat}

theorem honours_iff : s.honours c level = true ↔ level = 7 ∨ s.quietLevel c < level := by
  simp [State.honours]

/-- A wake of a carrier that is not DRAINING does what the table says. -/
theorem wakeCarrier_eq (hlevel : 1 ≤ level) (h : (s.carrier c).state ≠ .draining) :
    s.wakeCarrier c level =
      { state := s.setCarrier c (wakeTable (s.carrier c) (s.quietLevel c) level).2.1
        outcome := (wakeTable (s.carrier c) (s.quietLevel c) level).1
        report := (wakeTable (s.carrier c) (s.quietLevel c) level).2.2.bind
          (fun report => (s.carrier c).provision.map (fun pv => report pv.branch))
        freed := none } := by
  have hself : s.setCarrier c (s.carrier c) = s := by simp [State.setCarrier, State.carrier]
  unfold State.wakeCarrier wakeTable
  cases hstate : (s.carrier c).state with
  | draining => exact absurd hstate h
  | vacant => simp [hself, hstate]
  | on => simp [hself, hstate]
  | barred => simp [hstate]
  | resting =>
    by_cases hhonours : level = 7 ∨ s.quietLevel c < level
    · simp [hstate, honours_iff.mpr hhonours, hhonours, Carrier.woken, Carrier.reportWith]
    · have hnot : s.honours c level = false := by
        rw [← Bool.not_eq_true, honours_iff]
        exact hhonours
      simp [hstate, hnot, hhonours]
  | waking =>
    cases hwake : (s.carrier c).wakeLevel with
    | none =>
      have hpos : 0 < level := hlevel
      simp [hstate, hwake, hpos, Carrier.reportWith]
    | some w =>
      by_cases hw : w < level
      · simp [hstate, hwake, hw, Nat.not_le.mpr hw, Carrier.reportWith]
      · simp [hstate, hwake, hw, Nat.le_of_not_lt hw, hself]

theorem wakeCarrier_draining (h : (s.carrier c).state = .draining) :
    s.wakeCarrier c level =
      { state := s.cancelDrain c .wake, outcome := .cancelledDrain, report := none, freed := some c } := by
  simp only [State.wakeCarrier, h]

/-- A wake of one carrier, with all that follows in its event. -/
theorem wakeOne_eq {pv : Provision} (hpv : (s.carrier c).provision = some pv) (hlevel : 1 ≤ level)
    (h : (s.carrier c).state ≠ .draining) :
    s.wakeOne c level = (s.setCarrier c (wakeTable (s.carrier c) (s.quietLevel c) level).2.1).reportTo pv.branch
      (wakeTable (s.carrier c) (s.quietLevel c) level).2.2 := by
  rw [State.wakeOne, WakeRound.deliver, WakeRound.finish, WakeRound.start, wakeCarrier_eq hlevel h, hpv]
  cases (wakeTable (s.carrier c) (s.quietLevel c) level).2.2 <;> rfl

theorem wakeOne_draining (h : (s.carrier c).state = .draining) : s.wakeOne c level = s.cancelAndOffer c .wake := by
  rw [State.wakeOne, WakeRound.deliver, WakeRound.finish, WakeRound.start, wakeCarrier_draining h]
  rfl

theorem UnmuteFrame.reportTo (s : State) (b : BranchId) (report : Option (BranchId → MemberReport)) :
    UnmuteFrame s (s.reportTo b report) := by
  cases report with
  | none => exact UnmuteFrame.refl s
  | some report => exact UnmuteFrame.memberReport s _

/-- The record after a wake of one carrier, but for an unmute. -/
theorem wakeOne_carrier {pv : Provision} (hpv : (s.carrier c).provision = some pv) (hlevel : 1 ≤ level)
    (h : (s.carrier c).state ≠ .draining) :
    KeptOrUnmuted (wakeTable (s.carrier c) (s.quietLevel c) level).2.1 ((s.wakeOne c level).carrier c) := by
  have hkept := (UnmuteFrame.reportTo (s.setCarrier c (wakeTable (s.carrier c) (s.quietLevel c) level).2.1) pv.branch
    (wakeTable (s.carrier c) (s.quietLevel c) level).2.2).carriers c
  rw [carrier_setCarrier, if_pos rfl] at hkept
  rwa [wakeOne_eq hpv hlevel h]

/-- A freed slot may take the carrier it came from again, and changes nothing of it but the drain (R9). -/
theorem cancelAndOffer_carrier (s : State) (c : CarrierId) (reason : CancelReason) :
    ((s.cancelAndOffer c reason).carrier c).state = .on ∨ ((s.cancelAndOffer c reason).carrier c).state = .draining := by
  have hcancelled : (s.cancelDrain c reason).carrier c = (s.carrier c).cancelled reason := by
    rw [cancelDrain_carrier, if_pos rfl]
  rcases (OfferFrame.offerOwnersSlots (s.cancelDrain c reason) c).carriers c with hsame | ⟨-, -, -, k, hdrained⟩
  · left
    rw [State.cancelAndOffer, hsame, hcancelled]
    rfl
  · right
    rw [State.cancelAndOffer, hdrained]

theorem cancelAndOffer_claims (s : State) (c : CarrierId) (reason : CancelReason) (d : CarrierId) :
    ((s.cancelAndOffer c reason).carrier d).claims = (s.carrier d).claims := by
  have hcancelled : ((s.cancelDrain c reason).carrier d).claims = (s.carrier d).claims := by
    rw [cancelDrain_carrier]
    split
    · next hd => rw [hd]; rfl
    · rfl
  rcases (OfferFrame.offerOwnersSlots (s.cancelDrain c reason) c).carriers d with hsame | ⟨-, -, -, k, hdrained⟩
  · rw [State.cancelAndOffer, hsame, hcancelled]
  · rw [State.cancelAndOffer, hdrained, hcancelled]

end Wakes

/-! ## WAKE (R88) -/

section WakeRequests
variable {s : State} {t : TenantId} {c : CarrierId} {level : Byte}

theorem wakeAnswer_range (h : level.toNat = 0 ∨ 7 < level.toNat) (p : Port) (b : Byte) :
    wakeAnswer p b level s = .fail .range s := by
  rw [wakeAnswer, asLevel_outside h]

theorem wakeAnswer_owner (h1 : 1 ≤ level.toNat) (h7 : level.toNat ≤ 7) (howner : (s.carrier c).ownedBy t = true) :
    wakeAnswer (.tenant t) (indexByte c) level s =
      .okWith [(s.wakeCarrier c level.toNat).outcome.code, ((s.wakeOne c level.toNat).carrier c).state.code,
        byteOf (s.quietLevel c), wakeOrPending ((s.wakeOne c level.toNat).carrier c)] (s.wakeOne c level.toNat) := by
  rw [wakeAnswer, asLevel_inside h1 h7]
  exact ownCarrier_owner howner _

/-- The last byte of a WAKE reply looks at fields that an unmute leaves. -/
theorem wakeOrPending_kept {r r' : Carrier} (h : KeptOrUnmuted r r') : wakeOrPending r' = wakeOrPending r := by
  unfold wakeOrPending
  rw [h.state, h.wakeLevel, h.pendingWake]

theorem wakeTable_state_ne {r : Carrier} (hv : r.state ≠ .vacant) (hd : r.state ≠ .draining) (quiet level : Nat) :
    (wakeTable r quiet level).2.1.state ≠ .vacant ∧ (wakeTable r quiet level).2.1.state ≠ .draining := by
  unfold wakeTable
  repeat' split
  all_goals simp_all

end WakeRequests

/-- Settles O18, by the state of the carrier. -/
theorem wakeActsByTheCarriersState : Obligations.WakeActsByTheCarriersState := by
  refine ⟨fun t b level s htake h => exec_turnedAway rfl rfl rfl htake (wakeAnswer_range h _ _),
    fun t c level pv s htake hpv howner h1 h7 => ?_⟩
  intro quiet after
  have howned : (s.carrier c).ownedBy t = true := (ownedBy_iff hpv t).mpr howner
  refine ⟨fun hv hd => ?_, fun hd => ?_⟩
  · refine exec_answered rfl rfl rfl htake ((wakeAnswer_owner (s := s.takeOut _ _) h1 h7 howned).trans ?_)
    have hkept := wakeOne_carrier (s := s.takeOut (.tenant t) (requestFrame .wake [indexByte c, level])) hpv h1 hd
    rw [hkept.state, wakeOrPending_kept hkept, wakeCarrier_eq (s := s.takeOut _ _) h1 hd,
      wakeOne_eq (s := s.takeOut _ _) hpv h1 hd]
    have hlast : wakeOrPending after.2.1 = match after.2.1.state with
        | .waking => optionByte byteOf after.2.1.wakeLevel
        | .on => 0xFF#8
        | _ => byteOf after.2.1.pendingWake := by
      obtain ⟨hnotVacant, hnotDraining⟩ := wakeTable_state_ne hv hd quiet level.toNat
      unfold wakeOrPending
      cases hstate : after.2.1.state with
      | vacant => exact absurd hstate hnotVacant
      | draining => exact absurd hstate hnotDraining
      | on => rfl
      | resting => rfl
      | waking => rfl
      | barred => rfl
    exact congrArg (fun last => Answer.okWith [after.1.code, after.2.1.state.code, byteOf quiet, last] _) hlast
  · intro cancelled state
    refine ⟨cancelAndOffer_carrier _ c .wake,
      exec_answered rfl rfl rfl htake ((wakeAnswer_owner (s := s.takeOut _ _) h1 h7 howned).trans ?_)⟩
    rw [wakeOne_draining (s := s.takeOut _ _) hd, wakeCarrier_draining (s := s.takeOut _ _) hd]
    have hlast : wakeOrPending (cancelled.carrier c) = 0xFF#8 := by
      have hstate : state = .on ∨ state = .draining := cancelAndOffer_carrier _ c .wake
      unfold wakeOrPending
      rcases hstate with h | h <;> simp only [show (cancelled.carrier c).state = _ from h]
    rw [hlast]
    rfl

/-! ## HOLD (R34 to R36) -/

theorem claims_addClaim (set : BitVec 5) (m m' : Claimant) :
    claims (addClaim set m) m' = (claims set m' || m' == m) := by
  by_cases h : m' = m
  · subst h
    simp [claims, addClaim, Claimant.bit_lt]
  · have hbit : m'.bit ≠ m.bit := fun e => h (Claimant.bit_eq_iff.mp e)
    have hne : (m' == m) = false := beq_eq_false_iff_ne.mpr h
    simp [claims, addClaim, Claimant.bit_lt, hbit, hne]

section Holds
variable {p : Port} {m : Claimant} {c : CarrierId} {level : Byte} {s : State}

theorem holdAnswer_range {b : Byte} (h : 48 ≤ b.toNat ∨ level.toNat = 0 ∨ 7 < level.toNat) :
    holdAnswer p b level s = .fail .range s := by
  rcases h with h | h
  · exact holdAnswer_outside p h level s
  · unfold holdAnswer
    rw [asLevel_outside h]
    cases claimantOf p <;> cases asCarrier b <;> rfl

variable (hm : claimantOf p = some m) (h1 : 1 ≤ level.toNat) (h7 : level.toNat ≤ 7)
include hm h1 h7

theorem holdAnswer_vacant (h : (s.carrier c).state = .vacant) : holdAnswer p (indexByte c) level s = .fail .state s := by
  rw [holdAnswer, hm, asCarrier_indexByte, asLevel_inside h1 h7]
  exact if_pos h

theorem holdAnswer_already (hv : (s.carrier c).state ≠ .vacant) (h : claims (s.carrier c).claims m = true) :
    holdAnswer p (indexByte c) level s = .fail .already s := by
  rw [holdAnswer, hm, asCarrier_indexByte, asLevel_inside h1 h7]
  exact (if_neg hv).trans (if_pos h)

theorem holdAnswer_holds (hv : (s.carrier c).state ≠ .vacant) (h : claims (s.carrier c).claims m = false) :
    holdAnswer p (indexByte c) level s =
      .okWith [(s.holdOutcome c level.toNat).code, setByte ((s.holdCarrier c m level.toNat).carrier c).claims]
        (s.holdCarrier c m level.toNat) := by
  rw [holdAnswer, hm, asCarrier_indexByte, asLevel_inside h1 h7]
  exact (if_neg hv).trans (if_neg (by simp [h]))

end Holds

section Claimed
variable {m : Claimant} {c : CarrierId} {level : Nat} {s : State}

/-- The record with the claim of a HOLD (R34). -/
def Carrier.claimedBy (r : Carrier) (m : Claimant) : Carrier := { r with claims := addClaim r.claims m }

theorem placeClaim_carrier : (s.placeClaim c m).carrier c = (s.carrier c).claimedBy m := by
  simp [State.placeClaim, Carrier.claimedBy]

theorem placeClaim_quietLevel : (s.placeClaim c m).quietLevel c = s.quietLevel c := by
  unfold State.quietLevel
  rw [placeClaim_carrier]
  rfl

/-- The table of R18 looks at no claim. -/
theorem wakeTable_claimedBy (r : Carrier) (m : Claimant) (quiet level : Nat) :
    (wakeTable (r.claimedBy m) quiet level).1 = (wakeTable r quiet level).1 := by
  unfold wakeTable Carrier.claimedBy
  repeat' split
  all_goals simp_all

theorem wakeTable_claims (r : Carrier) (quiet level : Nat) : (wakeTable r quiet level).2.1.claims = r.claims := by
  unfold wakeTable
  repeat' split
  all_goals rfl

theorem holdCarrier_draining (h : (s.carrier c).state = .draining) :
    s.holdCarrier c m level = (s.setCarrier c ((s.carrier c).claimedBy m)).cancelAndOffer c .claimed := by
  have hclaimed : ((s.placeClaim c m).carrier c).state = .draining := by
    rw [placeClaim_carrier]
    exact h
  exact if_pos hclaimed

theorem holdCarrier_wakes (h : (s.carrier c).state ≠ .draining) :
    s.holdCarrier c m level = (s.placeClaim c m).wakeOne c level := by
  have hclaimed : ((s.placeClaim c m).carrier c).state ≠ .draining := by
    rw [placeClaim_carrier]
    exact h
  exact if_neg hclaimed

end Claimed

/-- Settles O20, by the checks and the state of the carrier. -/
theorem holdPlacesAClaim : Obligations.HoldPlacesAClaim := by
  have hpermitted : ∀ p, p ≠ .fleet → RequestKind.hold.permitted (Port.role p) = true := by
    intro p hp
    cases p with
    | fleet => exact absurd rfl hp
    | plant => rfl
    | tenant t => rfl
  refine ⟨claims_addClaim, fun p b level s hp htake h => exec_turnedAway rfl rfl (hpermitted p hp) htake
      (holdAnswer_range h), fun p m c level s hm htake h1 h7 => ?_,
    fun p m c level pv s hm htake h1 h7 hpv hv hc => ?_⟩
  · have hrole := hpermitted p (ne_fleet_of_claimantOf hm)
    exact ⟨fun hv => exec_turnedAway rfl rfl hrole htake (holdAnswer_vacant hm h1 h7 hv),
      fun hv hc => exec_turnedAway rfl rfl hrole htake (holdAnswer_already hm h1 h7 hv hc)⟩
  · intro claimed after
    have hrole := hpermitted p (ne_fleet_of_claimantOf hm)
    have hanswer := holdAnswer_holds (s := s.takeOut p (requestFrame .hold [indexByte c, level])) hm h1 h7 hv hc
    split
    case isTrue hd =>
      refine exec_answered rfl rfl hrole htake (hanswer.trans ?_)
      rw [holdCarrier_draining (s := s.takeOut _ _) hd, cancelAndOffer_claims, carrier_setCarrier, if_pos rfl,
        State.holdOutcome, wakeCarrier_draining (s := s.takeOut _ _) hd]
      rfl
    case isFalse hd =>
      refine exec_answered rfl rfl hrole htake (hanswer.trans ?_)
      have hd' : (((s.takeOut p (requestFrame .hold [indexByte c, level])).placeClaim c m).carrier c).state
          ≠ .draining := by
        rw [placeClaim_carrier]
        exact hd
      have hpv' : (((s.takeOut p (requestFrame .hold [indexByte c, level])).placeClaim c m).carrier c).provision
          = some pv := by
        rw [placeClaim_carrier]
        exact hpv
      rw [holdCarrier_wakes (s := s.takeOut _ _) hd, (wakeOne_carrier hpv' h1 hd').claims, wakeTable_claims,
        placeClaim_carrier, wakeOne_eq hpv' h1 hd', placeClaim_carrier, placeClaim_quietLevel, State.holdOutcome,
        wakeCarrier_eq (s := s.takeOut _ _) h1 hd, State.placeClaim, setCarrier_setCarrier]
      exact congrArg (fun outcome => Answer.okWith [WakeOutcome.code outcome, setByte claimed.claims] _)
        (wakeTable_claimedBy _ m _ _).symm

end Sys2Proof.Machine

/-!
SUPPORT. What a start or a completion of a channel posts (R136), and the rounds of wakes carrier by carrier (R81): O19.
-/
namespace Sys2Proof.Machine
open Sys2Proof

/-! ## What the channels post -/

/-- CHANNEL_DONE to the fleet and plant ports, and nothing to a tenant's. -/
structure DoneFrame (s u : State) : Prop where
  tenants : ∀ t, u.port (.tenant t) = s.port (.tenant t)
  others : ∀ p, ∃ dones, DonesOnly dones ∧ u.port p = dones.foldl PortState.post (s.port p)

namespace DoneFrame
variable {s t u : State}

theorem of_ports (h : ∀ p, u.port p = s.port p) : DoneFrame s u :=
  ⟨fun _ => h _, fun p => ⟨[], by simp [DonesOnly], h p⟩⟩

theorem refl (s : State) : DoneFrame s s := of_ports fun _ => rfl

theorem trans (h : DoneFrame s t) (k : DoneFrame t u) : DoneFrame s u where
  tenants x := (k.tenants x).trans (h.tenants x)
  others p := by
    obtain ⟨xs, hxs, hport⟩ := h.others p
    obtain ⟨ys, hys, hport'⟩ := k.others p
    refine ⟨xs ++ ys, fun n hn => ?_, by rw [hport', hport, List.foldl_append]⟩
    rcases List.mem_append.mp hn with hn | hn
    · exact hxs n hn
    · exact hys n hn

theorem of_startCloses {k : ChannelId} {ch : Channel} {result : DoneResult} (h : StartCloses k ch result s t) :
    DoneFrame s t := by
  obtain ⟨-, -, -, -, -, -, -, -, -, -, -, -, hport, -⟩ := h
  refine ⟨fun x => by simp [hport], fun p => ?_⟩
  rw [hport]
  split
  · exact ⟨[_], by simp [DonesOnly], rfl⟩
  · exact ⟨[], by simp [DonesOnly], rfl⟩

theorem startTaken (s : State) (source : StartSource) : DoneFrame s (s.startTaken source) :=
  of_ports fun p => by cases source <;> rfl

theorem takeStart (s : State) (k : ChannelId) (source : StartSource) : DoneFrame s (s.takeStart k source) := by
  by_cases hcount : (s.channel k).count = 0
  · exact (startTaken s source).trans (of_startCloses (takeStart_closes hcount source))
  · rw [takeStart_steps hcount]
    exact of_ports fun p => by cases source <;> rfl

theorem deliverStart (s : State) (k : ChannelId) (source : StartSource) : DoneFrame s (s.deliverStart k source) := by
  by_cases hidle : (s.channel k).state = .idle
  · rw [deliverStart_idle hidle]
    exact takeStart s k source
  · rw [deliverStart_busy hidle]
    exact of_ports fun p => rfl

theorem followLink (s : State) (k : ChannelId) : DoneFrame s (s.followLink k) := by
  unfold State.followLink
  dsimp only
  split
  · exact deliverStart s _ _
  · exact refl s

theorem takePending (s : State) (k : ChannelId) : DoneFrame s (s.takePending k) := by
  unfold State.takePending
  dsimp only
  split
  · exact refl s
  · have hcleared : DoneFrame s (s.setChannel k { s.channel k with pendingStart := none }) := of_ports fun p => rfl
    exact hcleared.trans (takeStart _ k _)

theorem completeIfDone (s : State) (k : ChannelId) : DoneFrame s (s.completeIfDone k) := by
  unfold State.completeIfDone
  split
  · exact ((of_startCloses (startCloses_done s k)).trans (followLink _ k)).trans (takePending _ k)
  · exact refl s

theorem drainOutcome (s : State) (k : ChannelId) (outcome : DrainOutcome) : DoneFrame s (s.drainOutcome k outcome) := by
  unfold State.drainOutcome
  split
  · exact refl s
  · have hcounted : DoneFrame s (s.setChannel k ((s.channel k).countOutcome outcome)) := of_ports fun p => rfl
    exact hcounted.trans (completeIfDone _ k)

theorem reportOutcome (s : State) (k : Option ChannelId) (outcome : DrainOutcome) :
    DoneFrame s (s.reportOutcome k outcome) := by
  cases k with
  | none => exact refl s
  | some k => exact drainOutcome s k outcome

theorem entryProcessed (s : State) (k : ChannelId) (ch : Channel) : DoneFrame s (s.entryProcessed k ch) := by
  have hmoved : DoneFrame s (s.setChannel k ch.processed) := of_ports fun p => rfl
  exact hmoved.trans (completeIfDone _ k)

end DoneFrame

/-! ## One wake at a record -/

/-- The record after a wake, in every state: a drain is cancelled, and otherwise the table of R18 says. -/
def Carrier.afterWake (r : Carrier) (quiet level : Nat) : Carrier :=
  if r.state = .draining then r.cancelled .wake else (wakeTable r quiet level).2.1

theorem quietLevel_congr {s u : State} {c : CarrierId} (hc : u.carrier c = s.carrier c) (ht : u.timer = s.timer) :
    u.quietLevel c = s.quietLevel c := by
  have hwindow : ∀ w, u.window w = s.window w := fun w => by rw [State.window, ht, State.window]
  unfold State.quietLevel State.windowOpen
  rw [hc]
  simp only [hwindow]

section OneWake
variable {s : State} {c : CarrierId} {level : Nat}

theorem wakeCarrier_carrier (hlevel : 1 ≤ level) (d : CarrierId) :
    (s.wakeCarrier c level).state.carrier d =
      if d = c then (s.carrier c).afterWake (s.quietLevel c) level else s.carrier d := by
  by_cases h : (s.carrier c).state = .draining
  · rw [wakeCarrier_draining h, cancelDrain_carrier, Carrier.afterWake, if_pos h]
  · rw [wakeCarrier_eq hlevel h, carrier_setCarrier, Carrier.afterWake, if_neg h]

theorem wakeCarrier_drainFrame (hlevel : 1 ≤ level) : DrainFrame s (s.wakeCarrier c level).state := by
  by_cases h : (s.carrier c).state = .draining
  · rw [wakeCarrier_draining h]
    exact cancelDrain_drainFrame s c _
  · rw [wakeCarrier_eq hlevel h]
    exact (DrainFrame.refl s).setCarrier c _

theorem cancelDrain_tenant (s : State) (c : CarrierId) (reason : CancelReason) (t : TenantId) :
    (s.cancelDrain c reason).port (.tenant t) =
      if (s.carrier c).ownedBy t = true then (s.port (.tenant t)).post (.drainCancel c reason)
      else s.port (.tenant t) := by
  rw [State.cancelDrain, (DoneFrame.reportOutcome _ _ _).tenants, postOwner_tenant, carrier_setCarrier, if_pos rfl,
    setCarrier_port]
  rfl

theorem wakeCarrier_tenant (hlevel : 1 ≤ level) (t : TenantId) :
    (s.wakeCarrier c level).state.port (.tenant t) =
      if (s.carrier c).state == .draining && (s.carrier c).ownedBy t then
        (s.port (.tenant t)).post (.drainCancel c .wake)
      else s.port (.tenant t) := by
  by_cases h : (s.carrier c).state = .draining
  · rw [wakeCarrier_draining h, cancelDrain_tenant]
    simp [h]
  · rw [wakeCarrier_eq hlevel h]
    simp [h]

/-- The report that a wake of the carrier owes (R19). -/
def Carrier.wakeReport (r : Carrier) (quiet level : Nat) : Option MemberReport :=
  (wakeTable r quiet level).2.2.bind (fun report => r.provision.map (fun pv => report pv.branch))

theorem wakeCarrier_report (hlevel : 1 ≤ level) :
    (s.wakeCarrier c level).report = (s.carrier c).wakeReport (s.quietLevel c) level := by
  by_cases h : (s.carrier c).state = .draining
  · rw [wakeCarrier_draining h, Carrier.wakeReport, wakeTable, h]
    rfl
  · rw [wakeCarrier_eq hlevel h, Carrier.wakeReport]

theorem wakeCarrier_freed (hlevel : 1 ≤ level) :
    (s.wakeCarrier c level).freed = if (s.carrier c).state = .draining then some c else none := by
  by_cases h : (s.carrier c).state = .draining
  · rw [wakeCarrier_draining h, if_pos h]
  · rw [wakeCarrier_eq hlevel h, if_neg h]

theorem wakeCarrier_outcome (hlevel : 1 ≤ level) (h : (s.carrier c).state ≠ .draining) :
    (s.wakeCarrier c level).outcome = (wakeTable (s.carrier c) (s.quietLevel c) level).1 := by
  rw [wakeCarrier_eq hlevel h]

end OneWake

/-! ## A round of wakes, carrier by carrier of a list (R81) -/

/-- What the wakes of a list of carriers make of a round, by the records that the round found. -/
structure Delivered (reaches : Carrier → Bool) (level : Nat) (s : State) (l : List CarrierId) (w w' : WakeRound) :
    Prop where
  frame : DrainFrame w.state w'.state
  carrier : ∀ d, w'.state.carrier d =
    if d ∈ l ∧ reaches (s.carrier d) = true then (s.carrier d).afterWake (s.quietLevel d) level else w.state.carrier d
  tenant : ∀ t, w'.state.port (.tenant t) =
    ((l.filter (fun c => reaches (s.carrier c) && (s.carrier c).state == .draining && (s.carrier c).ownedBy t)).map
      (fun c => Notice.drainCancel c .wake)).foldl PortState.post (w.state.port (.tenant t))
  reports : w'.reports = w.reports ++ l.filterMap (fun c =>
    if reaches (s.carrier c) = true then (s.carrier c).wakeReport (s.quietLevel c) level else none)
  freed : w'.freed = w.freed ++ l.filter (fun c => reaches (s.carrier c) && (s.carrier c).state == .draining)
  woken : w'.woken = w.woken + l.countP (fun c => reaches (s.carrier c) && (s.carrier c).state == .resting
    && (wakeTable (s.carrier c) (s.quietLevel c) level).1 == .honoured)
  cancelled : w'.cancelled = w.cancelled + l.countP (fun c => reaches (s.carrier c) && (s.carrier c).state == .draining)
  raised : w'.raised = w.raised + l.countP (fun c => reaches (s.carrier c) && (s.carrier c).state == .waking
    && (wakeTable (s.carrier c) (s.quietLevel c) level).1 == .honoured)
  pending : w'.pending = w.pending + l.countP (fun c => reaches (s.carrier c) && (s.carrier c).state == .barred)

namespace Delivered
variable {reaches : Carrier → Bool} {level : Nat} {s : State} {l : List CarrierId} {w w₁ w₂ : WakeRound} {c : CarrierId}

theorem nil (w : WakeRound) : Delivered reaches level s [] w w where
  frame := DrainFrame.refl _
  carrier d := by simp
  tenant t := rfl
  reports := by simp
  freed := by simp
  woken := rfl
  cancelled := rfl
  raised := rfl
  pending := rfl

/-- A carrier that the source does not reach is passed over. -/
theorem skipped (h : reaches (s.carrier c) = false) : Delivered reaches level s [c] w w where
  frame := DrainFrame.refl _
  carrier d := by
    rw [if_neg]
    rintro ⟨hd, hreached⟩
    rw [List.mem_singleton.mp hd, h] at hreached
    cases hreached
  tenant t := by simp [h]
  reports := by simp [h]
  freed := by simp [h]
  woken := by simp [h]
  cancelled := by simp [h]
  raised := by simp [h]
  pending := by simp [h]

/-- A carrier that it reaches gets its wake. -/
theorem delivered (hlevel : 1 ≤ level) (h : reaches (s.carrier c) = true) (hc : w.state.carrier c = s.carrier c)
    (htimer : w.state.timer = s.timer) : Delivered reaches level s [c] w (w.deliver c level) where
  frame := wakeCarrier_drainFrame hlevel
  carrier d := by
    show (w.state.wakeCarrier c level).state.carrier d = _
    rw [wakeCarrier_carrier hlevel, hc, quietLevel_congr hc htimer]
    by_cases hd : d = c
    · simp [hd, h]
    · simp [hd]
  tenant t := by
    show (w.state.wakeCarrier c level).state.port _ = _
    rw [wakeCarrier_tenant hlevel, hc]
    cases hb : ((s.carrier c).state == .draining && (s.carrier c).ownedBy t) <;>
      simp_all
  reports := by
    show w.reports ++ (w.state.wakeCarrier c level).report.toList = _
    rw [wakeCarrier_report hlevel, hc, quietLevel_congr hc htimer]
    cases hreport : (s.carrier c).wakeReport (s.quietLevel c) level <;> simp [h, hreport]
  freed := by
    show w.freed ++ (w.state.wakeCarrier c level).freed.toList = _
    rw [wakeCarrier_freed hlevel, hc]
    by_cases hd : (s.carrier c).state = .draining <;> simp [h, hd]
  woken := by
    show (if (w.state.carrier c).state = .resting ∧ (w.state.wakeCarrier c level).outcome = .honoured then
      w.woken + 1 else w.woken) = _
    by_cases hs : (s.carrier c).state = .resting
    · rw [wakeCarrier_outcome hlevel (by simp [hc, hs]), hc, quietLevel_congr hc htimer]
      by_cases ho : (wakeTable (s.carrier c) (s.quietLevel c) level).1 = .honoured <;> simp [h, hs, ho]
    · simp [hc, h, hs]
  cancelled := by
    show (if (w.state.carrier c).state = .draining then w.cancelled + 1 else w.cancelled) = _
    by_cases hs : (s.carrier c).state = .draining <;> simp [hc, h, hs]
  raised := by
    show (if (w.state.carrier c).state = .waking ∧ (w.state.wakeCarrier c level).outcome = .honoured then
      w.raised + 1 else w.raised) = _
    by_cases hs : (s.carrier c).state = .waking
    · rw [wakeCarrier_outcome hlevel (by simp [hc, hs]), hc, quietLevel_congr hc htimer]
      by_cases ho : (wakeTable (s.carrier c) (s.quietLevel c) level).1 = .honoured <;> simp [h, hs, ho]
    · simp [hc, h, hs]
  pending := by
    show (if (w.state.carrier c).state = .barred then w.pending + 1 else w.pending) = _
    by_cases hs : (s.carrier c).state = .barred <;> simp [hc, h, hs]

theorem cons (h : Delivered reaches level s [c] w w₁) (k : Delivered reaches level s l w₁ w₂) :
    Delivered reaches level s (c :: l) w w₂ where
  frame := h.frame.trans k.frame
  carrier d := by
    rw [k.carrier, h.carrier]
    by_cases hd : d ∈ l ∧ reaches (s.carrier d) = true
    · rw [if_pos hd, if_pos ⟨List.mem_cons_of_mem c hd.1, hd.2⟩]
    · rw [if_neg hd]
      refine ite_congr (propext ?_) (fun _ => rfl) fun _ => rfl
      rw [List.mem_singleton, List.mem_cons]
      exact ⟨fun hc => ⟨.inl hc.1, hc.2⟩, fun hc => ⟨hc.1.resolve_right fun hl => hd ⟨hl, hc.2⟩, hc.2⟩⟩
  tenant t := by
    rw [k.tenant, h.tenant, ← List.foldl_append, ← List.map_append, ← List.filter_append]
    rfl
  reports := by
    rw [k.reports, h.reports, List.append_assoc, ← List.filterMap_append]
    rfl
  freed := by
    rw [k.freed, h.freed, List.append_assoc, ← List.filter_append]
    rfl
  woken := by
    rw [k.woken, h.woken, Nat.add_assoc, ← List.countP_append]
    rfl
  cancelled := by
    rw [k.cancelled, h.cancelled, Nat.add_assoc, ← List.countP_append]
    rfl
  raised := by
    rw [k.raised, h.raised, Nat.add_assoc, ← List.countP_append]
    rfl
  pending := by
    rw [k.pending, h.pending, Nat.add_assoc, ← List.countP_append]
    rfl

/-- The wakes of a list without repetitions, each of whose carriers the round has not reached before. -/
theorem deliverAll (hlevel : 1 ≤ level) (hl : l.Nodup) (hcarriers : ∀ c ∈ l, w.state.carrier c = s.carrier c)
    (htimer : w.state.timer = s.timer) : Delivered reaches level s l w (w.deliverAll reaches level l) := by
  induction l generalizing w with
  | nil => exact nil w
  | cons c l ih =>
    obtain ⟨hc, hl⟩ := List.nodup_cons.mp hl
    have hsame := hcarriers c (List.mem_cons_self ..)
    have hstep : Delivered reaches level s [c] w (if reaches (w.state.carrier c) then w.deliver c level else w) := by
      rw [hsame]
      by_cases hreached : reaches (s.carrier c) = true
      · rw [if_pos hreached]
        exact delivered hlevel hreached hsame htimer
      · rw [if_neg hreached]
        exact skipped (by simpa using hreached)
    refine hstep.cons (ih hl (fun d hd => ?_) ?_)
    · rw [hstep.carrier, if_neg, hcarriers d (List.mem_cons_of_mem c hd)]
      rintro ⟨hdc, -⟩
      exact hc (List.mem_singleton.mp hdc ▸ hd)
    · obtain ⟨-, -, -, -, -, -, hkept, -⟩ := hstep.frame
      exact hkept.trans htimer

theorem wakeRound (hlevel : 1 ≤ level) (s : State) :
    Delivered reaches level s carrierIds (WakeRound.start s) (s.wakeRound reaches level) :=
  deliverAll hlevel carrierIds_nodup (fun _ _ => rfl) rfl

end Delivered

/-- Settles O19, carrier by carrier of the round. -/
theorem aRoundWakesEachCarrierByItsOwnState : Obligations.ARoundWakesEachCarrierByItsOwnState := by
  refine ⟨fun round => rfl, fun reaches level s h1 _ _ _ => ?_⟩
  intro round result
  have h : Delivered reaches level s carrierIds (WakeRound.start s) round := Delivered.wakeRound h1 s
  obtain ⟨hctrl, harb, -⟩ := h.frame
  have hmem : ∀ c : CarrierId, c ∈ carrierIds := List.mem_finRange
  refine ⟨hctrl, harb, fun c hc => ?_, fun c hc hd => ?_, fun c hc hd => ?_, fun t => h.tenant t, ?_, ?_, ?_, ?_, ?_, ?_⟩
  · rw [h.carrier, if_neg (by simp [hc])]
    rfl
  · rw [h.carrier, if_pos ⟨hmem c, hc⟩, Carrier.afterWake, if_neg hd]
  · rw [h.carrier, if_pos ⟨hmem c, hc⟩, Carrier.afterWake, if_pos hd, cancelled_eq]
    simp
  · exact h.reports
  · exact h.freed
  · exact h.woken.trans (Nat.zero_add _)
  · exact h.cancelled.trans (Nat.zero_add _)
  · exact h.raised.trans (Nat.zero_add _)
  · exact h.pending.trans (Nat.zero_add _)

end Sys2Proof.Machine

/-!
SUPPORT. Entry into SAFE_HALT, block by block in whatever order they react (R27, R77, R140, R177): O29. With it the
deadlines of the carriers and the branches: O43, O44.
-/
namespace Sys2Proof.Machine
open Sys2Proof

/-! ## Offers of a slot in SAFE_HALT -/

/-- A channel that an offer in SAFE_HALT may have retried: one that is BLOCKED, and no other. -/
def RetriedIfBlocked (ch ch' : Channel) : Prop := ch.state ≠ .blocked → ch' = ch

/-- What the end of a drain does in SAFE_HALT beside its own carrier: retries of BLOCKED channels, and notices. -/
structure HaltedOffer (s u : State) : Prop where
  carriers : ∀ c, u.carrier c = s.carrier c
  channels : ∀ k, RetriedIfBlocked (s.channel k) (u.channel k)
  halted : u.halted = true

namespace HaltedOffer
variable {s t u : State}

theorem refl (hs : s.halted = true) : HaltedOffer s s := ⟨fun _ => rfl, fun _ _ => rfl, hs⟩

theorem trans (h : HaltedOffer s t) (k : HaltedOffer t u) : HaltedOffer s u where
  carriers c := (k.carriers c).trans (h.carriers c)
  channels j hj := by
    have hsame := h.channels j hj
    rw [k.channels j (by rwa [hsame]), hsame]
  halted := k.halted

/-- An entry read in SAFE_HALT is declined, and nothing completes (R8, R135). -/
theorem processEntry_declines (hs : s.halted = true) (k : ChannelId) : ∃ reason,
    s.processEntry k = s.setChannel k ((s.channel k).declineEntry reason).processed := by
  have hdeclined : ∀ reason, s.entryDeclined k reason =
      s.setChannel k ((s.channel k).declineEntry reason).processed := fun reason =>
    completeIfDone_not (.inl (by simpa using hs))
  cases hentry : s.restEntry (s.channel k).pointer with
  | none => exact ⟨_, (processEntry_noEntry hentry).trans (hdeclined _)⟩
  | some c => exact ⟨_, (processEntry_declined hentry (drainAnswer_halted hs)).trans (hdeclined _)⟩

theorem offerSlotTo (hs : s.halted = true) (t : TenantId) (k : ChannelId) : HaltedOffer s (s.offerSlotTo t k) := by
  unfold State.offerSlotTo
  split
  case isFalse => exact refl hs
  case isTrue hwaits =>
    obtain ⟨reason, heq⟩ := processEntry_declines hs k
    rw [heq]
    refine ⟨fun c => rfl, fun j hj => ?_, hs⟩
    rw [channel_setChannel, if_neg]
    rintro rfl
    have hblocked : (s.channel j).state = .blocked := by
      have hboth := hwaits.1
      simp only [Channel.waitsOn, Bool.and_eq_true, beq_iff_eq] at hboth
      exact hboth.1
    exact hj hblocked

theorem foldl {α : Type} {f : State → α → State} (hf : ∀ u a, u.halted = true → HaltedOffer u (f u a)) (l : List α)
    (hs : s.halted = true) : HaltedOffer s (l.foldl f s) := by
  induction l generalizing s with
  | nil => exact refl hs
  | cons a l ih => exact (hf s a hs).trans (ih (hf s a hs).halted)

theorem offerOwnersSlots (hs : s.halted = true) (c : CarrierId) : HaltedOffer s (s.offerOwnersSlots c) := by
  unfold State.offerOwnersSlots
  split
  · exact refl hs
  · exact foldl (fun _ _ hu => offerSlotTo hu _ _) _ hs

end HaltedOffer

/-! ## The Carrier Table's reaction (R27) -/

/-- The outcome of a drain changes nothing in SAFE_HALT (R132). -/
theorem reportOutcome_halted {s : State} (hs : s.halted = true) (k : Option ChannelId) (outcome : DrainOutcome) :
    s.reportOutcome k outcome = s := by
  cases k with
  | none => rfl
  | some k => exact if_pos (.inl hs)

theorem cancelDrain_rest {s : State} (hs : s.halted = true) (c : CarrierId) (reason : CancelReason) :
    (s.cancelDrain c reason).rest = s.rest ∧ (s.cancelDrain c reason).halted = true := by
  have hposted : (((s.setCarrier c ((s.carrier c).cancelled reason)).postOwner c (.drainCancel c reason))).rest = s.rest
      ∧ (((s.setCarrier c ((s.carrier c).cancelled reason)).postOwner c (.drainCancel c reason))).halted = true := by
    unfold State.postOwner
    split
    · exact ⟨rfl, hs⟩
    · exact ⟨rfl, by simpa using hs⟩
  rw [State.cancelDrain, reportOutcome_halted hposted.2]
  exact hposted

/-- The record after the first pass of the reaction. -/
def Carrier.haltCancelled (r : Carrier) : Carrier := if r.state = .draining then r.cancelled .halt else r

theorem haltCancelled_haltCancelled (r : Carrier) : r.haltCancelled.haltCancelled = r.haltCancelled := by
  unfold Carrier.haltCancelled
  split
  · simp [Carrier.cancelled]
  · rfl

theorem haltCancel_halted {s : State} (hs : s.halted = true) (c : CarrierId) :
    (∀ d, (s.haltCancel c).carrier d = if d = c then (s.carrier d).haltCancelled else s.carrier d)
      ∧ (∀ k, RetriedIfBlocked (s.channel k) ((s.haltCancel c).channel k)) ∧ (s.haltCancel c).halted = true := by
  unfold State.haltCancel Carrier.haltCancelled
  split
  case isTrue hdraining =>
    obtain ⟨hrest, hhalted⟩ := cancelDrain_rest hs c .halt
    have hoffer := HaltedOffer.offerOwnersSlots hhalted c
    refine ⟨fun d => ?_, fun k hk => ?_, hoffer.halted⟩
    · rw [State.cancelAndOffer, hoffer.carriers, cancelDrain_carrier]
      by_cases hd : d = c
      · simp [hd, hdraining]
      · simp [hd]
    · have hsame : (s.cancelDrain c .halt).channel k = s.channel k := by rw [State.channel, hrest, State.channel]
      rw [State.cancelAndOffer, hoffer.channels k (by rwa [hsame]), hsame]
  case isFalse hnot =>
    refine ⟨fun d => ?_, fun k _ => rfl, hs⟩
    by_cases hd : d = c
    · subst hd
      simp [hnot]
    · simp [hd]

theorem foldl_haltCancel (l : List CarrierId) {s : State} (hs : s.halted = true) :
    (∀ d, (l.foldl (fun u c => u.haltCancel c) s).carrier d =
        if d ∈ l then (s.carrier d).haltCancelled else s.carrier d)
      ∧ (∀ k, RetriedIfBlocked (s.channel k) ((l.foldl (fun u c => u.haltCancel c) s).channel k))
      ∧ (l.foldl (fun u c => u.haltCancel c) s).halted = true := by
  induction l generalizing s with
  | nil => exact ⟨fun _ => rfl, fun _ _ => rfl, hs⟩
  | cons c l ih =>
    obtain ⟨hcarrier, hchannel, hhalted⟩ := haltCancel_halted hs c
    obtain ⟨hcarrier', hchannel', hhalted'⟩ := ih hhalted
    refine ⟨fun d => ?_, fun k hk => ?_, hhalted'⟩
    · rw [List.foldl_cons, hcarrier', hcarrier]
      by_cases hd : d = c
      · simp [hd, haltCancelled_haltCancelled]
      · simp [hd]
    · have hsame := hchannel k hk
      rw [List.foldl_cons, hchannel' k (by rwa [hsame]), hsame]

/-- A round that reaches no DRAINING carrier leaves the channels. -/
theorem deliverAll_rest {reaches : Carrier → Bool} {level : Nat} (hlevel : 1 ≤ level)
    (hreaches : ∀ r, reaches r = true → r.state ≠ .draining) (l : List CarrierId) (w : WakeRound) :
    (w.deliverAll reaches level l).state.rest = w.state.rest := by
  induction l generalizing w with
  | nil => rfl
  | cons c l ih =>
    refine (ih _).trans ?_
    dsimp only
    split
    · next hreached =>
      show (w.state.wakeCarrier c level).state.rest = w.state.rest
      rw [wakeCarrier_eq hlevel (hreaches _ hreached)]
      rfl
    · rfl

/-- The reach of the reaction's wakes (R27). -/
def Carrier.restsOrBarred (r : Carrier) : Bool := r.state == .resting || r.state == .barred

theorem carriersHaltReaction_eq (s : State) : s.carriersHaltReaction =
    ((carrierIds.foldl (fun u c => u.haltCancel c) s).wakeRound Carrier.restsOrBarred 7).finish := rfl

theorem Carrier.restsOrBarred_iff {r : Carrier} : r.restsOrBarred = true ↔ r.state = .resting ∨ r.state = .barred := by
  simp [Carrier.restsOrBarred]

theorem restsOrBarred_not_draining (r : Carrier) (hr : r.restsOrBarred = true) : r.state ≠ .draining := by
  rcases Carrier.restsOrBarred_iff.mp hr with h | h <;> simp [h]

/-- A round that reaches no DRAINING carrier frees no slot, and ends with its reports. -/
theorem finish_of_delivered {reaches : Carrier → Bool} {level : Nat} {s : State} {l : List CarrierId} {w : WakeRound}
    (h : Delivered reaches level s l (WakeRound.start s) w) (hreaches : ∀ r, reaches r = true → r.state ≠ .draining) :
    w.finish = w.reports.foldl (fun u report => u.memberReport report) w.state := by
  have hfreed : w.freed = [] := by
    rw [h.freed]
    refine (List.nil_append _).trans (List.filter_eq_nil_iff.mpr fun c _ => ?_)
    simp only [Bool.and_eq_true, beq_iff_eq, not_and]
    exact hreaches _
  rw [WakeRound.finish, hfreed]
  rfl

/-- A record that an unmute may have reached, but not a second time. -/
def UnmutedAtMost (r r' : Carrier) : Prop := KeptOrUnmuted r r' ∧ (r.unmuteSent = true → r' = r)

theorem UnmuteFrame.atMost {s u : State} (h : UnmuteFrame s u) (c : CarrierId) :
    UnmutedAtMost (s.carrier c) (u.carrier c) := ⟨h.carriers c, h.unmuted c⟩

theorem unmutedAtMost_refl (r : Carrier) : UnmutedAtMost r r := ⟨keptOrUnmuted_refl r, fun _ => rfl⟩

theorem UnmutedAtMost.trans {r r' r'' : Carrier} (h : UnmutedAtMost r r') (k : UnmutedAtMost r' r'') :
    UnmutedAtMost r r'' :=
  ⟨h.1.trans k.1, fun hr => by
    have hsame := h.2 hr
    rw [k.2 (by rwa [hsame]), hsame]⟩

/-- The record of a carrier after entry into SAFE_HALT, by the one it found (R27). -/
def AfterHalt (r r' : Carrier) : Prop :=
  match r.state with
  | .draining => r' = { r with state := .on, drainDeadline := none, drainChannel := none }
  | .resting => r'.state = .waking ∧ r'.wakeLevel = some 7 ∧ r'.pendingWake = 0 ∧ r'.claims = r.claims
      ∧ r'.offered = r.offered
  | .barred => r' = { r with pendingWake := max r.pendingWake 7 }
  | .waking => UnmutedAtMost r r'
  | .on => r' = r
  | .vacant => r' = r

theorem AfterHalt.unmuted {r r' r'' : Carrier} (h : AfterHalt r r') (k : UnmutedAtMost r' r'') : AfterHalt r r'' := by
  unfold AfterHalt at h ⊢
  split at h
  case h_2 =>
    obtain ⟨hstate, hlevel, hpending, hclaims, hoffered⟩ := h
    exact ⟨k.1.state.trans hstate, k.1.wakeLevel.trans hlevel, k.1.pendingWake.trans hpending,
      k.1.claims.trans hclaims, k.1.offered.trans hoffered⟩
  case h_4 => exact h.trans k
  all_goals
    subst h
    exact k.1.eq_of_not_waking (by simp [*])

theorem AfterHalt.of_unmuted {r r' r'' : Carrier} (h : UnmutedAtMost r r') (k : AfterHalt r' r'') : AfterHalt r r'' := by
  by_cases hr : r.state = .waking
  · have hr' : r'.state = .waking := h.1.state.trans hr
    simp only [AfterHalt, hr'] at k
    simp only [AfterHalt, hr]
    exact h.trans k
  · rwa [h.1.eq_of_not_waking hr] at k

/-- The reaction, from a state in SAFE_HALT. -/
theorem carriersHaltReaction_halted {s : State} (hs : s.halted = true) :
    (∀ c, AfterHalt (s.carrier c) (s.carriersHaltReaction.carrier c))
      ∧ (∀ k, RetriedIfBlocked (s.channel k) (s.carriersHaltReaction.channel k)) := by
  obtain ⟨hcancelled, hchannels, -⟩ := foldl_haltCancel carrierIds hs
  rw [carriersHaltReaction_eq]
  generalize carrierIds.foldl (fun u c => u.haltCancel c) s = v at hcancelled hchannels
  have hround := Delivered.wakeRound (reaches := Carrier.restsOrBarred) (level := 7) (by decide) v
  have hrest : (v.wakeRound Carrier.restsOrBarred 7).state.rest = v.rest := by
    rw [State.wakeRound, deliverAll_rest (by decide) restsOrBarred_not_draining]
    rfl
  have hreports := UnmuteFrame.reports (v.wakeRound Carrier.restsOrBarred 7).reports
    (v.wakeRound Carrier.restsOrBarred 7).state
  obtain ⟨hrest', -⟩ := BranchFrame.foldl _ memberReport_branchFrame
    (v.wakeRound Carrier.restsOrBarred 7).reports (BranchFrame.refl (v.wakeRound Carrier.restsOrBarred 7).state)
  rw [finish_of_delivered hround restsOrBarred_not_draining]
  refine ⟨fun c => ?_, fun k hk => ?_⟩
  · refine AfterHalt.unmuted ?_ (hreports.atMost c)
    have hmem : c ∈ carrierIds := List.mem_finRange c
    rw [hround.carrier, hcancelled, if_pos hmem]
    cases hstate : (s.carrier c).state <;>
      simp [AfterHalt, Carrier.haltCancelled, Carrier.restsOrBarred, Carrier.afterWake, wakeTable, Carrier.cancelled,
        CancelReason.keepsOffer, WakeRound.start, hstate, hcancelled, hmem, unmutedAtMost_refl]
  · rw [State.channel, hrest', hrest, ← State.channel]
    exact hchannels k hk

/-! ## The reactions of the branches and of the channels (R77, R140) -/

theorem branchesHaltReaction_unmutes (s : State) : UnmuteFrame s s.branchesHaltReaction := by
  refine UnmuteFrame.foldl _ (fun u b => ?_) branchIds s
  unfold State.branchHaltReaction
  split
  · exact UnmuteFrame.enterBranch u b nofun
  · exact UnmuteFrame.enterQueued u b 7
  all_goals exact UnmuteFrame.refl u

theorem branchesHaltReaction_branchFrame (s : State) : BranchFrame s s.branchesHaltReaction := by
  refine BranchFrame.foldl _ (fun u b => ?_) branchIds (BranchFrame.refl s)
  unfold State.branchHaltReaction
  split
  · exact enterBranch_branchFrame u b _
  · exact enterQueued_branchFrame u b 7
  all_goals exact BranchFrame.refl u

theorem channelHaltReaction_frame (s : State) (k : ChannelId) : ChannelFrame s (s.channelHaltReaction k)
    ∧ (∀ p, (s.channelHaltReaction k).port p = s.port p)
    ∧ ∀ j, (s.channelHaltReaction k).channel j = if j = k then (s.channel k).stopped else s.channel j := by
  have hstop : ChannelFrame s (s.setChannel k (s.channel k).stopped) := ChannelFrame.setChannel s k _
  have hsource : ∀ u : State, ∀ source, u.reportSource .dropped source = u := fun u source => by cases source <;> rfl
  have heq : s.channelHaltReaction k = s.setChannel k (s.channel k).stopped := by
    unfold State.channelHaltReaction
    dsimp only
    split
    · rfl
    · exact hsource _ _
  rw [heq]
  exact ⟨hstop, fun p => rfl, fun j => channel_setChannel ..⟩

theorem foldl_channelHaltReaction (l : List ChannelId) (s : State) :
    ChannelFrame s (l.foldl (fun u k => u.channelHaltReaction k) s)
      ∧ (∀ p, (l.foldl (fun u k => u.channelHaltReaction k) s).port p = s.port p)
      ∧ ∀ j, (l.foldl (fun u k => u.channelHaltReaction k) s).channel j =
          if j ∈ l then (s.channel j).stopped else s.channel j := by
  induction l generalizing s with
  | nil => exact ⟨ChannelFrame.refl s, fun _ => rfl, fun _ => rfl⟩
  | cons k l ih =>
    obtain ⟨hframe, hport, hchannel⟩ := channelHaltReaction_frame s k
    obtain ⟨hframe', hport', hchannel'⟩ := ih (s.channelHaltReaction k)
    refine ⟨hframe.trans hframe', fun p => (hport' p).trans (hport p), fun j => ?_⟩
    rw [List.foldl_cons, hchannel', hchannel]
    by_cases hj : j = k
    · simp [hj, Channel.stopped]
    · simp [hj]

theorem channelsHaltReaction_frame (s : State) : ChannelFrame s s.channelsHaltReaction
    ∧ (∀ p, s.channelsHaltReaction.port p = s.port p)
    ∧ ∀ j, s.channelsHaltReaction.channel j = (s.channel j).stopped := by
  obtain ⟨hframe, hport, hchannel⟩ := foldl_channelHaltReaction channelIds s
  refine ⟨hframe, hport, fun j => (hchannel j).trans (if_pos (List.mem_finRange j))⟩

theorem haltCancels_drainFrame (s : State) : DrainFrame s (carrierIds.foldl (fun u c => u.haltCancel c) s) := by
  refine DrainFrame.foldl _ (fun u c => ?_) carrierIds (DrainFrame.refl s)
  unfold State.haltCancel
  split
  · exact cancelAndOffer_drainFrame u c _
  · exact DrainFrame.refl u

theorem carriersHaltReaction_ctrl (s : State) : (∀ b, (s.carriersHaltReaction.branch b).members = (s.branch b).members)
    ∧ s.carriersHaltReaction.ctrl.bgd = s.ctrl.bgd := by
  have hcancels := haltCancels_drainFrame s
  rw [carriersHaltReaction_eq]
  generalize carrierIds.foldl (fun u c => u.haltCancel c) s = v at hcancels
  have hround := Delivered.wakeRound (reaches := Carrier.restsOrBarred) (level := 7) (by decide) v
  obtain ⟨hctrl, -⟩ := hcancels.trans hround.frame
  have hreports := UnmuteFrame.reports (v.wakeRound Carrier.restsOrBarred 7).reports
    (v.wakeRound Carrier.restsOrBarred 7).state
  rw [finish_of_delivered hround restsOrBarred_not_draining]
  refine ⟨fun b => ?_, hreports.bgd.trans (congrArg BranchController.bgd hctrl)⟩
  rw [hreports.members, State.branch, hctrl, State.branch]

/-! ## The three reactions in any order (R177) -/

/-- A channel that SAFE_HALT has stopped; only a retry of a BLOCKED one has moved its tallies (R140). -/
def HaltedChannel (ch ch' : Channel) : Prop :=
  ch'.state = .idle ∧ ch'.quota = 0 ∧ ch'.pendingStart = none
    ∧ (ch.state ≠ .blocked → ch'.rested = ch.rested ∧ ch'.declined = ch.declined ∧ ch'.count = ch.count)

/-- The reactions so far: whether those of the carriers and of the channels are among them. -/
structure HaltReacted (carriersDid channelsDid : Bool) (s u : State) : Prop where
  halted : u.halted = true
  carriers : ∀ c, if carriersDid = true then AfterHalt (s.carrier c) (u.carrier c)
    else UnmutedAtMost (s.carrier c) (u.carrier c)
  channels : ∀ k, if channelsDid = true then HaltedChannel (s.channel k) (u.channel k)
    else RetriedIfBlocked (s.channel k) (u.channel k)
  members : ∀ b, (u.branch b).members = (s.branch b).members
  bgd : u.ctrl.bgd = s.ctrl.bgd

namespace HaltReacted
variable {carriersDid channelsDid : Bool} {s u : State}

theorem start (hs : s.halted = true) : HaltReacted false false s s :=
  ⟨hs, fun _ => unmutedAtMost_refl _, fun _ _ => rfl, fun _ => rfl, rfl⟩

theorem branchesReact (h : HaltReacted carriersDid channelsDid s u) :
    HaltReacted carriersDid channelsDid s u.branchesHaltReaction where
  halted := by
    obtain ⟨-, -, -, -, -, -, -, hstack, -⟩ := branchesHaltReaction_branchFrame u
    rw [State.halted, hstack]
    exact h.halted
  carriers c := by
    have hunmuted := (branchesHaltReaction_unmutes u).atMost c
    have hc := h.carriers c
    cases carriersDid
    · exact hc.trans hunmuted
    · exact hc.unmuted hunmuted
  channels k := by
    obtain ⟨hrest, -⟩ := branchesHaltReaction_branchFrame u
    have hsame : u.branchesHaltReaction.channel k = u.channel k := by rw [State.channel, hrest, State.channel]
    rw [hsame]
    exact h.channels k
  members b := ((branchesHaltReaction_unmutes u).members b).trans (h.members b)
  bgd := (branchesHaltReaction_unmutes u).bgd.trans h.bgd

theorem channelsReact (h : HaltReacted carriersDid false s u) : HaltReacted carriersDid true s u.channelsHaltReaction := by
  obtain ⟨hframe, -, hstopped⟩ := channelsHaltReaction_frame u
  refine ⟨hframe.halted.trans h.halted, fun c => ?_, fun k => ?_, fun b => ?_, by rw [hframe.ctrl, h.bgd]⟩
  · rw [hframe.carrier]
    exact h.carriers c
  · rw [hstopped]
    refine ⟨rfl, rfl, rfl, fun hk => ?_⟩
    rw [show u.channel k = s.channel k from h.channels k hk]
    exact ⟨rfl, rfl, rfl⟩
  · rw [State.branch, hframe.ctrl, ← State.branch]
    exact h.members b

theorem carriersReact (h : HaltReacted false channelsDid s u) : HaltReacted true channelsDid s u.carriersHaltReaction := by
  obtain ⟨hcarriers, hchannels⟩ := carriersHaltReaction_halted h.halted
  obtain ⟨hmembers, hbgd⟩ := carriersHaltReaction_ctrl u
  refine ⟨(carriersHaltReaction_quiets.frame u).halted_eq.trans h.halted, fun c => ?_, fun k => ?_,
    fun b => (hmembers b).trans (h.members b), hbgd.trans h.bgd⟩
  · exact AfterHalt.of_unmuted (h.carriers c) (hcarriers c)
  · cases channelsDid
    · intro hblocked
      have hsame : u.channel k = s.channel k := h.channels k hblocked
      rw [hchannels k (by rwa [hsame]), hsame]
    · have hstopped : HaltedChannel (s.channel k) (u.channel k) := h.channels k
      rw [hchannels k (by simp [hstopped.1])]
      exact hstopped

/-- Every order brings each of the three once. -/
theorem reactions (hs : s.halted = true) (order : HaltOrder) : HaltReacted true true s (s.haltReactions order) := by
  cases order
  case carriersBranchesChannels => exact (start hs).carriersReact.branchesReact.channelsReact
  case carriersChannelsBranches => exact (start hs).carriersReact.channelsReact.branchesReact
  case branchesCarriersChannels => exact (start hs).branchesReact.carriersReact.channelsReact
  case branchesChannelsCarriers => exact (start hs).branchesReact.channelsReact.carriersReact
  case channelsCarriersBranches => exact (start hs).channelsReact.carriersReact.branchesReact
  case channelsBranchesCarriers => exact (start hs).channelsReact.branchesReact.carriersReact

end HaltReacted

/-! ## Entry into SAFE_HALT (R177) -/

theorem foldl_post_blocks (n : Notice) (l : List Port) (s : State) :
    BlocksKept s (l.foldl (fun u p => u.post p n) s) := by
  induction l generalizing s with
  | nil => exact ⟨rfl, rfl, rfl, rfl, rfl, rfl, rfl, rfl⟩
  | cons p l ih => exact ih (s.post p n)

theorem foldl_post_port (n : Notice) {l : List Port} (hl : l.Nodup) (s : State) (p : Port) :
    (l.foldl (fun u p => u.post p n) s).port p = if p ∈ l then (s.port p).post n else s.port p := by
  induction l generalizing s with
  | nil => rfl
  | cons q l ih =>
    obtain ⟨hq, hl⟩ := List.nodup_cons.mp hl
    rw [List.foldl_cons, ih hl, port_post]
    by_cases hp : p = q
    · simp [hp, hq]
    · simp [hp]

/-- HALT stands first on every port, and the halt is announced before any block reacts. -/
theorem announceHalt_eq (s : State) (reason : HaltReason) :
    BlocksKept (s.setStack { s.stack with halt := some { reason := reason, time := s.recordedTime } })
        (s.announceHalt reason)
      ∧ ∀ p, (s.announceHalt reason).port p = (s.port p).post (.halt reason) := by
  refine ⟨foldl_post_blocks _ _ _, fun p => ?_⟩
  rw [State.announceHalt, foldl_post_port _ (by decide), if_pos (mem_allPorts p)]
  rfl

/-- Entry into SAFE_HALT is the announcement, and then the three reactions in one of the orders. -/
theorem enterHalt_reacted (s : State) (reason : HaltReason) : HaltReacted true true s (s.enterHalt reason) := by
  obtain ⟨⟨htable, hctrl, -, -, hrest, -, hstack, -⟩, -⟩ :=
    announceHalt_eq ({ s with haltDraws := s.haltDraws + 1 } : State) reason
  have hhalted : (({ s with haltDraws := s.haltDraws + 1 } : State).announceHalt reason).halted = true := by
    rw [State.halted, hstack]
    rfl
  have h := HaltReacted.reactions hhalted (Config.haltOrder s.haltDraws)
  refine ⟨h.halted, fun c => ?_, fun k => ?_, fun b => ?_, h.bgd.trans (congrArg BranchController.bgd hctrl)⟩
  · have hc := h.carriers c
    rwa [State.carrier, htable] at hc
  · have hk := h.channels k
    rwa [State.channel, hrest] at hk
  · have hb := h.members b
    rw [State.branch, State.branch, hctrl] at hb
    exact hb

/-- HALT is the first notice of the event on every port. -/
theorem enterHalt_postedTo (s : State) (reason : HaltReason) (p : Port) :
    PostedTo ((s.port p).post (.halt reason)) ((s.enterHalt reason).port p) := by
  have hfirst := (announceHalt_eq ({ s with haltDraws := s.haltDraws + 1 } : State) reason).2 p
  have hposted := (haltReactions_posts (({ s with haltDraws := s.haltDraws + 1 } : State).announceHalt reason)
    (Config.haltOrder s.haltDraws)).1 p
  rwa [hfirst] at hposted

theorem enterHalt_timer {s : State} (hs : s.halted = false) (reason : HaltReason) :
    (s.enterHalt reason).timer = s.timer := (timer_kept s.timer).enterHalt rfl hs reason

/-! ## HALT (R176) -/

theorem haltAnswer_halted {s : State} (hs : s.halted = true) : haltAnswer s = .fail .already s := if_pos hs

theorem haltAnswer_running {s : State} (hs : s.halted = false) : haltAnswer s = .ok (s.enterHalt .plant) :=
  if_neg (by simp [hs])

/-- The port with the frames of another: notices do not look at them. -/
def PortState.framesOf (q r : PortState) : PortState := { q with inbound := r.inbound, dataOut := r.dataOut }

theorem post_framesOf (q r : PortState) (n : Notice) : (q.framesOf r).post n = (q.post n).framesOf r := by
  unfold PortState.post
  by_cases hfull : q.overflow = true
  · simp [PortState.framesOf, hfull]
  · by_cases hroom : q.notices.length < Config.noticePlaces <;> simp [PortState.framesOf, hfull, hroom]

theorem PostedTo.framesOf {q q' : PortState} (h : PostedTo q q') (r : PortState) :
    PostedTo (q.framesOf r) (q'.framesOf r) := by
  obtain ⟨notices, hnone, rfl⟩ := h
  refine ⟨notices, hnone, ?_⟩
  clear hnone
  induction notices generalizing q with
  | nil => rfl
  | cons n l ih => rw [List.foldl_cons, List.foldl_cons, post_framesOf, ih]

/-- A frame that can be taken leaves nothing of its port but the inbound queue and the shift register changed. -/
theorem takeOut_framesOf {s : State} {p : Port} {frame : List Byte} (h : s.canTake p frame = true) (q : Port) :
    ((s.takeOut p frame).port q).framesOf (s.port q) = s.port q := by
  have hselected := takeOut_selected (frameAtFront_of_canTake h)
  by_cases hq : q = p
  · subst hq
    simp only [State.takeOut, port_setPort, ↓reduceIte] at hselected ⊢
    split
    · next hempty =>
      rw [if_pos hempty, PortState.written, arrive_selected] at hselected
      have hroom : (s.port q).inbound.length < 4 := by simp [List.isEmpty_iff.mp hempty]
      have hwritten : (s.port q).written frame =
          { s.port q with
            inbound := (s.port q).inbound ++ [frame], selected := none,
            dataOut := ((s.port q).summary :: zeroBytes frame.length).take frame.length } := arrive_of_room hroom
      dsimp only at hselected
      rw [hwritten, PortState.framesOf, hselected]
    · rfl
  · simp [State.takeOut, hq, PortState.framesOf]

/-- Settles O29: HALT comes first on every port, and each block's reaction leaves what the other two bring about. -/
theorem haltStopsTheSite : Obligations.HaltStopsTheSite := by
  intro s htake
  refine ⟨fun hs => exec_turnedAway rfl rfl rfl htake (haltAnswer_halted hs), fun hs => ?_⟩
  let taken := s.takeOut .plant (requestFrame .halt [])
  have hreacted : HaltReacted true true taken (taken.enterHalt .plant) := enterHalt_reacted taken .plant
  have hstack : (taken.enterHalt .plant).stack = _ := enterHalt_stack taken .plant
  obtain ⟨-, hbranches, -⟩ := enterHalt_haltQuiet taken .plant hreacted.halted
  have hcarriers : ∀ c, AfterHalt (s.carrier c) ((taken.enterHalt .plant).carrier c) := hreacted.carriers
  refine ⟨taken.enterHalt .plant, exec_answered rfl rfl rfl htake (haltAnswer_running (s := taken) hs),
    by rw [hstack]; rfl, by rw [hstack]; rfl, fun p => ?_, fun c hc => ?_, fun c hc => ?_, fun c hc => ?_,
    fun c hc => ?_, fun b => ⟨?_, ?_, hreacted.members b⟩, fun k => ?_, enterHalt_timer (s := taken) hs .plant⟩
  · have hposted := (enterHalt_postedTo taken .plant p).framesOf (s.port p)
    rwa [← post_framesOf, takeOut_framesOf htake] at hposted
  · simpa only [AfterHalt, hc] using hcarriers c
  · simpa only [AfterHalt, hc] using hcarriers c
  · simpa only [AfterHalt, hc] using hcarriers c
  · rcases hc with hc | hc <;> simpa only [AfterHalt, hc] using hcarriers c
  · exact (hbranches b).1
  · exact (hbranches b).2
  · obtain ⟨hidle, hquota, hpending, htallies⟩ : HaltedChannel (s.channel k) _ := hreacted.channels k
    exact ⟨hidle, hquota, hpending, htallies⟩

/-! ## Deadlines, when they are due (R13, R99; log 3) -/

section Expiry
variable {s : State} {d : Nat} {event : State → State}

/-- A deadline is due at its second, and at the second before it. -/
theorem isDue_iff : s.isDue d = true ↔ s.now = d ∨ (s.now + 1) % 604800 = d := by
  simp [State.isDue, nextSecond, secondsAfter, Config.weekSeconds]

theorem expire_none : s.expire none event = s := rfl

theorem expire_due (h : s.now = d ∨ (s.now + 1) % 604800 = d) :
    s.expire (some d) event = (event (s.setSiteTime d)).setSiteTime s.now := if_pos (isDue_iff.mpr h)

theorem expire_later (h : s.now ≠ d) (h' : (s.now + 1) % 604800 ≠ d) : s.expire (some d) event = s :=
  if_neg fun hdue => (isDue_iff.mp hdue).elim h h'

end Expiry

theorem AfterHalt.unmutedAtMost {r r' : Carrier} (h : AfterHalt r r') (hr : r.state = .waking) : UnmutedAtMost r r' := by
  simpa only [AfterHalt, hr] using h

/-! ## Pushes (R164, R166, R167) -/

section Push
variable {s : State} {r : FaultRecord}

theorem pushFault_halted (hs : s.halted = true) : s.pushFault r = s := if_pos hs

theorem pushFault_room (hs : s.halted = false) (hroom : s.stack.records.length < 8) :
    s.pushFault r = (s.setStack { s.stack with records := r :: s.stack.records }).post .plant (.fault r.failure) :=
  (if_neg (by simp [hs])).trans (if_pos hroom)

theorem pushFault_full (hs : s.halted = false) (hfull : 8 ≤ s.stack.records.length) :
    s.pushFault r = s.enterHalt (.doubleFault r.failure) :=
  (if_neg (by simp [hs])).trans (if_neg (Nat.not_lt.mpr hfull))

end Push

/-! ## The deadlines of a carrier (R15, R22) -/

section CarrierDeadlines
variable {s : State} {c : CarrierId}

theorem exec_drainDeadlineExpiry (s : State) (c : CarrierId) : exec (.drainDeadlineExpiry c) s = .next
    (if (s.carrier c).state = .draining then
      s.expire (s.carrier c).drainDeadline fun u => u.cancelAndOffer c .timeout
    else s) := rfl

theorem exec_liveDeadlineExpiry (s : State) (c : CarrierId) : exec (.liveDeadlineExpiry c) s = .next
    (if (s.carrier c).state = .waking then s.expire (s.carrier c).liveDeadline fun u => u.liveTimesOut c else s) := rfl

end CarrierDeadlines

/-- Settles O43, by the deadline and what SAFE_HALT and the Fault Stack make of the record. -/
theorem carrierDeadlinesExpire : Obligations.CarrierDeadlinesExpire := by
  refine ⟨fun c d s hd hstate => ?_, fun c s h => ?_, fun c s h => ?_, fun c d s hd hstate => ⟨fun h h' => ?_, fun hdue => ?_⟩⟩
  · rw [exec_drainDeadlineExpiry, if_pos hstate, hd]
    split
    · next hdue => rw [expire_due hdue]
    · next hdue => rw [expire_later (fun h => hdue (.inl h)) fun h => hdue (.inr h)]
  · rw [exec_drainDeadlineExpiry]
    rcases h with h | h
    · rw [h, expire_none, ite_self]
    · rw [if_neg h]
  · rw [exec_liveDeadlineExpiry]
    rcases h with h | h
    · rw [h, expire_none, ite_self]
    · rw [if_neg h]
  · rw [exec_liveDeadlineExpiry, if_pos hstate, hd, expire_later h h']
  · intro passed time
    let timed := (s.setSiteTime d).setCarrier c { s.carrier c with liveDeadline := none }
    have hexec : exec (.liveDeadlineExpiry c) s =
        .next ((timed.pushFault (.ofCarrier c timed.recordedTime false)).setSiteTime s.now) := by
      rw [exec_liveDeadlineExpiry, if_pos hstate, hd, expire_due hdue]
      rfl
    rw [hexec]
    refine ⟨fun hs => ?_, fun hs hroom => ?_, fun hs hfull => ?_⟩
    · rw [pushFault_halted (s := timed) hs]
      rfl
    · rw [pushFault_room (s := timed) hs hroom]
      rfl
    · have hfailure : (FaultRecord.ofCarrier c timed.recordedTime false).failure = .liveTimeout c := rfl
      have hcarrier : timed.carrier c = { s.carrier c with liveDeadline := none } := by simp [timed]
      have hafter := (enterHalt_reacted timed (.doubleFault (.liveTimeout c))).carriers c
      rw [if_pos rfl, hcarrier] at hafter
      rw [pushFault_full (s := timed) hs hfull, hfailure]
      refine ⟨_, rfl, ?_, ?_, (hafter.unmutedAtMost hstate).2⟩
      · rw [setSiteTime_stack, enterHalt_stack]
        rfl
      · rw [setSiteTime_stack, enterHalt_stack]
        rfl

end Sys2Proof.Machine

/-!
SUPPORT. What the work for one branch leaves of the record and the grants of another (R91 to R96): O44.
-/
namespace Sys2Proof.Machine
open Sys2Proof

/-! ## A branch that the arbiter does not serve -/

/-- The branch has an entry in the raise queue. -/
def Arbiter.Queues (a : Arbiter) (b : BranchId) : Prop := b ∈ a.queue.map (fun e => e.branch)

/-- The branch's record is as it was, and neither an entry nor a grant of its own has come. -/
structure ArbLeaves (b : BranchId) (a a' : Arbiter) : Prop where
  queue : a'.Queues b → a.Queues b
  normal : b ∈ a'.normalHolders → b ∈ a.normalHolders
  emergency : a'.emergencyHolder = some b → a.emergencyHolder = some b

namespace ArbLeaves
variable {b : BranchId} {a a' a'' : Arbiter}

theorem refl (a : Arbiter) : ArbLeaves b a a := ⟨id, id, id⟩

theorem trans (h : ArbLeaves b a a') (k : ArbLeaves b a' a'') : ArbLeaves b a a'' :=
  ⟨h.queue ∘ k.queue, h.normal ∘ k.normal, h.emergency ∘ k.emergency⟩

theorem drop (a : Arbiter) (b' : BranchId) (g : Grant) : ArbLeaves b a (a.drop b' g) := by
  cases g
  case none => exact refl a
  case normal => exact ⟨id, fun h => (List.mem_filter.mp h).1, id⟩
  case emergency => exact ⟨id, id, nofun⟩

theorem give {b' : BranchId} (hb : b' ≠ b) (a : Arbiter) (g : Grant) : ArbLeaves b a (a.give b' g) := by
  have hqueue : b ∈ a.queue.tail.map (fun e => e.branch) → a.Queues b := fun h => by
    obtain ⟨e, he, rfl⟩ := List.mem_map.mp h
    exact List.mem_map_of_mem (List.mem_of_mem_tail he)
  cases g
  case none => exact refl a
  case normal => exact ⟨hqueue, fun h => ((mem_insertIndex _ _ _).mp h).resolve_left hb.symm, id⟩
  case emergency => exact ⟨hqueue, id, fun h => absurd (Option.some.inj h) hb⟩

end ArbLeaves

theorem raiseEntry_queues {b b' : BranchId} {level : Nat} {queue : List QueueEntry} (hb : b' ≠ b)
    (h : b ∈ (raiseEntry b' level queue).map (fun e => e.branch)) : b ∈ queue.map (fun e => e.branch) := by
  unfold raiseEntry at h
  split at h
  · exact h
  · next e hfind =>
    obtain ⟨x, hx, hbranch⟩ := List.mem_map.mp h
    have he : e.branch = b' := by simpa using List.find?_some hfind
    rcases List.mem_cons.mp ((placeEntry_perm _ _).mem_iff.mp hx) with rfl | hx
    · exact absurd (he.symm.trans hbranch) hb
    · exact List.mem_map.mpr ⟨x, (List.mem_filter.mp hx).1, hbranch⟩

namespace ArbLeaves
variable {b b' : BranchId}

theorem queuedAt (hb : b' ≠ b) (s : State) (level : Nat) : ArbLeaves b s.arb (s.queuedAt b' level).arb := by
  refine ⟨fun h => ?_, id, id⟩
  obtain ⟨e, he, hbranch⟩ := List.mem_map.mp h
  rcases List.mem_cons.mp ((placeEntry_perm _ _).mem_iff.mp he) with rfl | he
  · exact absurd hbranch hb
  · exact List.mem_map.mpr ⟨e, he, hbranch⟩

theorem raisedTo (hb : b' ≠ b) (s : State) (level : Nat) : ArbLeaves b s.arb (s.raisedTo b' level).arb :=
  ⟨raiseEntry_queues hb, id, id⟩

end ArbLeaves

/-- A branch that does not stand in the queue keeps its record, and comes to no entry and no grant. -/
def LeavesBranch (b : BranchId) (s u : State) : Prop :=
  ¬ s.arb.Queues b → u.branch b = s.branch b ∧ ArbLeaves b s.arb u.arb

namespace LeavesBranch
variable {b b' : BranchId} {s t u : State}

theorem of_same (hbranch : u.branch b = s.branch b) (harb : u.arb = s.arb) : LeavesBranch b s u := fun _ =>
  ⟨hbranch, harb ▸ ArbLeaves.refl _⟩

theorem refl (s : State) : LeavesBranch b s s := of_same rfl rfl

theorem trans (h : LeavesBranch b s t) (k : LeavesBranch b t u) : LeavesBranch b s u := fun hs => by
  obtain ⟨hbranch, harb⟩ := h hs
  obtain ⟨hbranch', harb'⟩ := k (hs ∘ harb.queue)
  exact ⟨hbranch'.trans hbranch, harb.trans harb'⟩

/-- Steps that need the record to be what it was. -/
theorem foldl {α : Type} {f : State → α → State} {l : List α} {R : Branch}
    (hf : ∀ u, u.branch b = R → ∀ a ∈ l, LeavesBranch b u (f u a)) (hs : s.branch b = R) :
    LeavesBranch b s (l.foldl f s) := by
  induction l generalizing s with
  | nil => exact refl s
  | cons a l ih =>
    intro hwaits
    have hstep := hf s hs a (List.mem_cons_self ..)
    have hsame := (hstep hwaits).1
    exact (hstep.trans (ih (fun u hu c hc => hf u hu c (List.mem_cons_of_mem a hc)) (hsame.trans hs))) hwaits

theorem setBranch (hb : b' ≠ b) (s : State) (r : Branch) : LeavesBranch b s (s.setBranch b' r) :=
  of_same (by rw [branch_setBranch, if_neg hb.symm]) rfl

theorem setArb {a : Arbiter} (h : ArbLeaves b s.arb a) : LeavesBranch b s (s.setArb a) := fun _ => ⟨rfl, h⟩

theorem of_ctrl (hctrl : u.ctrl = s.ctrl) (harb : u.arb = s.arb) : LeavesBranch b s u :=
  of_same (by rw [State.branch, hctrl, State.branch]) harb

theorem reportPowered (s : State) (b' : BranchId) : LeavesBranch b s (s.reportPowered b') := by
  obtain ⟨-, hctrl, harb, -⟩ := foldl_unmuteMember (s.branch b').members s
  exact of_ctrl hctrl harb

theorem beginLowering (hb : b' ≠ b) (s : State) : LeavesBranch b s (s.beginLowering b') := setBranch hb s _

theorem lingerExpires (hb : b' ≠ b) (s : State) : LeavesBranch b s (s.lingerExpires b') := by
  unfold State.lingerExpires
  split
  · exact setBranch hb s _
  · exact beginLowering hb s

theorem settleTest (hb : b' ≠ b) (s : State) : LeavesBranch b s (s.settleTest b') := by
  unfold State.settleTest State.enterSettling
  dsimp only
  have hsettled : LeavesBranch b s (s.setBranch b'
      { (s.branch b').enter .settling with lingerDeadline := some (secondsAfter s.now s.ctrl.linger) }) :=
    setBranch hb s _
  split
  · split
    · exact hsettled.trans (lingerExpires hb _)
    · exact hsettled
  · exact refl s

theorem powerGood {consider : State → State} (hconsider : ∀ u, LeavesBranch b u (consider u)) (hb : b' ≠ b) (s : State) :
    LeavesBranch b s (s.powerGood consider b') := by
  have hpowered : LeavesBranch b s (s.enterBranch b' .powered) := setBranch hb s _
  have hdropped : LeavesBranch b (s.enterBranch b' .powered)
      ((s.enterBranch b' .powered).setArb (s.arb.drop b' (s.branch b').grant)) := setArb (ArbLeaves.drop _ _ _)
  exact (((hpowered.trans hdropped).trans (hconsider _)).trans (reportPowered _ b')).trans (settleTest hb _)

theorem takeGrant {consider : State → State} (hconsider : ∀ u, LeavesBranch b u (consider u)) (hb : b' ≠ b) (s : State)
    (g : Grant) : LeavesBranch b s (s.takeGrant consider b' g) := by
  have hgranted : LeavesBranch b s (s.granted b' g) :=
    (setArb (ArbLeaves.give hb s.arb g)).trans (setBranch hb _ _)
  rw [takeGrant_eq]
  split
  · exact hgranted.trans (powerGood hconsider hb _)
  · exact hgranted

theorem considerGrantsUpTo (n : Nat) (s : State) : LeavesBranch b s (considerGrantsUpTo n s) := by
  induction n generalizing s with
  | zero => exact refl s
  | succ n ih =>
    unfold Machine.considerGrantsUpTo
    split
    · exact refl s
    · next e g hnext =>
      intro hwaits
      have hb : e.branch ≠ b := by
        rintro rfl
        refine hwaits (List.mem_map_of_mem ?_)
        rw [queue_of_nextGrant hnext]
        exact List.mem_cons_self ..
      exact ((takeGrant ih hb s g).trans (ih _)) hwaits

theorem considerGrants (s : State) : LeavesBranch b s s.considerGrants := considerGrantsUpTo _ s

theorem releaseGrant (s : State) (b' : BranchId) (g : Grant) : LeavesBranch b s (s.releaseGrant b' g) :=
  (setArb (ArbLeaves.drop _ _ _)).trans (considerGrants _)

theorem enterQueued (hb : b' ≠ b) (s : State) (level : Nat) : LeavesBranch b s (s.enterQueued b' level) := by
  have hqueued : LeavesBranch b s (s.queuedAt b' level) := fun _ =>
    ⟨by simp [State.queuedAt, hb.symm], ArbLeaves.queuedAt hb s level⟩
  exact hqueued.trans (considerGrants _)

theorem raiseQueued (hb : b' ≠ b) (s : State) (level : Nat) : LeavesBranch b s (s.raiseQueued b' level) := by
  have hraised : LeavesBranch b s (s.raisedTo b' level) := fun _ =>
    ⟨by simp [State.raisedTo, hb.symm], ArbLeaves.raisedTo hb s level⟩
  unfold State.raiseQueued
  dsimp only
  split
  · exact hraised.trans (considerGrants _)
  · exact refl s

theorem memberWaking (hb : b' ≠ b) (s : State) (level : Nat) : LeavesBranch b s (s.memberWaking b' level) := by
  unfold State.memberWaking
  dsimp only
  split
  case h_1 => exact reportPowered s b'
  case h_2 =>
    have hpowered : LeavesBranch b s (s.enterBranch b' .powered) := setBranch hb s _
    exact hpowered.trans (reportPowered _ b')
  case h_3 => exact setBranch hb s _
  case h_4 => exact enterQueued hb s level
  case h_5 => exact raiseQueued hb s level
  case h_6 => exact setBranch hb s _
  all_goals exact refl s

theorem memberRaised (hb : b' ≠ b) (s : State) (level : Nat) : LeavesBranch b s (s.memberRaised b' level) := by
  unfold State.memberRaised
  dsimp only
  split
  case h_1 => exact raiseQueued hb s level
  case h_2 => exact setBranch hb s _
  all_goals exact refl s


/-- A FAULTED branch takes no report about a member, and what another branch makes of one does not reach it. -/
theorem memberReport {R : Branch} (hR : R.state = .faulted) (hs : s.branch b = R) (report : MemberReport) :
    LeavesBranch b s (s.memberReport report) := by
  cases report with
  | waking b' level =>
    by_cases hb : b' = b
    · subst hb
      rw [State.memberReport, memberWaking_ignored (.inl (by rw [hs, hR]))]
      exact refl s
    · exact memberWaking hb s level
  | raised b' level =>
    by_cases hb : b' = b
    · subst hb
      rw [State.memberReport, memberRaised_ignored (by simp [hs, hR]) (by simp [hs, hR])]
      exact refl s
    · exact memberRaised hb s level

theorem of_drainFrame (h : DrainFrame s u) : LeavesBranch b s u := by
  obtain ⟨hctrl, harb, -⟩ := h
  exact of_ctrl hctrl harb

theorem of_channelFrame (h : ChannelFrame s u) : LeavesBranch b s u := of_ctrl h.ctrl h.arb

section Faulted
variable {R : Branch} (hR : R.state = .faulted)
include hR

theorem carriersHaltReaction (hs : s.branch b = R) : LeavesBranch b s s.carriersHaltReaction := by
  have hcancels : DrainFrame s (carrierIds.foldl (fun u c => u.haltCancel c) s) := haltCancels_drainFrame s
  rw [carriersHaltReaction_eq]
  generalize carrierIds.foldl (fun u c => u.haltCancel c) s = v at hcancels
  have hround := Delivered.wakeRound (reaches := Carrier.restsOrBarred) (level := 7) (by decide) v
  have hframe : DrainFrame s (v.wakeRound Carrier.restsOrBarred 7).state := hcancels.trans hround.frame
  have hctrl : (v.wakeRound Carrier.restsOrBarred 7).state.ctrl = s.ctrl := hframe.1
  rw [finish_of_delivered hround restsOrBarred_not_draining]
  refine (of_drainFrame hframe).trans (foldl (R := R) (fun u hu report _ => memberReport hR hu report) ?_)
  rw [State.branch, hctrl]
  exact hs

theorem branchesHaltReaction (hs : s.branch b = R) : LeavesBranch b s s.branchesHaltReaction := by
  refine foldl (R := R) (fun u hu b' _ => ?_) hs
  unfold State.branchHaltReaction
  by_cases hb : b' = b
  · subst hb
    rw [hu, hR]
    exact refl u
  · split
    · exact setBranch hb u _
    · exact enterQueued hb u 7
    all_goals exact refl u

omit hR in
theorem channelsHaltReaction (s : State) : LeavesBranch b s s.channelsHaltReaction :=
  of_channelFrame (channelsHaltReaction_frame s).1

omit hR in
/-- Three steps that each need the record to be what it was. -/
theorem three {f g h : State → State} (hf : ∀ u, u.branch b = R → LeavesBranch b u (f u))
    (hg : ∀ u, u.branch b = R → LeavesBranch b u (g u)) (hh : ∀ u, u.branch b = R → LeavesBranch b u (h u))
    (hs : s.branch b = R) : LeavesBranch b s (h (g (f s))) := by
  intro hwaits
  obtain ⟨hbranch, harb⟩ := hf s hs hwaits
  have h₁ : (f s).branch b = R := hbranch.trans hs
  obtain ⟨hbranch', harb'⟩ := hg _ h₁ (hwaits ∘ harb.queue)
  exact (((hf s hs).trans (hg _ h₁)).trans (hh _ (hbranch'.trans h₁))) hwaits

theorem haltReactions (hs : s.branch b = R) (order : HaltOrder) : LeavesBranch b s (s.haltReactions order) := by
  have hc : ∀ u, u.branch b = R → LeavesBranch b u u.carriersHaltReaction := fun u => carriersHaltReaction hR
  have hb : ∀ u, u.branch b = R → LeavesBranch b u u.branchesHaltReaction := fun u => branchesHaltReaction hR
  have hk : ∀ u, u.branch b = R → LeavesBranch b u u.channelsHaltReaction := fun u _ => channelsHaltReaction u
  cases order
  case carriersBranchesChannels => exact (three hc hb hk hs :)
  case carriersChannelsBranches => exact (three hc hk hb hs :)
  case branchesCarriersChannels => exact (three hb hc hk hs :)
  case branchesChannelsCarriers => exact (three hb hk hc hs :)
  case channelsCarriersBranches => exact (three hk hc hb hs :)
  case channelsBranchesCarriers => exact (three hk hb hc hs :)

theorem enterHalt (hs : s.branch b = R) (reason : HaltReason) : LeavesBranch b s (s.enterHalt reason) := by
  obtain ⟨⟨-, hctrl, harb, -⟩, -⟩ := announceHalt_eq ({ s with haltDraws := s.haltDraws + 1 } : State) reason
  have hannounced : LeavesBranch b s (({ s with haltDraws := s.haltDraws + 1 } : State).announceHalt reason) :=
    of_ctrl hctrl harb
  refine hannounced.trans (haltReactions hR ?_ _)
  rw [State.branch, hctrl]
  exact hs

theorem pushFault (hs : s.branch b = R) (r : FaultRecord) : LeavesBranch b s (s.pushFault r) := by
  unfold State.pushFault
  split
  · exact refl s
  · split
    · exact of_same rfl rfl
    · exact enterHalt hR hs _

end Faulted

end LeavesBranch

/-! ## The stack after a push -/

theorem pushFault_stack (s : State) (r : FaultRecord) :
    (s.halted = true → (s.pushFault r).stack = s.stack)
      ∧ (s.halted = false → s.stack.records.length < 8 →
        (s.pushFault r).stack = { s.stack with records := r :: s.stack.records })
      ∧ (s.halted = false → 8 ≤ s.stack.records.length → (s.pushFault r).stack =
        { s.stack with halt := some { reason := .doubleFault r.failure, time := s.recordedTime } }) := by
  refine ⟨fun hs => ?_, fun hs hroom => ?_, fun hs hfull => ?_⟩
  · rw [pushFault_halted hs]
  · rw [pushFault_room hs hroom, post_stack, setStack_stack]
  · rw [pushFault_full hs hfull, enterHalt_stack]

/-! ## The deadlines of a branch (R58, R64, R67) -/

section BranchDeadlines
variable {s : State} {b : BranchId}

theorem exec_lingerDeadlineExpiry (s : State) (b : BranchId) : exec (.lingerDeadlineExpiry b) s = .next
    (if (s.branch b).state = .settling then s.expire (s.branch b).lingerDeadline fun u => u.lingerExpires b else s) :=
  rfl

theorem exec_rampDownDeadlineExpiry (s : State) (b : BranchId) : exec (.rampDownDeadlineExpiry b) s = .next
    (if (s.branch b).state = .lowering then s.expire (s.branch b).rampDeadline fun u => u.rampDownFails b else s) :=
  rfl

theorem exec_rampUpDeadlineExpiry (s : State) (b : BranchId) : exec (.rampUpDeadlineExpiry b) s = .next
    (if (s.branch b).state = .raising then s.expire (s.branch b).rampDeadline fun u => u.rampUpFails b else s) := rfl

theorem ite_expire_absent {p : Prop} [Decidable p] {deadline : Option Nat} {event : State → State}
    (h : deadline = none ∨ ¬ p) : (if p then s.expire deadline event else s) = s := by
  rcases h with h | h
  · rw [h, expire_none, ite_self]
  · rw [if_neg h]

theorem ite_expire_later {p : Prop} [Decidable p] {d : Nat} {event : State → State} (h : s.now ≠ d)
    (h' : (s.now + 1) % 604800 ≠ d) : (if p then s.expire (some d) event else s) = s := by
  rw [expire_later h h', ite_self]

/-- The record that a failed lowering pushes (R64, R165). -/
def State.rampDownRecord (s : State) (b : BranchId) : FaultRecord :=
  .ofBranch .rampDownStuck b s.recordedTime (s.memberSnapshot b)

theorem rampDownFails_eq (s : State) (b : BranchId) :
    s.rampDownFails b = (s.setBranch b ((s.branch b).enter .faulted)).pushFault (s.rampDownRecord b) := rfl

/-- The record that a failed raise pushes (R67, R165). -/
def State.rampUpRecord (s : State) (b : BranchId) : FaultRecord :=
  .ofBranch .rampUpFailed b s.recordedTime (s.memberSnapshot b)

theorem rampUpFails_eq (s : State) (b : BranchId) :
    s.rampUpFails b = (s.released b .faulted).considerGrants.pushFault (s.rampUpRecord b) := by
  obtain ⟨-, -, -, -, -, -, htimer, -, -⟩ := considerGrants_branchFrame (s.released b .faulted)
  have htime : (s.released b .faulted).considerGrants.recordedTime = s.recordedTime := by
    rw [State.recordedTime, htimer]
    rfl
  rw [State.rampUpRecord, ← htime]
  rfl

end BranchDeadlines

section Failures
variable {s : State} {b : BranchId}

/-- What a push of a record makes of the stack (R164, R166, R167). -/
def PushesOn (s u : State) (r : FaultRecord) : Prop :=
  (s.halted = true → u.stack = s.stack)
    ∧ (s.halted = false → s.stack.records.length < 8 → u.stack = { s.stack with records := r :: s.stack.records })
    ∧ (s.halted = false → 8 ≤ s.stack.records.length →
      u.stack = { s.stack with halt := some { reason := .doubleFault r.failure, time := s.recordedTime } })

theorem pushFault_pushesOn (s : State) (r : FaultRecord) : PushesOn s (s.pushFault r) r := pushFault_stack s r

theorem PushesOn.of_same {t u : State} {r : FaultRecord} (h : PushesOn t u r) (hstack : t.stack = s.stack)
    (htimer : t.timer = s.timer) : PushesOn s u r := by
  have hhalted : t.halted = s.halted := by rw [State.halted, hstack, State.halted]
  have htime : t.recordedTime = s.recordedTime := by rw [State.recordedTime, htimer, State.recordedTime]
  rwa [PushesOn, hstack, hhalted, htime] at h

theorem rampDownFails_branch (hwaits : ¬ s.arb.Queues b) :
    (s.rampDownFails b).branch b = (s.branch b).enter .faulted := by
  have hfaulted : (s.setBranch b ((s.branch b).enter .faulted)).branch b = (s.branch b).enter .faulted := by simp
  rw [rampDownFails_eq, ((LeavesBranch.pushFault rfl hfaulted _) hwaits).1, hfaulted]

theorem rampDownFails_pushesOn (s : State) (b : BranchId) : PushesOn s (s.rampDownFails b) (s.rampDownRecord b) :=
  (pushFault_pushesOn (s.setBranch b ((s.branch b).enter .faulted)) _).of_same rfl rfl

theorem rampUpFails_branch (hwaits : ¬ s.arb.Queues b) :
    (s.rampUpFails b).branch b = (s.branch b).enter .faulted
      ∧ ArbLeaves b (s.arb.drop b (s.branch b).grant) (s.rampUpFails b).arb := by
  have hfaulted : (s.released b .faulted).branch b = (s.branch b).enter .faulted := by
    simp [State.released, State.enterBranch]
  have hnot : ¬ (s.released b .faulted).arb.Queues b := by
    rw [State.released, setArb_arb, Arbiter.Queues, drop_queue]
    exact hwaits
  have hgrants : LeavesBranch b (s.released b .faulted) (s.released b .faulted).considerGrants :=
    LeavesBranch.considerGrants _
  have hpush := LeavesBranch.pushFault rfl ((hgrants hnot).1.trans hfaulted) (s.rampUpRecord b)
  obtain ⟨hbranch, harb⟩ := (hgrants.trans hpush) hnot
  rw [rampUpFails_eq]
  exact ⟨hbranch.trans hfaulted, harb⟩

theorem rampUpFails_pushesOn (s : State) (b : BranchId) : PushesOn s (s.rampUpFails b) (s.rampUpRecord b) := by
  obtain ⟨-, -, -, -, -, -, htimer, hstack, -⟩ := considerGrants_branchFrame (s.released b .faulted)
  rw [rampUpFails_eq]
  exact (pushFault_pushesOn _ _).of_same hstack htimer

/-- A release leaves a branch no grant that its own record named (R96). -/
theorem not_holds_of_drop {a' : Arbiter} {g : Grant} (h : ArbLeaves b (s.arb.drop b g) a') :
    ((b ∈ s.arb.normalHolders → g = .normal) → b ∉ a'.normalHolders)
      ∧ (g = .emergency → a'.emergencyHolder ≠ some b) := by
  refine ⟨fun hnormal hmem => ?_, fun hg hholder => ?_⟩
  · have hdropped := h.normal hmem
    cases g
    case normal => exact ((mem_removeIndex _ _ _).mp hdropped).2 rfl
    case none => cases hnormal hdropped
    case emergency => cases hnormal hdropped
  · subst hg
    cases h.emergency hholder

end Failures

/-- Settles O44, deadline by deadline; the branch is FAULTED, and what the arbiter and a halt then do leaves it so. -/
theorem branchDeadlinesExpire : Obligations.BranchDeadlinesExpire := by
  refine ⟨fun b s => ⟨fun h => ?_, fun h => ?_, fun h => ?_⟩, fun b d s hd h h' => ⟨?_, ?_⟩, fun b d s hd hstate => ?_,
    fun b d s hd hdue => ?_⟩
  · rw [exec_lingerDeadlineExpiry, ite_expire_absent h]
  · rw [exec_rampDownDeadlineExpiry, ite_expire_absent h]
  · rw [exec_rampUpDeadlineExpiry, ite_expire_absent h]
  · rw [exec_rampDownDeadlineExpiry, hd, ite_expire_later h h']
  · rw [exec_rampUpDeadlineExpiry, hd, ite_expire_later h h']
  · rw [exec_lingerDeadlineExpiry, if_pos hstate, hd]
    split
    · next hdue =>
      rw [expire_due hdue]
      split
      · next hheld =>
        rw [lingerExpires_held (s := s.setSiteTime d) hheld]
        rfl
      · next hfree =>
        rw [lingerExpires_free (s := s.setSiteTime d) (by simpa using hfree)]
        rfl
    · next hdue => rw [expire_later (fun h => hdue (.inl h)) fun h => hdue (.inr h)]
  · intro snapshot time
    refine ⟨fun hstate => ?_, fun hstate hwaits hholds => ?_⟩
    · have hexec : exec (.rampDownDeadlineExpiry b) s = .next (((s.setSiteTime d).rampDownFails b).setSiteTime s.now) := by
        rw [exec_rampDownDeadlineExpiry, if_pos hstate, hd, expire_due hdue]
      obtain ⟨-, -, hfullStack⟩ := rampDownFails_pushesOn (s.setSiteTime d) b
      refine ⟨fun hs => ?_, fun hs hroom => ?_, fun hs hfull => ⟨_, hexec, ?_, ?_, fun hwaits => ?_⟩⟩
      · rw [hexec, rampDownFails_eq, pushFault_halted (s := (s.setSiteTime d).setBranch b _) hs]
        rfl
      · rw [hexec, rampDownFails_eq, pushFault_room (s := (s.setSiteTime d).setBranch b _) hs hroom]
        rfl
      · rw [setSiteTime_stack, hfullStack hs hfull]
        rfl
      · rw [setSiteTime_stack, hfullStack hs hfull]
        rfl
      · rw [setSiteTime_branch, rampDownFails_branch (s := s.setSiteTime d) hwaits]
        rfl
    · have hexec : exec (.rampUpDeadlineExpiry b) s = .next (((s.setSiteTime d).rampUpFails b).setSiteTime s.now) := by
        rw [exec_rampUpDeadlineExpiry, if_pos hstate, hd, expire_due hdue]
      obtain ⟨hhalted, hroom, hfull⟩ := rampUpFails_pushesOn (s.setSiteTime d) b
      obtain ⟨hbranch, harb⟩ := rampUpFails_branch (s := s.setSiteTime d) hwaits
      obtain ⟨hnormal, hemergency⟩ := not_holds_of_drop harb
      refine ⟨_, hexec, ?_, ?_, ?_, ?_, ?_, hnormal hholds, fun _ => hemergency, hhalted, hroom, fun hs hlen => ?_⟩
      · rw [setSiteTime_branch, hbranch]
        rfl
      · rw [State.ben, setSiteTime_branch, hbranch]
        rfl
      · rw [setSiteTime_branch, hbranch]
        rfl
      · rw [setSiteTime_branch, hbranch]
        rfl
      · rw [setSiteTime_branch, hbranch]
        rfl
      · rw [setSiteTime_stack, hfull hs hlen]
        exact ⟨rfl, rfl⟩

end Sys2Proof.Machine

/-!
SUPPORT. The dispositions of a record (R23, R73 to R75, R171): O28.
-/
namespace Sys2Proof.Machine
open Sys2Proof

/-! ## "Out" at the members (R25) -/

/-- The record of a member after its branch went OUT. -/
def Carrier.barred (r : Carrier) : Carrier :=
  match r.state with
  | .resting => { r with state := .barred }
  | .waking =>
    { r with state := .barred, pendingWake := r.wakeLevel.getD 0, wakeLevel := none, liveDeadline := none,
             unmuteSent := false }
  | _ => r

/-- The carriers that the report reaches. -/
def Carrier.restsOrWakes (r : Carrier) : Bool := r.state == .resting || r.state == .waking

theorem barred_barred (r : Carrier) : r.barred.barred = r.barred := by
  cases h : r.state <;> simp [Carrier.barred, h]

theorem barred_ownedBy (r : Carrier) (t : TenantId) : r.barred.ownedBy t = r.ownedBy t := by
  unfold Carrier.barred
  split <;> rfl

section Bar
variable {s : State} {b : BranchId} {c : CarrierId}

theorem barMember_eq : s.barMember b c =
    if (s.carrier c).restsOrWakes = true then (s.setCarrier c (s.carrier c).barred).postOwner c (.barred c b)
    else s.setCarrier c (s.carrier c).barred := by
  have hself : s.setCarrier c (s.carrier c) = s := by simp [State.setCarrier, State.carrier]
  cases hstate : (s.carrier c).state <;> simp [State.barMember, Carrier.restsOrWakes, Carrier.barred, hstate, hself]

theorem barMember_carrier (d : CarrierId) :
    (s.barMember b c).carrier d = if d = c then (s.carrier c).barred else s.carrier d := by
  rw [barMember_eq]
  split
  · rw [postOwner_carrier, carrier_setCarrier]
  · rw [carrier_setCarrier]

theorem barMember_ctrl : (s.barMember b c).ctrl = s.ctrl := by
  rw [barMember_eq]
  split
  · exact (postOwner_arb _ _ _).1
  · rfl

theorem barMember_tenant (t : TenantId) : (s.barMember b c).port (.tenant t) =
    if (s.carrier c).restsOrWakes && (s.carrier c).ownedBy t then (s.port (.tenant t)).post (.barred c b)
    else s.port (.tenant t) := by
  rw [barMember_eq]
  cases h : (s.carrier c).restsOrWakes
  · rfl
  · simp [postOwner_tenant, barred_ownedBy]

theorem barMember_other {p : Port} (hp : p = .plant ∨ p = .fleet) : (s.barMember b c).port p = s.port p := by
  rw [barMember_eq]
  split
  · rw [postOwner_other _ _ _ hp, setCarrier_port]
  · rfl

/-- The report, member by member of a list. -/
theorem foldl_barMember (l : List CarrierId) (s : State) (b : BranchId) :
    (∀ d, (l.foldl (fun u c => u.barMember b c) s).carrier d =
        if d ∈ l then (s.carrier d).barred else s.carrier d)
      ∧ (l.foldl (fun u c => u.barMember b c) s).ctrl = s.ctrl
      ∧ (∀ p, p = .plant ∨ p = .fleet → (l.foldl (fun u c => u.barMember b c) s).port p = s.port p)
      ∧ (l.Nodup → ∀ t, (l.foldl (fun u c => u.barMember b c) s).port (.tenant t) =
          ((l.filter (fun c => (s.carrier c).restsOrWakes && (s.carrier c).ownedBy t)).map
            (fun c => Notice.barred c b)).foldl PortState.post (s.port (.tenant t))) := by
  induction l generalizing s with
  | nil => exact ⟨fun _ => rfl, rfl, fun _ _ => rfl, fun _ _ => rfl⟩
  | cons c l ih =>
    obtain ⟨hcarrier, hctrl, hother, htenant⟩ := ih (s.barMember b c)
    simp only [List.foldl_cons]
    refine ⟨fun d => ?_, hctrl.trans barMember_ctrl, fun p hp => (hother p hp).trans (barMember_other hp),
      fun hl t => ?_⟩
    · rw [hcarrier, barMember_carrier]
      by_cases hd : d = c
      · simp [hd, barred_barred]
      · simp [hd]
    · obtain ⟨hc, hl⟩ := List.nodup_cons.mp hl
      have hrest : l.filter (fun d => ((s.barMember b c).carrier d).restsOrWakes
            && ((s.barMember b c).carrier d).ownedBy t)
          = l.filter (fun d => (s.carrier d).restsOrWakes && (s.carrier d).ownedBy t) :=
        List.filter_congr fun d hd => by
          rw [barMember_carrier, if_neg (fun hdc : d = c => hc (hdc ▸ hd))]
      rw [htenant hl, hrest, barMember_tenant, List.filter_cons]
      split <;> rfl

end Bar

/-! ## A branch back to POWERED (R73) -/

section Powered
variable {s : State} {b : BranchId}

theorem resolveToPowered_high (h : s.bgd b = true) :
    s.resolveToPowered b = ((s.setBranch b ((s.branch b).enter .powered)).reportPowered b).settleTest b := if_pos h

theorem resolveToPowered_low (h : s.bgd b = false) :
    s.resolveToPowered b = (s.setBranch b ((s.branch b).enter .powered)).losePower b :=
  if_neg (by rw [show (s.enterBranch b .powered).bgd b = s.bgd b from rfl, h]; exact Bool.false_ne_true)

/-- A PINNED branch does not settle (R56). -/
theorem settleTest_pinned (h : (s.branch b).lineMode = .pinned) : s.settleTest b = s :=
  settleTest_not fun hmet => by
    obtain ⟨-, hfollow, -⟩ := hmet
    rw [h] at hfollow
    cases hfollow

theorem reportPowered_branch (s : State) (b d : BranchId) : (s.reportPowered b).branch d = s.branch d := by
  obtain ⟨-, hctrl, -⟩ := foldl_unmuteMember (s.branch b).members s
  rw [State.reportPowered, State.branch, hctrl, State.branch]

theorem allMembersResting_iff :
    s.allMembersResting b = true ↔ ∀ c ∈ (s.branch b).members, (s.carrier c).state = .resting := by
  simp [State.allMembersResting]

end Powered

/-! ## RESOLVE of the record on top (R170, R171) -/

section Dispose
variable {s : State} {b : BranchId} {d : Disposition}

theorem dispose_branch (h : (s.branch b).state = .faulted) (kind : BranchFault) (time : Option Nat)
    (snapshot : List (CarrierId × CarrierState)) :
    s.dispose (.ofBranch kind b time snapshot) d = s.disposeBranchFault kind b d := if_pos h

theorem disposeBranchFault_lowers (hmode : (s.branch b).lineMode = .follow)
    (hresting : ∀ c ∈ (s.branch b).members, (s.carrier c).state = .resting) :
    s.disposeBranchFault .rampDownStuck b .retry = s.beginLowering b :=
  if_pos ⟨hmode, allMembersResting_iff.mpr hresting⟩

theorem disposeBranchFault_powers
    (h : (s.branch b).lineMode = .pinned ∨ ∃ c ∈ (s.branch b).members, (s.carrier c).state ≠ .resting) :
    s.disposeBranchFault .rampDownStuck b .retry = s.resolveToPowered b := by
  refine if_neg ?_
  rintro ⟨hmode, hresting⟩
  rcases h with h | ⟨c, hc, hstate⟩
  · rw [h] at hmode
    cases hmode
  · exact hstate (allMembersResting_iff.mp hresting c hc)

/-- A branch retired from a failed lowering is PINNED, and so does not settle (R74). -/
theorem disposeBranchFault_pins_high (h : s.bgd b = true) : s.disposeBranchFault .rampDownStuck b .retire =
    (s.setBranch b { (s.branch b).enter .powered with lineMode := .pinned }).reportPowered b := by
  have hpinned := resolveToPowered_high (s := s.setBranch b { s.branch b with lineMode := .pinned }) (b := b) h
  rw [settleTest_pinned] at hpinned
  · refine hpinned.trans ?_
    simp [Branch.enter]
  · rw [reportPowered_branch]
    simp [Branch.enter]

theorem disposeBranchFault_pins_low (h : s.bgd b = false) : s.disposeBranchFault .rampDownStuck b .retire =
    (s.setBranch b { (s.branch b).enter .powered with lineMode := .pinned }).losePower b := by
  refine (resolveToPowered_low (s := s.setBranch b { s.branch b with lineMode := .pinned }) (b := b) h).trans ?_
  simp [Branch.enter]

theorem disposeBranchFault_retires {kind : BranchFault} (h : kind ≠ .rampDownStuck) :
    s.disposeBranchFault kind b .retire = s.retireBranch b := by
  cases kind
  case rampDownStuck => exact absurd rfl h
  case rampUpFailed => rfl
  case powerLost => rfl

theorem branchPowered_iff {c : CarrierId} {pv : Provision} (hpv : (s.carrier c).provision = some pv) :
    s.branchPowered c = true ↔ (s.branch pv.branch).state = .powered := by
  simp [State.branchPowered, hpv]

section Live
variable {c : CarrierId} {pv : Provision} {time : Option Nat} (hpv : (s.carrier c).provision = some pv)
include hpv

/-- A LIVE_TIMEOUT record whose carrier no longer waits, or whose branch is down, acts on nothing (R23). -/
theorem dispose_kept (h : ¬ ((s.carrier c).state = .waking ∧ (s.carrier c).unmuteSent = true
    ∧ (s.branch pv.branch).state = .powered)) : s.dispose (.ofCarrier c time false) d = s :=
  if_neg (by rwa [branchPowered_iff hpv])

variable (hwaking : (s.carrier c).state = .waking) (hsent : (s.carrier c).unmuteSent = true)
  (hpowered : (s.branch pv.branch).state = .powered)
include hwaking hsent hpowered

theorem dispose_retried (hd : d = .retry) : s.dispose (.ofCarrier c time false) d =
    (s.setCarrier c { s.carrier c with liveDeadline := some (secondsAfter s.now s.table.liveTime) }).post
      (.tenant pv.owner) (.unmute c (secondsAfter s.now s.table.liveTime)) := by
  subst hd
  refine (if_pos ⟨hwaking, hsent, (branchPowered_iff hpv).mpr hpowered⟩).trans ?_
  have hsame : ({ s.carrier c with
      liveDeadline := some (secondsAfter s.now s.table.liveTime), unmuteSent := true } : Carrier) =
      { s.carrier c with liveDeadline := some (secondsAfter s.now s.table.liveTime) } := by
    rw [← hsent]
  rw [State.sendUnmute]
  dsimp only at hsame ⊢
  rw [hsame, postOwner_of_provision (pv := pv) (by simpa using hpv)]

theorem dispose_retired (hd : d = .retire) : s.dispose (.ofCarrier c time false) d = s.comesLive c := by
  subst hd
  exact if_pos ⟨hwaking, hsent, (branchPowered_iff hpv).mpr hpowered⟩

end Live

theorem resolveAnswer_top {top : FaultRecord} {below : List FaultRecord} (hrecords : s.stack.records = top :: below)
    (hs : s.halted = false) :
    resolveAnswer top.failure.kindCode top.failure.subjectCode d.code s =
      .okWith [top.failure.kindCode, top.failure.subjectCode, d.code,
          ((s.setStack { records := below, halt := none }).dispose top d).subjectState top.failure,
          byteOf ((s.setStack { records := below, halt := none }).dispose top d).stack.records.length]
        ((s.setStack { records := below, halt := none }).dispose top d) := by
  have hhalt : s.stack.halt = none := by simpa [State.halted] using hs
  have hstack : ({ s.stack with records := below } : FaultStack) = { records := below, halt := none } :=
    congrArg (fun halt => ({ records := below, halt := halt } : FaultStack)) hhalt
  simp [resolveAnswer, hrecords, hs, State.resolveTop, hstack]

end Dispose

/-- Settles O28, by the record and the disposition. -/
theorem resolveActsOnTheSubject : Obligations.ResolveActsOnTheSubject := by
  intro top below d s f htake hs hrecords u done
  have hdone : done (u.dispose top d) :=
    exec_answered rfl rfl rfl htake (resolveAnswer_top (s := s.takeOut _ _) hrecords hs)
  have hbranch : ∀ kind b time snapshot v, top = .ofBranch kind b time snapshot → (s.branch b).state = .faulted →
      u.disposeBranchFault kind b d = v → done v := by
    intro kind b time snapshot v htop hfaulted hv
    rwa [htop, dispose_branch (s := u) hfaulted, hv] at hdone
  refine ⟨fun c time htop => ?_, fun c time pv htop hpv => ⟨fun hlive => ⟨fun hd => ?_, fun hd => ?_⟩, fun hnot => ?_⟩,
    fun b time snapshot htop hfaulted => ⟨?_, ?_, ?_, ?_, ?_⟩, fun b time snapshot htop hfaulted hd => ?_,
    fun b time snapshot htop hfaulted hd => ?_, fun kind b time snapshot htop hkind hfaulted hd => ?_⟩
  · rwa [htop] at hdone
  · obtain ⟨hwaking, hsent, hpowered⟩ := hlive
    rwa [htop, dispose_retried (s := u) hpv hwaking hsent hpowered hd] at hdone
  · obtain ⟨hwaking, hsent, hpowered⟩ := hlive
    rwa [htop, dispose_retired (s := u) hpv hwaking hsent hpowered hd] at hdone
  · rwa [htop, dispose_kept (s := u) hpv hnot] at hdone
  · exact fun hd hmode hresting => hbranch _ b time snapshot _ htop hfaulted
      (by rw [hd]; exact disposeBranchFault_lowers (s := u) hmode hresting)
  · exact fun hd hkept hhigh => hbranch _ b time snapshot _ htop hfaulted
      (by rw [hd]; exact (disposeBranchFault_powers (s := u) hkept).trans (resolveToPowered_high (s := u) hhigh))
  · exact fun hd hhigh => hbranch _ b time snapshot _ htop hfaulted
      (by rw [hd]; exact disposeBranchFault_pins_high (s := u) hhigh)
  · exact fun hd hkept hlow => hbranch _ b time snapshot _ htop hfaulted
      (by rw [hd]; exact (disposeBranchFault_powers (s := u) hkept).trans (resolveToPowered_low (s := u) hlow))
  · exact fun hd hlow => hbranch _ b time snapshot _ htop hfaulted
      (by rw [hd]; exact disposeBranchFault_pins_low (s := u) hlow)
  · exact hbranch _ b time snapshot _ htop hfaulted (by rw [hd]; rfl)
  · exact hbranch _ b time snapshot _ htop hfaulted (by rw [hd]; rfl)
  · obtain ⟨hcarrier, hctrl, hother, htenant⟩ := foldl_barMember (s.branch b).members (u.enterBranch b .out) b
    have heq : u.retireBranch b = (s.branch b).members.foldl (fun v c => v.barMember b c) (u.enterBranch b .out) := by
      rw [State.retireBranch, State.enterBranch, branch_setBranch, if_pos rfl]
      rfl
    refine ⟨u.retireBranch b, hbranch kind b time snapshot _ htop hfaulted
      (by rw [hd]; exact disposeBranchFault_retires hkind), retireBranch_posts u b, ?_, fun c => ?_, fun hsorted t => ?_,
      ?_, ?_⟩ <;> rw [heq]
    · rw [State.branch, hctrl]
      exact (branch_setBranch u b b _).trans (if_pos rfl)
    · exact hcarrier c
    · exact htenant (hsorted.imp fun h => Fin.ne_of_lt h) t
    · exact hother _ (.inl rfl)
    · exact hother _ (.inr rfl)

end Sys2Proof.Machine

/-!
SUPPORT. The windows through a recompute, and their open and close events (R99 to R107): O36.
-/
namespace Sys2Proof.Machine
open Sys2Proof

/-! ## The windows through a recompute (R102, R103) -/

section Recompute
variable {s : State} {w : WindowId}

/-- The open event leaves of the Window Timer all but the state of its window. -/
theorem openEvent_timer (s : State) (w : WindowId) :
    (s.openEvent w).timer = (s.setWindow w { s.window w with state := .isOpen }).timer := by
  have hcause := (timer_kept (s.setWindow w { s.window w with state := .isOpen }).timer).causeOccurs rfl (windowSlot w)
  exact hcause

/-- What an event of a window leaves of the Window Timer: time, time-valid and the other windows. -/
structure WindowEvent (w : WindowId) (s u : State) : Prop where
  now : u.now = s.now
  timeValid : u.timer.timeValid = s.timer.timeValid
  others : ∀ v, v ≠ w → u.window v = s.window v

theorem openEvent_windowEvent (s : State) (w : WindowId) : WindowEvent w s (s.openEvent w) := by
  have htimer := openEvent_timer s w
  refine ⟨by rw [State.now, htimer]; rfl, by rw [htimer]; rfl, fun v hv => ?_⟩
  rw [State.window, htimer, ← State.window, window_setWindow, if_neg hv]

theorem openEvent_window (s : State) (w : WindowId) : ((s.openEvent w).window w).state = .isOpen := by
  rw [State.window, openEvent_timer, ← State.window, window_setWindow, if_pos rfl]

/-- The window after its close event: CLOSED, and its sets swapped if a swap was pending (R107). -/
theorem closeEvent_window (s : State) (w : WindowId) : (s.closeEvent w).window w =
    if (s.window w).swapPending = true then
      { active := (s.window w).shadow, shadow := (s.window w).shadow, state := .closed, swapPending := false }
    else { s.window w with state := .closed } := by
  obtain ⟨u, htimer, hclose⟩ := closeEvent_timer s w
  have hw : u.window w = { s.window w with state := .closed } := by
    rw [State.window, htimer, ← State.window, window_setWindow, if_pos rfl]
  rw [hclose, State.closeSwap, hw]
  dsimp only
  split
  · rw [window_setWindow, if_pos rfl]
  · exact hw

theorem closeEvent_windowEvent (s : State) (w : WindowId) : WindowEvent w s (s.closeEvent w) := by
  obtain ⟨u, htimer, hclose⟩ := closeEvent_timer s w
  have hevent : WindowEvent w s u := by
    refine ⟨by rw [State.now, htimer]; rfl, by rw [htimer]; rfl, fun v hv => ?_⟩
    rw [State.window, htimer, ← State.window, window_setWindow, if_neg hv]
  obtain ⟨hnow, hvalid, hothers⟩ := hevent
  rw [hclose, State.closeSwap]
  split
  · refine ⟨hnow, hvalid, fun v hv => ?_⟩
    rw [window_setWindow, if_neg hv]
    exact hothers v hv
  · exact ⟨hnow, hvalid, hothers⟩

theorem recomputeWindow_eq (s : State) (w : WindowId) : s.recomputeWindow w =
    if (s.window w).state = .closed ∧ s.evaluates w = true then s.openEvent w
    else if (s.window w).state = .isOpen ∧ s.evaluates w = false then s.closeEvent w
    else s := by
  unfold State.recomputeWindow
  cases (s.window w).state <;> cases s.evaluates w <;> simp

theorem recomputeWindow_windowEvent (s : State) (w : WindowId) : WindowEvent w s (s.recomputeWindow w) := by
  rw [recomputeWindow_eq]
  split
  · exact openEvent_windowEvent s w
  · split
    · exact closeEvent_windowEvent s w
    · exact ⟨rfl, rfl, fun _ _ => rfl⟩

/-- After its turn a window is OPEN exactly where it evaluates to OPEN. -/
theorem recomputeWindow_state (s : State) (w : WindowId) :
    ((s.recomputeWindow w).window w).state = .isOpen ↔ s.evaluates w = true := by
  rw [recomputeWindow_eq]
  split
  · next h => simp [openEvent_window, h.2]
  · split
    · next h =>
      rw [closeEvent_window]
      split <;> simp [h.2]
    · next hopen hclose =>
      cases hstate : (s.window w).state <;> cases heval : s.evaluates w <;> simp_all

theorem foldl_recomputeWindow {l : List WindowId} (hl : l.Nodup) (s : State) :
    (l.foldl (fun u w => u.recomputeWindow w) s).now = s.now
      ∧ (l.foldl (fun u w => u.recomputeWindow w) s).timer.timeValid = s.timer.timeValid
      ∧ (∀ w, w ∉ l → (l.foldl (fun u w => u.recomputeWindow w) s).window w = s.window w)
      ∧ ∀ w ∈ l, ((l.foldl (fun u w => u.recomputeWindow w) s).window w).state = .isOpen ↔ s.evaluates w = true := by
  induction l generalizing s with
  | nil => exact ⟨rfl, rfl, fun _ _ => rfl, fun w hw => absurd hw List.not_mem_nil⟩
  | cons v l ih =>
    obtain ⟨hv, hl⟩ := List.nodup_cons.mp hl
    obtain ⟨hnow, hvalid, hothers⟩ := recomputeWindow_windowEvent s v
    obtain ⟨hnow', hvalid', hkept, hopen⟩ := ih hl (s.recomputeWindow v)
    rw [List.foldl_cons]
    refine ⟨hnow'.trans hnow, hvalid'.trans hvalid, fun w hw => ?_, fun w hw => ?_⟩
    · rw [List.mem_cons, not_or] at hw
      exact (hkept w hw.2).trans (hothers w hw.1)
    · by_cases hwv : w = v
      · subst hwv
        rw [hkept w hv]
        exact recomputeWindow_state s w
      · rw [hopen w (List.mem_of_ne_of_mem hwv hw), State.evaluates, State.evaluates, hothers w hwv, hnow, hvalid]

theorem windowIds_nodup : windowIds.Nodup := List.nodup_finRange 8

theorem windowIds_eq : windowIds = [0, 1, 2, 3, 4, 5, 6, 7] := by decide

/-- Every window is then as its active set places the second (R102). -/
theorem recompute_windows (s : State) : s.recompute.now = s.now
    ∧ s.recompute.timer.timeValid = s.timer.timeValid
    ∧ ∀ w, (s.recompute.window w).state = .isOpen ↔ s.evaluates w = true := by
  obtain ⟨hnow, hvalid, -, hopen⟩ := foldl_recomputeWindow windowIds_nodup s
  rw [State.recompute]
  exact ⟨hnow, hvalid, fun w => hopen w (List.mem_finRange w)⟩

end Recompute

theorem exec_siteTimeAdvance (s : State) : exec .siteTimeAdvance s =
    .next (if s.resetting = true then s else (s.setSiteTime (nextSecond s.now)).recompute) := rfl

/-! ## SET_TIME (R100) -/

section SetTime
variable {second : Triple} {s : State}

theorem setTimeAnswer_range (h : 604800 ≤ second.toNat) : setTimeAnswer second s = .fail .range s :=
  if_neg (Nat.not_lt.mpr h)

theorem setTimeAnswer_sets (h : second.toNat < 604800) : setTimeAnswer second s =
    .okWith (threeBytes s.now ++ [flagByte s.timer.timeValid]) (s.timeSet second.toNat) := if_pos h

theorem timeSet_held {n : Nat} (h : n = s.now) (hvalid : s.timer.timeValid = true) : s.timeSet n = s := if_pos ⟨h, hvalid⟩

theorem timeSet_steps {n : Nat} (h : n ≠ s.now ∨ s.timer.timeValid = false) :
    s.timeSet n = (s.stepTime n).recompute := by
  refine if_neg ?_
  rintro ⟨hn, hvalid⟩
  rcases h with h | h
  · exact h hn
  · simp [hvalid] at h

end SetTime

/-- Settles O36, window by window of a recompute. -/
theorem siteTimeAdvancesAndSteps : Obligations.SiteTimeAdvancesAndSteps := by
  refine ⟨fun second s htake hrange => exec_turnedAway rfl rfl rfl htake (setTimeAnswer_range hrange),
    fun second s htake hsame hnow hvalid => exec_answered rfl rfl rfl htake ?_,
    fun second s htake hsecond hstep => ?_, fun s => ?_, fun s hs => ?_, fun s hs => ?_⟩
  · refine (setTimeAnswer_sets (by omega)).trans ?_
    rw [timeSet_held (s := s.takeOut _ _) hsame hvalid]
    exact congrArg (fun valid => Answer.okWith (threeBytes s.now ++ [flagByte valid]) _) hvalid
  · intro move taken
    refine ⟨(s.table.carriers.map (fun r => r.moveDeadlines s.now second.toNat)),
      (s.ctrl.branches.map (fun r => r.moveDeadlines s.now second.toNat)), ?_⟩
    intro stepped
    have hstepped : stepped = taken.stepTime second.toNat := rfl
    obtain ⟨-, -, hopen⟩ := recompute_windows stepped
    refine ⟨fun c => ?_, fun b => ?_, exec_answered rfl rfl rfl htake ?_, fun w => ?_⟩
    · rw [hstepped, stepTime_carrier]
      rfl
    · rw [hstepped, stepTime_branch]
      rfl
    · rw [hstepped]
      refine (setTimeAnswer_sets hsecond).trans ?_
      rw [timeSet_steps (s := taken) hstep]
      rfl
    · exact (hopen w).trans (by rfl)
  · rw [State.recompute, windowIds_eq]
    exact congrArg (fun recompute => windowIds.foldl recompute s)
      (funext fun u => funext fun w => recomputeWindow_eq u w)
  · rw [exec_siteTimeAdvance, if_pos hs]
  · obtain ⟨hnow, hvalid, hopen⟩ := recompute_windows (s.setSiteTime (nextSecond s.now))
    refine ⟨(s.setSiteTime (nextSecond s.now)).recompute, ?_, rfl, hnow, hvalid, ?_, fun w => ?_⟩
    · rw [exec_siteTimeAdvance, if_neg (by simp [hs])]
    · exact ((OnlyPosts.refl s).setSiteTime _).trans (recompute_posts _)
    · refine (hopen w).trans ?_
      rw [State.evaluates, Bool.and_eq_true]
      rfl

end Sys2Proof.Machine

/-!
SUPPORT. The wakes of a raised floor (R46, R47): O35.
-/
namespace Sys2Proof.Machine
open Sys2Proof

/-! ## Counts of a pair (R45) -/

/-- A count of a list without repetitions grows by one when one of its places comes to be counted. -/
theorem countP_succ {α : Type} {p q : α → Bool} {a : α} (h : ∀ x, x ≠ a → q x = p x) (hp : p a = false)
    (hq : q a = true) {l : List α} (hl : l.Nodup) (ha : a ∈ l) : l.countP q = l.countP p + 1 := by
  induction l with
  | nil => cases ha
  | cons x l ih =>
    obtain ⟨hx, hl⟩ := List.nodup_cons.mp hl
    by_cases hxa : x = a
    · subst hxa
      have hsame : l.countP q = l.countP p := List.countP_congr fun y hy => by rw [h y fun hyx => hx (hyx ▸ hy)]
      simp [hp, hq, hsame]
    · rw [List.countP_cons, List.countP_cons, ih hl (List.mem_of_ne_of_mem (Ne.symm hxa) ha), h x hxa]
      omega

/-- The ON and the WAKING carriers of a pair. -/
def State.pairCount (s : State) (t : TenantId) (sec : SectorId) : Nat := s.onCount t sec + s.wakingCount t sec

/-- A RESTING COVERAGE carrier of the pair, which a raised floor may wake (R47). -/
def Carrier.floorWakes (r : Carrier) (t : TenantId) (sec : SectorId) : Prop :=
  r.state = .resting ∧ r.coverageOf t sec = true

section Counts
variable {s u : State} {t : TenantId} {sec : SectorId} {c : CarrierId}

theorem counts_congr (hstate : ∀ d, (u.carrier d).state = (s.carrier d).state)
    (hprovision : ∀ d, (u.carrier d).provision = (s.carrier d).provision) :
    u.onCount t sec = s.onCount t sec ∧ u.wakingCount t sec = s.wakingCount t sec := by
  have hcoverage : ∀ d, (u.carrier d).coverageOf t sec = (s.carrier d).coverageOf t sec := fun d => by
    rw [Carrier.coverageOf, hprovision, Carrier.coverageOf]
  simp only [State.onCount, State.wakingCount, hcoverage, hstate, and_self]

/-- A wake of a RESTING COVERAGE carrier of the pair is one more WAKING carrier of it. -/
theorem counts_woken (h : (s.carrier c).floorWakes t sec) :
    (s.setCarrier c ((s.carrier c).woken 7)).onCount t sec = s.onCount t sec
      ∧ (s.setCarrier c ((s.carrier c).woken 7)).wakingCount t sec = s.wakingCount t sec + 1 := by
  obtain ⟨hresting, hcoverage⟩ := h
  constructor
  · refine List.countP_congr fun d _ => ?_
    rw [carrier_setCarrier]
    split
    · next hd => simp [hd, Carrier.woken, hresting]
    · rfl
  · refine countP_succ (a := c) (fun d hd => by rw [carrier_setCarrier, if_neg hd]) (by simp [hresting]) ?_
      carrierIds_nodup (List.mem_finRange c)
    have hwoken : ((s.carrier c).woken 7).coverageOf t sec = true := hcoverage
    rw [carrier_setCarrier, if_pos rfl, hwoken]
    rfl

end Counts

/-! ## The wakes, carrier by carrier of a list (R47) -/

/-- What the wakes of a raised floor make of a round. -/
structure FloorWakes (t : TenantId) (sec : SectorId) (floor : Nat) (l : List CarrierId) (w w' : WakeRound) : Prop where
  frame : DrainFrame w.state w'.state
  freed : w'.freed = w.freed
  carriers : ∀ d, w'.state.carrier d = w.state.carrier d
    ∨ (d ∈ l ∧ (w.state.carrier d).floorWakes t sec ∧ w'.state.carrier d = (w.state.carrier d).woken 7)
  onCount : w'.state.onCount t sec = w.state.onCount t sec
  woken : w'.state.wakingCount t sec + w.woken = w.state.wakingCount t sec + w'.woken
  limit : w'.state.pairCount t sec ≤ max floor (w.state.pairCount t sec)
  short : w'.state.pairCount t sec < floor → ∀ c ∈ l, ¬ (w'.state.carrier c).floorWakes t sec
  ascending : ∀ c ∈ l, ∀ c' ∈ l, c < c' → (w.state.carrier c).floorWakes t sec →
    (w.state.carrier c').state = .resting → (w'.state.carrier c').state = .waking →
    (w'.state.carrier c).state = .waking

section Floor
variable {t : TenantId} {sec : SectorId} {floor : Nat} {w : WakeRound} {c : CarrierId} {l : List CarrierId}

theorem deliverFloor_full (h : floor ≤ w.state.pairCount t sec) : w.deliverFloor t sec floor c = w :=
  if_neg fun hc => absurd hc.2.2 (Nat.not_lt.mpr h)

theorem deliverFloor_passed (h : ¬ (w.state.carrier c).floorWakes t sec) : w.deliverFloor t sec floor c = w :=
  if_neg fun hc => h ⟨hc.1, hc.2.1⟩

theorem deliverFloor_wakes (h : (w.state.carrier c).floorWakes t sec) (hshort : w.state.pairCount t sec < floor) :
    w.deliverFloor t sec floor c = w.deliver c 7 := if_pos ⟨h.1, h.2, hshort⟩

theorem wakeCarrier_resting {s : State} (h : (s.carrier c).state = .resting) :
    (s.wakeCarrier c 7).state = s.setCarrier c ((s.carrier c).woken 7) ∧ (s.wakeCarrier c 7).outcome = .honoured
      ∧ (s.wakeCarrier c 7).freed = none := by
  rw [wakeCarrier_eq (by decide) (by simp [h])]
  simp [wakeTable, h, Carrier.woken]

theorem deliver_resting (h : (w.state.carrier c).state = .resting) :
    (w.deliver c 7).state = w.state.setCarrier c ((w.state.carrier c).woken 7) ∧ (w.deliver c 7).freed = w.freed
      ∧ (w.deliver c 7).woken = w.woken + 1 := by
  obtain ⟨hstate, houtcome, hfreed⟩ := wakeCarrier_resting h
  simp [WakeRound.deliver, hstate, houtcome, hfreed, h]

theorem floorWakes_full (h : floor ≤ w.state.pairCount t sec) (l : List CarrierId) :
    l.foldl (fun v c => v.deliverFloor t sec floor c) w = w := by
  induction l with
  | nil => rfl
  | cons c l ih => rw [List.foldl_cons, deliverFloor_full h, ih]

namespace FloorWakes

theorem refl (h : ∀ c ∈ l, w.state.pairCount t sec < floor → ¬ (w.state.carrier c).floorWakes t sec) :
    FloorWakes t sec floor l w w where
  frame := DrainFrame.refl _
  freed := rfl
  carriers _ := .inl rfl
  onCount := rfl
  woken := rfl
  limit := Nat.le_max_right _ _
  short hshort c hc := h c hc hshort
  ascending c _ c' _ _ _ hresting hwaking := by
    rw [hresting] at hwaking
    cases hwaking

section Cons
variable {w' : WakeRound} (hfirst : ∀ d ∈ l, c < d)
include hfirst

/-- A carrier that the floor wakes, before those of the list. -/
theorem cons_woken (hwakes : (w.state.carrier c).floorWakes t sec) (hshort : w.state.pairCount t sec < floor)
    (h : FloorWakes t sec floor l (w.deliver c 7) w') : FloorWakes t sec floor (c :: l) w w' := by
  have hc : c ∉ l := fun hmem => Fin.lt_irrefl c (hfirst c hmem)
  obtain ⟨hstate, hfreed, hwoken⟩ := deliver_resting (w := w) hwakes.1
  obtain ⟨hon, hwaking⟩ := counts_woken hwakes
  have hother : ∀ d, d ≠ c → (w.deliver c 7).state.carrier d = w.state.carrier d := fun d hd => by
    rw [hstate, carrier_setCarrier, if_neg hd]
  have hself : w'.state.carrier c = (w.state.carrier c).woken 7 := by
    rcases h.carriers c with hsame | ⟨hmem, -⟩
    · rw [hsame, hstate, carrier_setCarrier, if_pos rfl]
    · exact absurd hmem hc
  have hframe : DrainFrame w.state (w.deliver c 7).state := hstate ▸ (DrainFrame.refl _).setCarrier c _
  refine ⟨hframe.trans h.frame, h.freed.trans hfreed, fun d => ?_, by rw [h.onCount, hstate, hon], ?_, ?_,
    fun hlow d hd => ?_, fun d hd d' hd' hlt hd₁ hd₂ hd₃ => ?_⟩
  · by_cases hdc : d = c
    · rw [hdc]
      exact .inr ⟨List.mem_cons_self .., hwakes, hself⟩
    · rcases h.carriers d with hsame | ⟨hmem, hwoke, hd⟩
      · exact .inl (hsame.trans (hother d hdc))
      · rw [hother d hdc] at hwoke hd
        exact .inr ⟨List.mem_cons_of_mem c hmem, hwoke, hd⟩
  · have hcount := h.woken
    rw [hstate, hwaking, hwoken] at hcount
    omega
  · have hlimit := h.limit
    simp only [State.pairCount, hstate, hon, hwaking] at hlimit hshort ⊢
    omega
  · rcases List.mem_cons.mp hd with rfl | hd
    · rw [hself]
      exact fun hrests => nomatch hrests.1
    · exact h.short hlow d hd
  · by_cases hdc : d = c
    · rw [hdc, hself]
      rfl
    · have hdl : d ∈ l := List.mem_of_ne_of_mem hdc hd
      have hdc' : d' ≠ c := fun hd'c => absurd (hfirst d hdl) (Fin.not_lt.mpr (hd'c ▸ Fin.le_of_lt hlt))
      rw [← hother d hdc] at hd₁
      rw [← hother d' hdc'] at hd₂
      exact h.ascending d hdl d' (List.mem_of_ne_of_mem hdc' hd') hlt hd₁ hd₂ hd₃

/-- A carrier that it passes over, before those of the list. -/
theorem cons_passed (hpassed : ¬ (w.state.carrier c).floorWakes t sec) (h : FloorWakes t sec floor l w w') :
    FloorWakes t sec floor (c :: l) w w' := by
  have hc : c ∉ l := fun hmem => Fin.lt_irrefl c (hfirst c hmem)
  have hself : w'.state.carrier c = w.state.carrier c := (h.carriers c).resolve_right fun hmem => hc hmem.1
  refine ⟨h.frame, h.freed, fun d => ?_, h.onCount, h.woken, h.limit, fun hlow d hd => ?_,
    fun d hd d' hd' hlt hd₁ hd₂ hd₃ => ?_⟩
  · exact (h.carriers d).imp_right fun hd => ⟨List.mem_cons_of_mem c hd.1, hd.2⟩
  · rcases List.mem_cons.mp hd with rfl | hd
    · rwa [hself]
    · exact h.short hlow d hd
  · have hdc : d ≠ c := fun hdc => hpassed (hdc ▸ hd₁)
    have hdl : d ∈ l := List.mem_of_ne_of_mem hdc hd
    have hdc' : d' ≠ c := fun hd'c => absurd (hfirst d hdl) (Fin.not_lt.mpr (hd'c ▸ Fin.le_of_lt hlt))
    exact h.ascending d hdl d' (List.mem_of_ne_of_mem hdc' hd') hlt hd₁ hd₂ hd₃

end Cons

/-- The wakes of a list in ascending order. -/
theorem foldl (hl : l.Pairwise (· < ·)) (w : WakeRound) :
    FloorWakes t sec floor l w (l.foldl (fun v c => v.deliverFloor t sec floor c) w) := by
  induction l generalizing w with
  | nil => exact refl fun _ hc => absurd hc List.not_mem_nil
  | cons c l ih =>
    obtain ⟨hfirst, hl⟩ := List.pairwise_cons.mp hl
    by_cases hfull : floor ≤ w.state.pairCount t sec
    · rw [floorWakes_full hfull]
      exact refl fun _ _ hshort => absurd hshort (Nat.not_lt.mpr hfull)
    · have hshort := Nat.lt_of_not_le hfull
      rw [List.foldl_cons]
      by_cases hwakes : (w.state.carrier c).floorWakes t sec
      · rw [deliverFloor_wakes hwakes hshort]
        exact cons_woken hfirst hwakes hshort (ih hl _)
      · rw [deliverFloor_passed hwakes]
        exact cons_passed hfirst hwakes (ih hl w)

end FloorWakes

end Floor

/-! ## SET_FLOOR (R46) -/

section SetFloor
variable {t : TenantId} {sec : SectorId} {s : State}

theorem setFloorAnswer_range {tenant sector floor : Byte}
    (h : 4 ≤ tenant.toNat ∨ 6 ≤ sector.toNat ∨ 6 < floor.toNat) (s : State) :
    setFloorAnswer tenant sector floor s = .fail .range s := by
  unfold setFloorAnswer
  rcases h with h | h | h
  · rw [asTenant_outside h]
  · rw [asSector_outside h]
    cases asTenant tenant <;> rfl
  · rw [asRange_outside (.inr h)]
    cases asTenant tenant <;> cases asSector sector <;> rfl

theorem setFloorAnswer_sets {floor : Byte} (h : floor.toNat ≤ 6) :
    setFloorAnswer (indexByte t) (indexByte sec) floor s =
      .okWith [byteOf (s.floorOf t sec), byteOf ((s.floorSet t sec floor.toNat).finish.onCount t sec),
          byteOf ((s.floorSet t sec floor.toNat).finish.wakingCount t sec),
          byteOf (s.floorSet t sec floor.toNat).woken] (s.floorSet t sec floor.toNat).finish := by
  rw [setFloorAnswer, asTenant_indexByte, asSector_indexByte, asRange_inside (Nat.zero_le _) h]

theorem floorSet_lower {floor : Nat} (h : floor ≤ s.floorOf t sec) :
    s.floorSet t sec floor = WakeRound.start (s.setFloorOf t sec floor) := if_neg (Nat.not_lt.mpr h)

theorem carrierIds_sorted : carrierIds.Pairwise (· < ·) := List.pairwise_lt_finRange 48

theorem floorSet_higher {floor : Nat} (h : s.floorOf t sec < floor) :
    FloorWakes t sec floor carrierIds (WakeRound.start (s.setFloorOf t sec floor)) (s.floorSet t sec floor) := by
  have heq : s.floorSet t sec floor = (s.setFloorOf t sec floor).floorRound t sec floor := if_pos h
  rw [heq]
  exact FloorWakes.foldl carrierIds_sorted _

end SetFloor

section SetFloor
variable {t : TenantId} {sec : SectorId} {s : State}

/-- The end of the floor's round: its reports, which leave the floors, the states and the provisions. -/
theorem finish_floorWakes {floor : Nat} {w : WakeRound}
    (h : FloorWakes t sec floor carrierIds (WakeRound.start s) w) :
    UnmuteFrame w.state w.finish ∧ BranchFrame w.state w.finish := by
  have hfreed : w.freed = [] := h.freed
  rw [WakeRound.finish, hfreed]
  exact ⟨UnmuteFrame.reports _ _, BranchFrame.foldl _ memberReport_branchFrame _ (BranchFrame.refl _)⟩

theorem floorOf_congr {s u : State} (h : u.table.floors = s.table.floors) (t : TenantId) (sec : SectorId) :
    u.floorOf t sec = s.floorOf t sec := by rw [State.floorOf, h, State.floorOf]

end SetFloor

/-- Settles O35: the wakes in ascending index, and the reports after them, which wake no one. -/
theorem setFloorBringsTheFloorWithinReach : Obligations.SetFloorBringsTheFloorWithinReach := by
  refine ⟨fun t sec floor s htake h => exec_turnedAway rfl rfl rfl htake (setFloorAnswer_range h _),
    fun t sec floor s hfloor htake => ?_⟩
  let taken := s.takeOut .fleet (requestFrame .setFloor [indexByte t, indexByte sec, floor])
  let set := taken.setFloorOf t sec floor.toNat
  let w := taken.floorSet t sec floor.toNat
  have hexec : exec (.setFloor .fleet (indexByte t) (indexByte sec) floor) s =
      .next (s.answered .fleet .setFloor [indexByte t, indexByte sec, floor] (fun _ => w.finish) .ok
        [byteOf (s.floorOf t sec), byteOf (w.finish.onCount t sec), byteOf (w.finish.wakingCount t sec),
          byteOf w.woken]) :=
    exec_answered rfl rfl rfl htake (setFloorAnswer_sets (s := taken) hfloor)
  rcases Nat.lt_or_ge (s.floorOf t sec) floor.toNat with hhigher | hlower
  · have h : FloorWakes t sec floor.toNat carrierIds (WakeRound.start set) w := floorSet_higher (s := taken) hhigher
    obtain ⟨hunmutes, hframe⟩ := finish_floorWakes h
    obtain ⟨-, -, hfloors, -⟩ := hframe
    obtain ⟨-, -, hfloors', -⟩ := h.frame
    have hfloorOf : ∀ t' sec', w.finish.floorOf t' sec' = set.floorOf t' sec' :=
      floorOf_congr (hfloors.trans hfloors')
    obtain ⟨hon, hwaking⟩ := counts_congr (t := t) (sec := sec) (fun d => (hunmutes.carriers d).state)
      fun d => (hunmutes.carriers d).provision
    have hwoken : w.state.wakingCount t sec = s.wakingCount t sec + w.woken := h.woken
    have hlimit : w.state.pairCount t sec ≤ max floor.toNat (s.pairCount t sec) := h.limit
    have hstate : ∀ d, (w.finish.carrier d).state = (w.state.carrier d).state := fun d => (hunmutes.carriers d).state
    refine ⟨w.finish, w.woken, hexec, ?_, fun t' sec' hne => ?_, fun hle => absurd hle (Nat.not_le.mpr hhigher),
      fun _ => ⟨?_, ?_, ?_, fun hshort c hcoverage hresting => ?_, fun c hresting => ?_, fun c hnot => ?_,
        fun c c' hlt hc hc' hcoverage hwakes => ?_⟩⟩
    · rw [hfloorOf, floorOf_setFloorOf, if_pos ⟨rfl, rfl⟩]
    · rw [hfloorOf, floorOf_setFloorOf, if_neg fun hsame => hne (by rw [hsame.1, hsame.2])]
      rfl
    · exact hon.trans h.onCount
    · exact hwaking.trans hwoken
    · rw [hon, hwaking]
      exact hlimit
    · rw [hon, hwaking] at hshort
      rw [hstate] at hresting
      rw [Carrier.coverageOf, (hunmutes.carriers c).provision] at hcoverage
      exact h.short hshort c (List.mem_finRange c) ⟨hresting, hcoverage⟩
    · rcases h.carriers c with hsame | ⟨-, hwakes, hwoke⟩
      · have hkept := (hunmutes.carriers c).eq_of_not_waking (by rw [hsame]; exact fun hw => nomatch hresting.symm.trans hw)
        exact .inl (hkept.trans hsame)
      · have hkept := hunmutes.carriers c
        rw [hwoke] at hkept
        exact .inr ⟨hwakes.2, hkept.state, hkept.wakeLevel, hkept.pendingWake⟩
    · have hsame : w.state.carrier c = s.carrier c := (h.carriers c).resolve_right fun hmem => by
        obtain ⟨-, ⟨hresting, hcoverage⟩, -⟩ := hmem
        rcases hnot with hnot | hnot
        · exact hnot hresting
        · exact Bool.false_ne_true (hnot.symm.trans hcoverage)
      have hkept := hunmutes.carriers c
      rwa [hsame] at hkept
    · rw [hstate] at hwakes ⊢
      exact h.ascending c (List.mem_finRange c) c' (List.mem_finRange c') hlt ⟨hc, hcoverage⟩ hc' hwakes
  · have hstart : w = WakeRound.start set := floorSet_lower (s := taken) hlower
    have hfinish : w.finish = set := by rw [hstart]; rfl
    refine ⟨w.finish, w.woken, hexec, ?_, fun t' sec' hne => ?_, fun _ => ⟨by rw [hstart]; rfl, hfinish⟩,
      fun hlt => absurd hlt (Nat.not_lt.mpr hlower)⟩
    · rw [hfinish, floorOf_setFloorOf, if_pos ⟨rfl, rfl⟩]
    · rw [hfinish, floorOf_setFloorOf, if_neg fun hsame => hne (by rw [hsame.1, hsame.2])]
      rfl

end Sys2Proof.Machine

/-!
SUPPORT. What a branch with a WAKING member comes to, and the return of a branch from OUT (R26, R76): O26.
-/
namespace Sys2Proof.Machine
open Sys2Proof

/-! ## A branch with a WAKING member comes up (R61 to R66) -/

/-- The states of a branch that has power, or is on its way to it. -/
def BranchState.Up (state : BranchState) : Prop := state = .queued ∨ state = .raising ∨ state = .powered

/-- The branch has a WAKING member. -/
def State.WakingMember (s : State) (b : BranchId) : Prop :=
  ∃ c ∈ (s.branch b).members, (s.carrier c).state = .waking

theorem UnmuteFrame.wakingMember {s u : State} {b : BranchId} (h : UnmuteFrame s u) (hs : s.WakingMember b) :
    u.WakingMember b := by
  obtain ⟨c, hc, hwaking⟩ := hs
  exact ⟨c, by rwa [h.members], (h.carriers c).state.trans hwaking⟩

/-- While the branch has a WAKING member it does not settle: it stays up, and from DARK it goes nowhere but up. -/
structure StaysUp (b : BranchId) (s u : State) : Prop extends UnmuteFrame s u where
  up : s.WakingMember b → (s.branch b).state.Up → (u.branch b).state.Up
  dark : s.WakingMember b → (s.branch b).state = .dark → (u.branch b).state = .dark ∨ (u.branch b).state.Up

namespace StaysUp
variable {b b' : BranchId} {s t u : State}

theorem of_state (h : UnmuteFrame s u) (hstate : (u.branch b).state = (s.branch b).state) : StaysUp b s u :=
  ⟨h, fun _ hup => by rwa [hstate], fun _ hdark => .inl (hstate.trans hdark)⟩

theorem refl (s : State) : StaysUp b s s := of_state (UnmuteFrame.refl s) rfl

theorem of_up (h : UnmuteFrame s u) (hup : (u.branch b).state.Up) : StaysUp b s u :=
  ⟨h, fun _ _ => hup, fun _ _ => .inr hup⟩

theorem trans (h : StaysUp b s t) (k : StaysUp b t u) : StaysUp b s u where
  toUnmuteFrame := h.toUnmuteFrame.trans k.toUnmuteFrame
  up hs hup := k.up (h.wakingMember hs) (h.up hs hup)
  dark hs hdark := by
    rcases h.dark hs hdark with hdark | hup
    · exact k.dark (h.wakingMember hs) hdark
    · exact .inr (k.up (h.wakingMember hs) hup)

theorem foldl {α : Type} (f : State → α → State) (hf : ∀ u a, StaysUp b u (f u a)) (l : List α) (s : State) :
    StaysUp b s (l.foldl f s) := by
  induction l generalizing s with
  | nil => exact refl s
  | cons a l ih => exact (hf s a).trans (ih _)

/-- A record set that is up, or in the state it was in. -/
theorem setBranch (s : State) (b' : BranchId) {r : Branch} (hframe : UnmuteFrame s (s.setBranch b' r))
    (h : r.state.Up ∨ r.state = (s.branch b').state) : StaysUp b s (s.setBranch b' r) := by
  by_cases hb : b' = b
  · subst hb
    rcases h with h | h
    · exact of_up hframe (by rwa [branch_setBranch, if_pos rfl])
    · exact of_state hframe (by rw [branch_setBranch, if_pos rfl, h])
  · exact of_state hframe (by rw [branch_setBranch, if_neg (Ne.symm hb)])

theorem setArb (s : State) (a : Arbiter) : StaysUp b s (s.setArb a) := of_state (UnmuteFrame.setArb s a) rfl

theorem reportPowered (s : State) (b' : BranchId) : StaysUp b s (s.reportPowered b') :=
  of_state (UnmuteFrame.reportPowered s b') (by rw [reportPowered_branch])

/-- The settle test fails on a branch with a WAKING member, and on another it does not matter (R56). -/
theorem settleTest (s : State) (b' : BranchId) : StaysUp b s (s.settleTest b') := by
  by_cases hb : b' = b
  · subst hb
    have hnot : s.WakingMember b' → s.settleTest b' = s := fun ⟨c, hc, hwaking⟩ => settleTest_not fun hmet => by
      obtain ⟨-, -, -, hresting, -⟩ := hmet
      exact nomatch hwaking.symm.trans (hresting c hc)
    exact ⟨UnmuteFrame.settleTest s b', fun hs hup => by rwa [hnot hs], fun hs hdark => .inl (by rwa [hnot hs])⟩
  · refine of_state (UnmuteFrame.settleTest s b') (congrArg Branch.state ?_)
    by_cases hmet : SettleMet s b'
    · rw [settleTest_met hmet]
      unfold State.enterSettling State.lingerExpires State.beginLowering
      dsimp only
      repeat' split
      all_goals simp [Ne.symm hb]
    · rw [settleTest_not hmet]

theorem powered (s : State) (b' : BranchId) : StaysUp b s (s.enterBranch b' .powered) :=
  setBranch s b' (UnmuteFrame.enterBranch s b' nofun) (.inl (.inr (.inr rfl)))

theorem powerGood {consider : State → State} (hconsider : ∀ u, StaysUp b u (consider u)) (s : State) (b' : BranchId) :
    StaysUp b s (s.powerGood consider b') :=
  ((((powered s b').trans (setArb _ _)).trans (hconsider _)).trans (reportPowered _ b')).trans (settleTest _ b')

theorem takeGrant {consider : State → State} (hconsider : ∀ u, StaysUp b u (consider u)) (s : State) (b' : BranchId)
    (g : Grant) : StaysUp b s (s.takeGrant consider b' g) := by
  have hgranted : StaysUp b s (s.granted b' g) :=
    (setArb s _).trans (setBranch _ b' (UnmuteFrame.setBranch _ b' rfl rfl nofun) (.inl (.inr (.inl rfl))))
  rw [takeGrant_eq]
  split
  · exact hgranted.trans (powerGood hconsider _ b')
  · exact hgranted

theorem considerGrantsUpTo (n : Nat) (s : State) : StaysUp b s (considerGrantsUpTo n s) := by
  induction n generalizing s with
  | zero => exact refl s
  | succ n ih =>
    unfold Machine.considerGrantsUpTo
    split
    · exact refl s
    · exact (takeGrant ih s _ _).trans (ih _)

theorem considerGrants (s : State) : StaysUp b s s.considerGrants := considerGrantsUpTo _ s

theorem queuedAt (s : State) (b' : BranchId) (level : Nat) : StaysUp b s (s.queuedAt b' level) := by
  have hqueued : StaysUp b s (s.setBranch b' { (s.branch b').enter .queued with raiseLevel := level }) :=
    setBranch s b' (UnmuteFrame.setBranch s b' rfl rfl nofun) (.inl (.inl rfl))
  exact hqueued.trans (setArb _ _)

theorem enterQueued (s : State) (b' : BranchId) (level : Nat) : StaysUp b s (s.enterQueued b' level) :=
  (queuedAt s b' level).trans (considerGrants _)

theorem raiseQueued (s : State) {b' : BranchId} (h : (s.branch b').state = .queued) (level : Nat) :
    StaysUp b s (s.raiseQueued b' level) := by
  have hraised : StaysUp b s (s.setBranch b' { s.branch b' with raiseLevel := level }) :=
    setBranch s b' (UnmuteFrame.setBranch s b' rfl rfl (by simp [h])) (.inr rfl)
  unfold State.raiseQueued
  dsimp only
  split
  · exact (hraised.trans (setArb _ _)).trans (considerGrants _)
  · exact refl s

theorem memberWaking (s : State) (b' : BranchId) (level : Nat) : StaysUp b s (s.memberWaking b' level) := by
  unfold State.memberWaking
  dsimp only
  split
  case h_1 => exact reportPowered s b'
  case h_2 => exact (powered s b').trans (reportPowered _ b')
  case h_3 h => exact setBranch s b' (UnmuteFrame.setBranch s b' rfl rfl (by simp [h])) (.inr rfl)
  case h_4 => exact enterQueued s b' level
  case h_5 h => exact raiseQueued s h level
  case h_6 h => exact setBranch s b' (UnmuteFrame.setBranch s b' rfl rfl (by simp [h])) (.inr rfl)
  all_goals exact refl s

theorem memberRaised (s : State) (b' : BranchId) (level : Nat) : StaysUp b s (s.memberRaised b' level) := by
  unfold State.memberRaised
  dsimp only
  split
  case h_1 h => exact raiseQueued s h level
  case h_2 h => exact setBranch s b' (UnmuteFrame.setBranch s b' rfl rfl (by simp [h])) (.inr rfl)
  all_goals exact refl s

theorem memberReport (s : State) (report : MemberReport) : StaysUp b s (s.memberReport report) := by
  cases report with
  | waking b' level => exact memberWaking s b' level
  | raised b' level => exact memberRaised s b' level

theorem queueIfPinned (s : State) (b' : BranchId) : StaysUp b s (s.queueIfPinned b') := by
  unfold State.queueIfPinned
  split
  · exact enterQueued s b' 1
  · exact refl s

end StaysUp

/-- A report of a waking member brings a DARK branch up (R61). -/
theorem memberWaking_up {s : State} {b : BranchId} (level : Nat) (hs : s.WakingMember b)
    (h : (s.branch b).state = .dark ∨ (s.branch b).state.Up) : ((s.memberWaking b level).branch b).state.Up := by
  rcases h with hdark | hup
  · rw [memberWaking_dark hdark]
    have hqueued : ((s.queuedAt b level).branch b).state = .queued := by simp [State.queuedAt]
    exact (StaysUp.considerGrants (s.queuedAt b level)).up
      ((StaysUp.queuedAt (b := b) s b level).wakingMember hs) (.inl hqueued)
  · exact (StaysUp.memberWaking s b level).up hs hup

/-- Where one of the reports is of a waking member of the branch, the branch is up in the end. -/
theorem reports_up {s : State} {b : BranchId} {level : Nat} {reports : List MemberReport} (hs : s.WakingMember b)
    (h : (s.branch b).state = .dark ∨ (s.branch b).state.Up) (hmem : .waking b level ∈ reports) :
    ((reports.foldl (fun u report => u.memberReport report) s).branch b).state.Up := by
  obtain ⟨before, after, rfl⟩ := List.append_of_mem hmem
  rw [List.foldl_append, List.foldl_cons]
  have hbefore := StaysUp.foldl (b := b) _ StaysUp.memberReport before s
  generalize before.foldl (fun u report => u.memberReport report) s = t at hbefore
  have ht : (t.branch b).state = .dark ∨ (t.branch b).state.Up :=
    h.elim (hbefore.dark hs) fun hup => .inr (hbefore.up hs hup)
  have hwaking := hbefore.wakingMember hs
  have hafter := StaysUp.foldl (b := b) _ StaysUp.memberReport after (t.memberWaking b level)
  exact hafter.up ((StaysUp.memberWaking (b := b) t b level).wakingMember hwaking) (memberWaking_up level hwaking ht)

/-! ## The restore of the members (R26) -/

/-- The pending wake of the carrier is honoured when it is RESTING again (R26, R83). -/
abbrev Carrier.wakesRestored (r : Carrier) (quiet : Nat) : Prop :=
  r.pendingWake ≠ 0 ∧ (r.pendingWake = 7 ∨ quiet < r.pendingWake)

/-- The record after its restore. -/
def Carrier.restoredAt (r : Carrier) (quiet : Nat) : Carrier :=
  if r.wakesRestored quiet then
    { r with state := .waking, wakeLevel := some r.pendingWake, pendingWake := 0, unmuteSent := false }
  else { r with state := .resting }

/-- The report of the restored carrier's wake. -/
def Carrier.restoreReport (r : Carrier) (quiet : Nat) : Option MemberReport :=
  if r.wakesRestored quiet then
    r.provision.map (fun pv => .waking pv.branch r.pendingWake)
  else none

theorem restoredAt_state_ne (r : Carrier) (quiet : Nat) : (r.restoredAt quiet).state ≠ .barred := by
  unfold Carrier.restoredAt
  split <;> simp

theorem quietLevel_of_provision {s u : State} {c : CarrierId}
    (hc : (u.carrier c).provision = (s.carrier c).provision) (ht : u.timer = s.timer) :
    u.quietLevel c = s.quietLevel c := by
  have hwindow : ∀ w, u.window w = s.window w := fun w => by rw [State.window, ht, State.window]
  unfold State.quietLevel State.windowOpen
  rw [hc]
  simp only [hwindow]

/-- A wake at the pending level of a carrier just RESTING again. -/
theorem wakeTable_restored {r : Carrier} (hr : r.pendingWake ≠ 0) (quiet : Nat) :
    (wakeTable { r with state := .resting } quiet r.pendingWake).2.1 = r.restoredAt quiet
      ∧ (wakeTable { r with state := .resting } quiet r.pendingWake).2.2.bind
          (fun report => r.provision.map (fun pv => report pv.branch)) = r.restoreReport quiet := by
  unfold wakeTable Carrier.restoredAt Carrier.restoreReport
  by_cases hhonours : r.pendingWake = 7 ∨ quiet < r.pendingWake <;> simp [hr, hhonours]

section Restore
variable {w : WakeRound} {b : BranchId} {c : CarrierId}

theorem restoreMember_other (h : (w.state.carrier c).state ≠ .barred) : w.restoreMember b c = w := if_neg h

/-- One restore: the record, RESTORED to its owner, and the report of its wake. -/
structure Restored (b : BranchId) (c : CarrierId) (w w' : WakeRound) : Prop where
  frame : DrainFrame w.state w'.state
  freed : w'.freed = w.freed
  carrier : ∀ d, w'.state.carrier d =
    if d = c then (w.state.carrier c).restoredAt (w.state.quietLevel c) else w.state.carrier d
  tenant : ∀ t, w'.state.port (.tenant t) =
    if (w.state.carrier c).ownedBy t = true then (w.state.port (.tenant t)).post (.restored c b)
    else w.state.port (.tenant t)
  other : ∀ p, p = .plant ∨ p = .fleet → w'.state.port p = w.state.port p
  reports : w'.reports = w.reports ++ ((w.state.carrier c).restoreReport (w.state.quietLevel c)).toList

theorem restoreMember_restored (h : (w.state.carrier c).state = .barred) : Restored b c w (w.restoreMember b c) := by
  let r := w.state.carrier c
  let rests := (w.state.setCarrier c { r with state := .resting }).postOwner c (.restored c b)
  have hcarrier : ∀ d, rests.carrier d = if d = c then { r with state := .resting } else w.state.carrier d := fun d => by
    rw [postOwner_carrier, carrier_setCarrier]
  have hframe : DrainFrame w.state rests := ((DrainFrame.refl _).setCarrier c _).trans (postOwner_drainFrame _ c _)
  have htenant : ∀ t, rests.port (.tenant t) = if r.ownedBy t = true then (w.state.port (.tenant t)).post (.restored c b)
      else w.state.port (.tenant t) := fun t => by
    rw [postOwner_tenant, carrier_setCarrier, if_pos rfl]
    rfl
  have hother : ∀ p, p = .plant ∨ p = .fleet → rests.port p = w.state.port p := fun p hp => by
    rw [postOwner_other _ _ _ hp, setCarrier_port]
  have hquiet : rests.quietLevel c = w.state.quietLevel c := by
    obtain ⟨-, -, -, -, -, -, htimer, -⟩ := hframe
    exact quietLevel_of_provision (by rw [hcarrier, if_pos rfl]) htimer
  have hself : rests.carrier c = { r with state := .resting } := by rw [hcarrier, if_pos rfl]
  by_cases hpending : r.pendingWake = 0
  · have heq : w.restoreMember b c = { w with state := rests } := (if_pos h).trans (if_pos hpending)
    have hnot : ¬ r.wakesRestored (w.state.quietLevel c) := fun hw =>
      hw.1 hpending
    rw [heq]
    refine ⟨hframe, rfl, fun d => ?_, htenant, hother, ?_⟩
    · rw [Carrier.restoredAt, if_neg hnot]
      exact hcarrier d
    · rw [Carrier.restoreReport, if_neg hnot]
      exact (List.append_nil _).symm
  · have heq : w.restoreMember b c = ({ w with state := rests } : WakeRound).deliver c r.pendingWake :=
      (if_pos h).trans (if_neg hpending)
    have hlevel : 1 ≤ r.pendingWake := Nat.one_le_iff_ne_zero.mpr hpending
    have hwake := wakeCarrier_eq (s := rests) (c := c) hlevel (by simp [hself])
    obtain ⟨hrecord, hreport⟩ := wakeTable_restored hpending (w.state.quietLevel c)
    rw [hself, hquiet, hrecord] at hwake
    have hstate : (w.restoreMember b c).state = rests.setCarrier c (r.restoredAt (w.state.quietLevel c)) := by
      rw [heq]
      exact congrArg WakeEffect.state hwake
    refine ⟨?_, ?_, fun d => ?_, fun t => ?_, fun p hp => ?_, ?_⟩
    · rw [hstate]
      exact hframe.setCarrier c _
    · rw [heq]
      show w.freed ++ (rests.wakeCarrier c r.pendingWake).freed.toList = w.freed
      rw [hwake]
      exact List.append_nil _
    · rw [hstate, carrier_setCarrier, hcarrier]
      split <;> rfl
    · rw [hstate, setCarrier_port]
      exact htenant t
    · rw [hstate, setCarrier_port]
      exact hother p hp
    · rw [heq]
      show w.reports ++ (rests.wakeCarrier c r.pendingWake).report.toList = _
      rw [hwake]
      exact congrArg (fun report => w.reports ++ report.toList) hreport

end Restore

/-- The restores of a list. -/
structure RestoredAll (b : BranchId) (l : List CarrierId) (w w' : WakeRound) : Prop where
  frame : DrainFrame w.state w'.state
  freed : w'.freed = w.freed
  carrier : ∀ d, w'.state.carrier d =
    if d ∈ l ∧ (w.state.carrier d).state = .barred then (w.state.carrier d).restoredAt (w.state.quietLevel d)
    else w.state.carrier d
  tenant : l.Nodup → ∀ t, w'.state.port (.tenant t) =
    ((l.filter (fun c => (w.state.carrier c).state == .barred && (w.state.carrier c).ownedBy t)).map
      (fun c => Notice.restored c b)).foldl PortState.post (w.state.port (.tenant t))
  other : ∀ p, p = .plant ∨ p = .fleet → w'.state.port p = w.state.port p
  reported : ∀ report ∈ w.reports, report ∈ w'.reports
  wakes : ∀ c ∈ l, (w.state.carrier c).state = .barred →
    ∀ report ∈ (w.state.carrier c).restoreReport (w.state.quietLevel c), report ∈ w'.reports
  quiet : (∀ c ∈ l, (w.state.carrier c).state = .barred →
    (w.state.carrier c).restoreReport (w.state.quietLevel c) = none) → w'.reports = w.reports

theorem foldl_restoreMember (b : BranchId) (l : List CarrierId) (w : WakeRound) :
    RestoredAll b l w (l.foldl (fun v c => v.restoreMember b c) w) := by
  induction l generalizing w with
  | nil => exact ⟨DrainFrame.refl _, rfl, fun d => by simp, fun _ _ => rfl, fun _ _ => rfl, fun _ h => h,
      fun _ hc => absurd hc List.not_mem_nil, fun _ => rfl⟩
  | cons c l ih =>
    rw [List.foldl_cons]
    by_cases hbarred : (w.state.carrier c).state = .barred
    · have hstep := restoreMember_restored (b := b) hbarred
      have h := ih (w.restoreMember b c)
      generalize l.foldl (fun v c => v.restoreMember b c) (w.restoreMember b c) = w' at h
      generalize w.restoreMember b c = v at hstep h
      have hquiet : ∀ d, d ≠ c → v.state.quietLevel d = w.state.quietLevel d := fun d hd => by
        obtain ⟨-, -, -, -, -, -, htimer, -⟩ := hstep.frame
        exact quietLevel_congr (by rw [hstep.carrier, if_neg hd]) htimer
      have hself : (v.state.carrier c).state ≠ .barred := by
        rw [hstep.carrier, if_pos rfl]
        exact restoredAt_state_ne _ _
      have hother : ∀ d, d ≠ c → v.state.carrier d = w.state.carrier d := fun d hd => by rw [hstep.carrier, if_neg hd]
      refine ⟨hstep.frame.trans h.frame, h.freed.trans hstep.freed, fun d => ?_, fun hl t => ?_,
        fun p hp => (h.other p hp).trans (hstep.other p hp),
        fun report hreport => h.reported report (by rw [hstep.reports]; exact List.mem_append_left _ hreport),
        fun d hd hdbarred report hreport => ?_, fun hnone => ?_⟩
      · rw [h.carrier]
        by_cases hd : d = c
        · subst hd
          rw [if_neg (fun hboth => hself hboth.2), if_pos ⟨List.mem_cons_self .., hbarred⟩, hstep.carrier, if_pos rfl]
        · rw [hother d hd, hquiet d hd]
          simp [hd]
      · obtain ⟨hc, hl⟩ := List.nodup_cons.mp hl
        have hrest : l.filter (fun d => (v.state.carrier d).state == .barred && (v.state.carrier d).ownedBy t)
            = l.filter (fun d => (w.state.carrier d).state == .barred && (w.state.carrier d).ownedBy t) :=
          List.filter_congr fun d hd => by rw [hother d fun hdc => hc (hdc ▸ hd)]
        rw [h.tenant hl, hrest, hstep.tenant, List.filter_cons]
        cases howned : (w.state.carrier c).ownedBy t <;> simp [hbarred]
      · by_cases hdc : d = c
        · refine h.reported report ?_
          rw [hstep.reports, ← hdc]
          exact List.mem_append_right _ (Option.mem_toList.mpr hreport)
        · rw [← hother d hdc, ← hquiet d hdc] at hreport
          exact h.wakes d (List.mem_of_ne_of_mem hdc hd) (by rwa [hother d hdc]) report hreport
      · have hstepNone := hnone c (List.mem_cons_self ..) hbarred
        rw [h.quiet fun d hd hdbarred => ?_, hstep.reports, hstepNone]
        · exact List.append_nil _
        · have hdc : d ≠ c := fun hdc => hself (hdc ▸ hdbarred)
          rw [hother d hdc, hquiet d hdc]
          exact hnone d (List.mem_cons_of_mem c hd) (by rwa [← hother d hdc])
    · have h := ih w
      rw [restoreMember_other hbarred]
      generalize l.foldl (fun v c => v.restoreMember b c) w = w' at h
      refine ⟨h.frame, h.freed, fun d => ?_, fun hl t => ?_, h.other, h.reported, fun d hd hdbarred => ?_,
        fun hnone => h.quiet fun d hd => hnone d (List.mem_cons_of_mem c hd)⟩
      · rw [h.carrier]
        by_cases hd : d = c
        · simp [hd, hbarred]
        · simp [hd]
      · rw [h.tenant (List.nodup_cons.mp hl).2, List.filter_cons]
        simp [hbarred]
      · exact h.wakes d (List.mem_of_ne_of_mem (fun hdc : d = c => hbarred (hdc ▸ hdbarred)) hd) hdbarred

/-! ## RETURN_BRANCH (R76) -/

section Return
variable {b : BranchId} {s : State}

theorem returnBranchAnswer_range {b : Byte} (h : 16 ≤ b.toNat) (s : State) : returnBranchAnswer b s = .fail .range s := by
  rw [returnBranchAnswer, asBranch_outside h]

theorem returnBranchAnswer_state (h : (s.branch b).state ≠ .out) :
    returnBranchAnswer (indexByte b) s = .fail .state s := by
  rw [returnBranchAnswer, asBranch_indexByte]
  exact if_neg h

theorem returnBranchAnswer_returns (h : (s.branch b).state = .out) :
    returnBranchAnswer (indexByte b) s = .ok (s.bringBack b) := by
  rw [returnBranchAnswer, asBranch_indexByte]
  exact if_pos h

/-- The round of the restores, from the DARK branch (R76). -/
def State.restoreRound (s : State) (b : BranchId) : WakeRound :=
  (s.branch b).members.foldl (fun w c => w.restoreMember b c) (WakeRound.start (s.enterBranch b .dark))

theorem bringBack_eq (s : State) (b : BranchId) : s.bringBack b = ((s.restoreRound b).finish).queueIfPinned b := by
  rw [State.bringBack, State.enterBranch, branch_setBranch, if_pos rfl]
  rfl

theorem restoreRound_restored (s : State) (b : BranchId) :
    RestoredAll b (s.branch b).members (WakeRound.start (s.enterBranch b .dark)) (s.restoreRound b) :=
  foldl_restoreMember b _ _

theorem restoreRound_finish (s : State) (b : BranchId) : (s.restoreRound b).finish =
    (s.restoreRound b).reports.foldl (fun u report => u.memberReport report) (s.restoreRound b).state := by
  have hfreed : (s.restoreRound b).freed = [] := (restoreRound_restored s b).freed
  rw [WakeRound.finish, hfreed]
  rfl

theorem restoreRound_branch (s : State) (b : BranchId) :
    (s.restoreRound b).state.branch b = (s.branch b).enter .dark := by
  obtain ⟨hctrl, -⟩ := (restoreRound_restored s b).frame
  rw [State.branch, hctrl]
  exact (branch_setBranch s b b _).trans (if_pos rfl)

/-- The record of every carrier before the reports. -/
theorem restoreRound_carrier (s : State) (b : BranchId) (d : CarrierId) : (s.restoreRound b).state.carrier d =
    if d ∈ (s.branch b).members ∧ (s.carrier d).state = .barred then (s.carrier d).restoredAt (s.quietLevel d)
    else s.carrier d := (restoreRound_restored s b).carrier d

theorem bringBack_unmutes (s : State) (b : BranchId) : UnmuteFrame (s.restoreRound b).state (s.bringBack b) := by
  rw [bringBack_eq, restoreRound_finish]
  exact (UnmuteFrame.reports _ _).trans (UnmuteFrame.queueIfPinned _ b)

theorem bringBack_branchFrame (s : State) (b : BranchId) : BranchFrame (s.restoreRound b).state (s.bringBack b) := by
  have hreports := BranchFrame.foldl _ memberReport_branchFrame (s.restoreRound b).reports
    (BranchFrame.refl (s.restoreRound b).state)
  rw [bringBack_eq, restoreRound_finish]
  unfold State.queueIfPinned
  split
  · exact hreports.trans (enterQueued_branchFrame _ b 1)
  · exact hreports

/-- With no wake honoured there is no report, and the branch stays DARK but for a queue entry in PINNED. -/
theorem bringBack_quiet (h : ∀ c, c ∈ (s.branch b).members ∧ (s.carrier c).state = .barred →
    ¬ (s.carrier c).wakesRestored (s.quietLevel c)) : s.bringBack b = (s.restoreRound b).state.queueIfPinned b := by
  have hreports : (s.restoreRound b).reports = [] := (restoreRound_restored s b).quiet fun c hc hbarred =>
    if_neg (h c ⟨hc, hbarred⟩)
  rw [bringBack_eq, restoreRound_finish, hreports]
  rfl

/-- A member whose wake is honoured brings its branch up. -/
theorem bringBack_up {c : CarrierId} (hc : c ∈ (s.branch b).members) (hbarred : (s.carrier c).state = .barred)
    (hwakes : (s.carrier c).wakesRestored (s.quietLevel c)) (hbranch : (s.carrier c).onBranch b = true) :
    ((s.bringBack b).branch b).state.Up := by
  have hstate := restoreRound_branch s b
  have hwaking : (s.restoreRound b).state.WakingMember b := by
    refine ⟨c, by rwa [hstate], ?_⟩
    rw [restoreRound_carrier, if_pos ⟨hc, hbarred⟩, Carrier.restoredAt, if_pos hwakes]
  have hreport : ∃ level, .waking b level ∈ (s.restoreRound b).reports := by
    cases hpv : (s.carrier c).provision with
    | none => simp [Carrier.onBranch, hpv] at hbranch
    | some pv =>
      have hb : pv.branch = b := by simpa [Carrier.onBranch, hpv] using hbranch
      refine ⟨(s.carrier c).pendingWake, (restoreRound_restored s b).wakes c hc hbarred _ ?_⟩
      show _ ∈ (s.carrier c).restoreReport (s.quietLevel c)
      rw [Carrier.restoreReport, if_pos hwakes, hpv, ← hb]
      rfl
  obtain ⟨level, hmem⟩ := hreport
  have hup := reports_up hwaking (.inl (by rw [hstate]; rfl)) hmem
  have hstays := StaysUp.foldl (b := b) _ StaysUp.memberReport (s.restoreRound b).reports (s.restoreRound b).state
  rw [← restoreRound_finish] at hup hstays
  rw [bringBack_eq]
  exact (StaysUp.queueIfPinned _ b).up (hstays.wakingMember hwaking) hup

end Return

/-- Settles O26: the restores, then the reports of the wakes, and then the queue entry of a PINNED branch. -/
theorem returnBranchRestoresItsMembers : Obligations.ReturnBranchRestoresItsMembers := by
  refine ⟨fun b s h htake => exec_turnedAway rfl rfl rfl htake (returnBranchAnswer_range h _),
    fun b s h htake => exec_turnedAway rfl rfl rfl htake (returnBranchAnswer_state (s := s.takeOut _ _) h),
    fun b s hout htake => ?_⟩
  let taken := s.takeOut .plant (requestFrame .returnBranch [indexByte b])
  have hunmutes := bringBack_unmutes taken b
  have hrestored := restoreRound_restored taken b
  have hbranch := restoreRound_branch taken b
  obtain ⟨-, -, -, -, -, -, htimer, hstack, -⟩ := bringBack_branchFrame taken b
  obtain ⟨-, harb, -, -, -, -, htimer', hstack', -⟩ := hrestored.frame
  refine ⟨taken.bringBack b, exec_answered rfl rfl rfl htake (returnBranchAnswer_returns (s := taken) hout),
    bringBack_posts taken b, hunmutes.notOut b (by rw [hbranch]; nofun),
    (hunmutes.members b).trans (by rw [hbranch]; rfl),
    (hunmutes.lineMode b).trans (by rw [hbranch]; rfl), htimer.trans htimer', hstack.trans hstack', ?_⟩
  intro taken' restored honoured
  have hcarrier : ∀ c, KeptOrUnmuted (if restored c then (s.carrier c).restoredAt (s.quietLevel c) else s.carrier c)
      ((taken.bringBack b).carrier c) := fun c => by
    have hkept := hunmutes.carriers c
    rwa [restoreRound_carrier taken b c] at hkept
  refine ⟨fun c hc => ⟨fun hwakes => ?_, fun hnot => ?_⟩, fun c hc => ?_, fun hsorted t => ?_, ?_, ?_,
    fun hnone => ?_, fun hsome => ?_⟩
  · have hkept := hcarrier c
    rwa [if_pos hc, Carrier.restoredAt, if_pos hwakes] at hkept
  · have hkept := hcarrier c
    rw [if_pos hc, Carrier.restoredAt, if_neg hnot] at hkept
    exact hkept.eq_of_not_waking nofun
  · have hkept := hcarrier c
    rwa [if_neg hc] at hkept
  · obtain ⟨unmutes, honly, hport⟩ := hunmutes.tenants t
    refine ⟨unmutes, honly, ?_⟩
    rw [hport, hrestored.tenant (hsorted.imp fun h => Fin.ne_of_lt h), List.foldl_append]
    rfl
  · exact (hunmutes.others _ (.inl rfl)).trans (hrestored.other _ (.inl rfl))
  · exact (hunmutes.others _ (.inr rfl)).trans (hrestored.other _ (.inr rfl))
  · have hquiet := bringBack_quiet (s := taken) hnone
    have hmodeKept : ((taken.restoreRound b).state.branch b).lineMode = (s.branch b).lineMode := by rw [hbranch]; rfl
    refine ⟨fun hmode => ?_, fun hmode => ⟨(taken.restoreRound b).state, ?_, harb, hbranch⟩⟩
    · rw [hquiet, State.queueIfPinned, if_neg fun hpinned => by simp [hmodeKept, hmode] at hpinned]
      exact ⟨hbranch, harb⟩
    · rw [hquiet, State.queueIfPinned, if_pos ⟨by rw [hbranch]; rfl, hmodeKept.trans hmode⟩]
  · obtain ⟨c, ⟨hmember, hbarred⟩, hwakes, hon⟩ := hsome
    exact bringBack_up (s := taken) hmember hbarred hwakes hon

end Sys2Proof.Machine

/-!
SUPPORT. What the offers of a freed slot leave and post (R9, R11), and the close event of a window (R107): O37.
-/
namespace Sys2Proof.Machine
open Sys2Proof

/-! ## The notices of an offer -/

/-- DRAINs reached the tenant, one for each of its carriers that has come to be DRAINING. -/
def DrainsPosted (t : TenantId) (s u : State) : Prop :=
  ∃ drains : List Notice, (∀ n ∈ drains, n.isDrain = true)
    ∧ u.port (.tenant t) = drains.foldl PortState.post (s.port (.tenant t))
    ∧ ∀ c, (s.carrier c).ownedBy t = true → (s.carrier c).state ≠ .draining → (u.carrier c).state = .draining →
      ∃ deadline, Notice.drain c deadline ∈ drains

/-- What an offer of a slot does: the drains of R9, DRAIN to the owners, and CHANNEL_DONE where a start completes. A
carrier whose window is CLOSED is not reached. -/
structure SlotOffer (s u : State) : Prop extends OfferFrame s u where
  frame : DrainFrame s u
  lines : u.lines.restHold = s.lines.restHold ∧ u.lines.holdMode = s.lines.holdMode
  tenants : ∀ t, DrainsPosted t s u
  others : ∀ p, p = .plant ∨ p = .fleet → ∃ dones, DonesOnly dones ∧ u.port p = dones.foldl PortState.post (s.port p)
  shut : ∀ w, (s.window w).state = .closed → ∀ c, (s.carrier c).boundTo w = true → u.carrier c = s.carrier c

theorem keptOrDrained_provision {s : State} {now : Nat} {r r' : Carrier} (h : KeptOrDrained s now r r') :
    r'.provision = r.provision := by
  rcases h with rfl | ⟨-, -, -, k, rfl⟩ <;> rfl

theorem DonesOnly.append {xs ys : List Notice} (hxs : DonesOnly xs) (hys : DonesOnly ys) : DonesOnly (xs ++ ys) :=
  fun n hn => (List.mem_append.mp hn).elim (hxs n) (hys n)

/-- A drain starts only where the carrier's window admits it (R8). -/
theorem windowOpen_of_started {s : State} {c : CarrierId} {w : WindowId} (h : s.drainAnswer c = .started)
    (hbound : (s.carrier c).boundTo w = true) : (s.window w).state = .isOpen := by
  obtain ⟨pv, hpv, -⟩ := hasFreeSlot_of_started h
  have hwindow : pv.window = some w := by simpa [Carrier.boundTo, hpv] using hbound
  unfold State.drainAnswer at h
  dsimp only at h
  rw [hpv] at h
  dsimp only at h
  repeat' split at h
  all_goals simp_all [State.windowAdmits, State.windowOpen]

/-- An entry that started a drain has posted its DRAIN. -/
theorem startDrain_port {s : State} {c : CarrierId} {pv : Provision} (hpv : (s.carrier c).provision = some pv)
    (k : ChannelId) (p : Port) : (s.startDrain c k).port p =
      if p = .tenant pv.owner then (s.port p).post (.drain c (secondsAfter s.now s.table.drainTime)) else s.port p := by
  rw [startDrain_eq hpv, port_post]
  split
  · next hp => rw [hp, setCarrier_port]
  · rw [setCarrier_port]

namespace SlotOffer
variable {s t u : State}

theorem trans (h : SlotOffer s t) (k : SlotOffer t u) : SlotOffer s u where
  toOfferFrame := h.toOfferFrame.trans k.toOfferFrame
  frame := h.frame.trans k.frame
  lines := ⟨k.lines.1.trans h.lines.1, k.lines.2.trans h.lines.2⟩
  tenants x := by
    obtain ⟨xs, hxs, hport, hdrains⟩ := h.tenants x
    obtain ⟨ys, hys, hport', hdrains'⟩ := k.tenants x
    refine ⟨xs ++ ys, fun n hn => (List.mem_append.mp hn).elim (hxs n) (hys n),
      by rw [hport', hport, List.foldl_append], fun c howner hnot hdraining => ?_⟩
    by_cases hmid : (t.carrier c).state = .draining
    · obtain ⟨deadline, hmem⟩ := hdrains c howner hnot hmid
      exact ⟨deadline, List.mem_append_left ys hmem⟩
    · have howner' : (t.carrier c).ownedBy x = true := by
        rwa [Carrier.ownedBy, keptOrDrained_provision (h.carriers c)]
      obtain ⟨deadline, hmem⟩ := hdrains' c howner' hmid hdraining
      exact ⟨deadline, List.mem_append_right xs hmem⟩
  others p hp := by
    obtain ⟨xs, hxs, hport⟩ := h.others p hp
    obtain ⟨ys, hys, hport'⟩ := k.others p hp
    exact ⟨xs ++ ys, hxs.append hys, by rw [hport', hport, List.foldl_append]⟩
  shut w hw c hc := by
    have hsame := h.shut w hw c hc
    obtain ⟨-, -, -, -, -, -, htimer, -⟩ := h.frame
    have hclosed : (t.window w).state = .closed := by rwa [State.window, htimer]
    rw [k.shut w hclosed c (by rwa [hsame]), hsame]

theorem refl (s : State) : SlotOffer s s where
  toOfferFrame := OfferFrame.refl s
  frame := DrainFrame.refl s
  lines := ⟨rfl, rfl⟩
  tenants t := ⟨[], by simp, rfl, fun c _ hnot hdraining => absurd hdraining hnot⟩
  others p _ := ⟨[], by simp [DonesOnly], rfl⟩
  shut _ _ _ _ := rfl

/-- The work of a channel alone. -/
theorem of_channel (h : ChannelFrame s u) (k : DoneFrame s u) (hframe : OfferFrame s u) (hdrain : DrainFrame s u) :
    SlotOffer s u where
  toOfferFrame := hframe
  frame := hdrain
  lines := by rw [h.lines]; exact ⟨rfl, rfl⟩
  tenants t := ⟨[], by simp, k.tenants t, fun c _ hnot hdraining => absurd (h.carrier c ▸ hdraining) hnot⟩
  others p _ := k.others p
  shut _ _ c _ := h.carrier c

theorem processEntry (s : State) (k : ChannelId) : SlotOffer s (s.processEntry k) := by
  have hframe := OfferFrame.processEntry s k
  have hdrain := processEntry_drainFrame s k
  cases hentry : s.restEntry (s.channel k).pointer with
  | none =>
    rw [processEntry_noEntry hentry] at hframe hdrain ⊢
    exact of_channel (ChannelFrame.entryProcessed _ _ _) (DoneFrame.entryProcessed _ _ _) hframe hdrain
  | some c =>
    cases hanswer : s.drainAnswer c with
    | declined reason =>
      rw [processEntry_declined hentry hanswer] at hframe hdrain ⊢
      exact of_channel (ChannelFrame.entryProcessed _ _ _) (DoneFrame.entryProcessed _ _ _) hframe hdrain
    | limit t =>
      rw [processEntry_limit hentry hanswer] at hframe hdrain ⊢
      exact of_channel (ChannelFrame.setChannel _ _ _) (DoneFrame.of_ports fun _ => rfl) hframe hdrain
    | started =>
      obtain ⟨pv, hpv, -⟩ := hasFreeSlot_of_started hanswer
      have hcarriers : ∀ d, (s.processEntry k).carrier d = if d = c then
          { s.carrier c with
            state := .draining, drainDeadline := some (secondsAfter s.now s.table.drainTime), drainChannel := some k }
          else s.carrier d := fun d => by
        rw [processEntry_started hentry hanswer, (ChannelFrame.entryProcessed _ _ _).carrier, startDrain_carrier]
      have hchannel := ChannelFrame.entryProcessed (s.startDrain c k) k
        { (s.startDrain c k).channel k with outstanding := ((s.startDrain c k).channel k).outstanding + 1 }
      have hdone := DoneFrame.entryProcessed (s.startDrain c k) k
        { (s.startDrain c k).channel k with outstanding := ((s.startDrain c k).channel k).outstanding + 1 }
      rw [← processEntry_started hentry hanswer] at hchannel hdone
      refine ⟨hframe, hdrain, ?_, fun t => ?_, fun p hp => ?_, fun w hw d hd => ?_⟩
      · rw [hchannel.lines, startDrain_eq hpv]
        exact ⟨rfl, rfl⟩
      · by_cases ht : t = pv.owner
        · refine ⟨[.drain c (secondsAfter s.now s.table.drainTime)], by simp [Notice.isDrain], ?_,
            fun d _ hnot hdraining => ?_⟩
          · rw [hdone.tenants, startDrain_port hpv, if_pos (by rw [ht])]
            rfl
          · rw [hcarriers] at hdraining
            split at hdraining
            · next hd => exact ⟨_, by rw [hd]; exact List.mem_singleton_self _⟩
            · exact absurd hdraining hnot
        · refine ⟨[], by simp, ?_, fun d howner hnot hdraining => ?_⟩
          · rw [hdone.tenants, startDrain_port hpv, if_neg (by simpa using ht)]
            rfl
          · rw [hcarriers] at hdraining
            split at hdraining
            · next hd =>
              rw [hd, ownedBy_iff hpv] at howner
              exact absurd howner.symm ht
            · exact absurd hdraining hnot
      · obtain ⟨dones, honly, hport⟩ := hdone.others p
        refine ⟨dones, honly, ?_⟩
        rw [hport, startDrain_port hpv, if_neg]
        rcases hp with rfl | rfl <;> simp
      · rw [hcarriers, if_neg]
        rintro rfl
        have hopen := windowOpen_of_started hanswer hd
        rw [hw] at hopen
        cases hopen

theorem offerSlots (s : State) (t : TenantId) : SlotOffer s (s.offerSlots t) := by
  refine foldl_keeps (SlotOffer s) (fun u k hu => ?_) channelIds (refl s)
  unfold State.offerSlotTo
  split
  · exact hu.trans (processEntry u k)
  · exact hu

theorem offerOwnersSlots (s : State) (c : CarrierId) : SlotOffer s (s.offerOwnersSlots c) := by
  unfold State.offerOwnersSlots
  split
  · exact refl s
  · exact offerSlots s _

end SlotOffer

/-! ## The cancels of a close event (R107, step 2) -/

section Cancels
variable {s : State} {w : WindowId} {c : CarrierId}

/-- What one cancel leaves beside its own carrier. -/
theorem cancelDrain_lines (s : State) (c : CarrierId) (reason : CancelReason) :
    (s.cancelDrain c reason).lines.restHold = s.lines.restHold
      ∧ (s.cancelDrain c reason).lines.holdMode = s.lines.holdMode := by
  have hposted : ((s.setCarrier c ((s.carrier c).cancelled reason)).postOwner c (.drainCancel c reason)).lines
      = s.lines := by
    unfold State.postOwner
    split <;> rfl
  rw [State.cancelDrain]
  cases hk : (s.carrier c).drainChannel with
  | none =>
    rw [State.reportOutcome, hposted]
    exact ⟨rfl, rfl⟩
  | some k =>
    rw [State.reportOutcome, (ChannelFrame.drainOutcome _ _ _).lines, hposted]
    exact ⟨rfl, rfl⟩

theorem cancelDrain_other (s : State) (c : CarrierId) (reason : CancelReason) {p : Port} (hp : p = .plant ∨ p = .fleet) :
    ∃ dones, DonesOnly dones ∧ (s.cancelDrain c reason).port p = dones.foldl PortState.post (s.port p) := by
  obtain ⟨dones, honly, hport⟩ := (DoneFrame.reportOutcome
    ((s.setCarrier c ((s.carrier c).cancelled reason)).postOwner c (.drainCancel c reason))
    (s.carrier c).drainChannel .declined).others p
  rw [postOwner_other _ _ _ hp, setCarrier_port] at hport
  exact ⟨dones, honly, hport⟩

/-- The record after the first steps of the close event of its window. -/
def Carrier.closeCancelled (r : Carrier) : Carrier := if r.state = .draining then r.cancelled .windowClosed else r

theorem closeCancelled_closeCancelled (r : Carrier) : r.closeCancelled.closeCancelled = r.closeCancelled := by
  unfold Carrier.closeCancelled
  split
  · simp [Carrier.cancelled]
  · rfl

/-- What the cancels leave and post, once the window is CLOSED. -/
structure CloseCancels (w : WindowId) (l : List CarrierId) (s u : State) : Prop where
  frame : DrainFrame s u
  lines : u.lines.restHold = s.lines.restHold ∧ u.lines.holdMode = s.lines.holdMode
  others : ∀ p, p = .plant ∨ p = .fleet → ∃ dones, DonesOnly dones ∧ u.port p = dones.foldl PortState.post (s.port p)
  provision : ∀ c, (u.carrier c).provision = (s.carrier c).provision
  bound : ∀ c, (s.carrier c).boundTo w = true →
    u.carrier c = if c ∈ l then (s.carrier c).closeCancelled else s.carrier c

theorem boundTo_congr {r r' : Carrier} (h : r'.provision = r.provision) (w : WindowId) : r'.boundTo w = r.boundTo w := by
  rw [Carrier.boundTo, h, Carrier.boundTo]

theorem closeCancels_cancels (hw : (s.window w).state = .closed) (c : CarrierId) :
    CloseCancels w [c] s (s.closeCancels w c) := by
  unfold State.closeCancels
  split
  case isFalse hnot =>
    refine ⟨DrainFrame.refl s, ⟨rfl, rfl⟩, fun p _ => ⟨[], by simp [DonesOnly], rfl⟩, fun _ => rfl, fun d hd => ?_⟩
    split
    · next hdc =>
      obtain rfl := List.mem_singleton.mp hdc
      rw [Carrier.closeCancelled, if_neg fun hdraining => hnot ⟨hdraining, hd⟩]
    · rfl
  case isTrue hcancels =>
    have hoffer := SlotOffer.offerOwnersSlots (s.cancelDrain c .windowClosed) c
    have hframe := cancelDrain_drainFrame s c .windowClosed
    obtain ⟨hhold, hmode⟩ := cancelDrain_lines s c .windowClosed
    have hprovision : ∀ d, ((s.cancelDrain c .windowClosed).carrier d).provision = (s.carrier d).provision := fun d => by
      rw [cancelDrain_carrier]
      split
      · next hd => rw [hd]; rfl
      · rfl
    refine ⟨hframe.trans hoffer.frame, ⟨hoffer.lines.1.trans hhold, hoffer.lines.2.trans hmode⟩, fun p hp => ?_,
      fun d => (keptOrDrained_provision (hoffer.carriers d)).trans (hprovision d), fun d hd => ?_⟩
    · obtain ⟨xs, hxs, hport⟩ := cancelDrain_other s c .windowClosed hp
      obtain ⟨ys, hys, hport'⟩ := hoffer.others p hp
      exact ⟨xs ++ ys, hxs.append hys, by rw [List.foldl_append, ← hport]; exact hport'⟩
    · have hclosed : ((s.cancelDrain c .windowClosed).window w).state = .closed := by
        obtain ⟨-, -, -, -, -, -, htimer, -⟩ := hframe
        rwa [State.window, htimer]
      rw [State.cancelAndOffer, hoffer.shut w hclosed d (by rwa [boundTo_congr (hprovision d)]), cancelDrain_carrier]
      by_cases hdc : d = c
      · simp [hdc, Carrier.closeCancelled, hcancels.1]
      · simp [hdc]

theorem foldl_closeCancels (l : List CarrierId) {s : State} (hw : (s.window w).state = .closed) :
    CloseCancels w l s (l.foldl (fun u c => u.closeCancels w c) s) := by
  induction l generalizing s with
  | nil => exact ⟨DrainFrame.refl s, ⟨rfl, rfl⟩, fun p _ => ⟨[], by simp [DonesOnly], rfl⟩, fun _ => rfl, fun _ _ => rfl⟩
  | cons c l ih =>
    have hstep := closeCancels_cancels hw c
    have hclosed : ((s.closeCancels w c).window w).state = .closed := by
      obtain ⟨-, -, -, -, -, -, htimer, -⟩ := hstep.frame
      rwa [State.window, htimer]
    have h := ih hclosed
    refine ⟨hstep.frame.trans h.frame, ⟨h.lines.1.trans hstep.lines.1, h.lines.2.trans hstep.lines.2⟩, fun p hp => ?_,
      fun d => (h.provision d).trans (hstep.provision d), fun d hd => ?_⟩
    · obtain ⟨xs, hxs, hport⟩ := hstep.others p hp
      obtain ⟨ys, hys, hport'⟩ := h.others p hp
      exact ⟨xs ++ ys, hxs.append hys, by rw [List.foldl_append, ← hport]; exact hport'⟩
    · have hbound := (boundTo_congr (hstep.provision d) w).trans hd
      rw [List.foldl_cons, h.bound d hbound, hstep.bound d hd]
      by_cases hdc : d = c
      · simp [hdc, closeCancelled_closeCancelled]
      · simp [hdc]

end Cancels

/-! ## The wakes of a close event (R107, step 3) -/

/-- The carrier is RESTING and bound to the window. -/
def Carrier.closeWakes (r : Carrier) (w : WindowId) : Bool := r.state == .resting && r.boundTo w

/-- The report of the wake (R19, R86). -/
def Carrier.closeReport (r : Carrier) : Option MemberReport :=
  r.provision.map (fun pv => .waking pv.branch (max 1 r.pendingWake))

/-- Reports that agree at each member of a list are the same list. -/
theorem filterMap_congr_mem {α β : Type} {f g : α → Option β} {l : List α} (h : ∀ a ∈ l, f a = g a) :
    l.filterMap f = l.filterMap g := by
  induction l with
  | nil => rfl
  | cons a l ih =>
    rw [List.filterMap_cons, List.filterMap_cons, h a List.mem_cons_self,
      ih fun x hx => h x (List.mem_cons_of_mem a hx)]

section Wakes
variable {round : WakeRound} {w : WindowId} {c : CarrierId} {l : List CarrierId}

/-- What the wakes of a list make of a round. -/
structure CloseWakes (w : WindowId) (l : List CarrierId) (round round' : WakeRound) : Prop where
  state : round'.state =
    { round.state with table := { round.state.table with carriers := round'.state.table.carriers } }
  carrier : ∀ d, round'.state.carrier d = if d ∈ l ∧ (round.state.carrier d).closeWakes w = true then
      (round.state.carrier d).woken (max 1 (round.state.carrier d).pendingWake)
    else round.state.carrier d
  freed : round'.freed = round.freed
  reports : round'.reports = round.reports ++ (l.filter (fun c => (round.state.carrier c).closeWakes w)).filterMap
    (fun c => (round.state.carrier c).closeReport)

/-- A wake of a RESTING carrier with no quiet level. -/
theorem deliver_unquiet {level : Nat} (hlevel : 1 ≤ level) (hresting : (round.state.carrier c).state = .resting)
    (hquiet : round.state.quietLevel c = 0) :
    (round.deliver c level).state = round.state.setCarrier c ((round.state.carrier c).woken level)
      ∧ (round.deliver c level).freed = round.freed
      ∧ (round.deliver c level).reports = round.reports
          ++ ((round.state.carrier c).provision.map (fun pv => MemberReport.waking pv.branch level)).toList := by
  have hwake := wakeCarrier_eq (s := round.state) (c := c) hlevel (by simp [hresting])
  have hhonours : level = 7 ∨ 0 < level := .inr hlevel
  simp only [wakeTable, hresting, hquiet, if_pos hhonours] at hwake
  refine ⟨congrArg WakeEffect.state hwake, ?_, ?_⟩
  · exact (congrArg (fun e : WakeEffect => round.freed ++ e.freed.toList) hwake).trans (List.append_nil _)
  · exact congrArg (fun e : WakeEffect => round.reports ++ e.report.toList) hwake

/-- A second wake, no higher, of a carrier just woken. -/
theorem deliver_again {level wake : Nat} (hlevel : 1 ≤ level) (hle : level ≤ wake)
    (hwaking : (round.state.carrier c).state = .waking) (hwake : (round.state.carrier c).wakeLevel = some wake) :
    (round.deliver c level).state = round.state ∧ (round.deliver c level).freed = round.freed
      ∧ (round.deliver c level).reports = round.reports := by
  have hself : round.state.setCarrier c (round.state.carrier c) = round.state := by
    simp [State.setCarrier, State.carrier]
  have heffect := wakeCarrier_eq (s := round.state) (c := c) hlevel (by simp [hwaking])
  have halready : ∃ w ∈ (round.state.carrier c).wakeLevel, level ≤ w := ⟨wake, hwake, hle⟩
  simp only [wakeTable, hwaking, if_pos halready, hself] at heffect
  refine ⟨congrArg WakeEffect.state heffect, ?_, ?_⟩
  · exact (congrArg (fun e : WakeEffect => round.freed ++ e.freed.toList) heffect).trans (List.append_nil _)
  · exact (congrArg (fun e : WakeEffect => round.reports ++ e.report.toList) heffect).trans (List.append_nil _)

theorem deliverClose_passed (h : (round.state.carrier c).closeWakes w = false) : round.deliverClose w c = round :=
  if_neg fun hboth => by simp [Carrier.closeWakes, hboth] at h

theorem quietLevel_closed {s : State} (hw : (s.window w).state = .closed) (hbound : (s.carrier c).boundTo w = true) :
    s.quietLevel c = 0 := by
  cases hpv : (s.carrier c).provision with
  | none => simp [Carrier.boundTo, hpv] at hbound
  | some pv =>
    have hwindow : pv.window = some w := by simpa [Carrier.boundTo, hpv] using hbound
    simp [State.quietLevel, hpv, hwindow, State.windowOpen, hw]

/-- The pending wake, and then level 1, make one wake of the higher of the two. -/
theorem deliverClose_wakes (hw : (round.state.window w).state = .closed)
    (h : (round.state.carrier c).closeWakes w = true) :
    (round.deliverClose w c).state = round.state.setCarrier c
        ((round.state.carrier c).woken (max 1 (round.state.carrier c).pendingWake))
      ∧ (round.deliverClose w c).freed = round.freed
      ∧ (round.deliverClose w c).reports = round.reports ++ (round.state.carrier c).closeReport.toList := by
  obtain ⟨hresting, hbound⟩ : (round.state.carrier c).state = .resting ∧ (round.state.carrier c).boundTo w = true := by
    simpa [Carrier.closeWakes] using h
  have hquiet := quietLevel_closed hw hbound
  by_cases hpending : (round.state.carrier c).pendingWake = 0
  · have heq : round.deliverClose w c = round.deliver c 1 :=
      (if_pos ⟨hresting, hbound⟩).trans (congrArg (fun v : WakeRound => v.deliver c 1) (if_pos hpending))
    rw [heq, Carrier.closeReport, hpending]
    exact deliver_unquiet (Nat.le_refl 1) hresting hquiet
  · have heq : round.deliverClose w c = (round.deliver c (round.state.carrier c).pendingWake).deliver c 1 :=
      (if_pos ⟨hresting, hbound⟩).trans (congrArg (fun v : WakeRound => v.deliver c 1) (if_neg hpending))
    have hlevel : 1 ≤ (round.state.carrier c).pendingWake := Nat.one_le_iff_ne_zero.mpr hpending
    obtain ⟨hstate, hfreed, hreports⟩ := deliver_unquiet hlevel hresting hquiet
    have hself : (round.deliver c (round.state.carrier c).pendingWake).state.carrier c
        = (round.state.carrier c).woken (round.state.carrier c).pendingWake := by
      rw [hstate, carrier_setCarrier, if_pos rfl]
    obtain ⟨hstate', hfreed', hreports'⟩ := deliver_again (level := 1) (Nat.le_refl 1) hlevel (by rw [hself]; rfl)
      (by rw [hself]; rfl)
    rw [heq, Carrier.closeReport, Nat.max_eq_right hlevel]
    exact ⟨hstate'.trans hstate, hfreed'.trans hfreed, hreports'.trans hreports⟩

/-- The wakes of a list without repetitions. -/
theorem foldl_deliverClose (hl : l.Nodup) (hw : (round.state.window w).state = .closed) :
    CloseWakes w l round (l.foldl (fun v c => v.deliverClose w c) round) := by
  induction l generalizing round with
  | nil => exact ⟨rfl, fun d => by simp, rfl, by simp⟩
  | cons c l ih =>
    obtain ⟨hc, hl⟩ := List.nodup_cons.mp hl
    rw [List.foldl_cons]
    cases hwakes : (round.state.carrier c).closeWakes w with
    | false =>
      rw [deliverClose_passed hwakes]
      have h := ih hl hw
      refine ⟨h.state, fun d => ?_, h.freed, ?_⟩
      · rw [h.carrier]
        by_cases hd : d = c
        · simp [hd, hwakes]
        · simp [hd]
      · rw [h.reports, List.filter_cons, hwakes]
        rfl
    | true =>
      obtain ⟨hstate, hfreed, hreports⟩ := deliverClose_wakes hw hwakes
      have h := ih hl (round := round.deliverClose w c) (by rw [hstate]; exact hw)
      generalize round.deliverClose w c = v at hstate hfreed hreports h
      have hother : ∀ d, d ≠ c → v.state.carrier d = round.state.carrier d := fun d hd => by
        rw [hstate, carrier_setCarrier, if_neg hd]
      refine ⟨?_, fun d => ?_, h.freed.trans hfreed, ?_⟩
      · rw [h.state, hstate]
        rfl
      · rw [h.carrier]
        by_cases hd : d = c
        · subst hd
          rw [if_neg (fun hboth => hc hboth.1), if_pos ⟨List.mem_cons_self .., hwakes⟩, hstate, carrier_setCarrier,
            if_pos rfl]
        · rw [hother d hd]
          simp [hd]
      · have hrest : l.filter (fun d => (v.state.carrier d).closeWakes w)
            = l.filter (fun d => (round.state.carrier d).closeWakes w) :=
          List.filter_congr fun d hd => by rw [hother d fun hdc => hc (hdc ▸ hd)]
        have hsame : (l.filter (fun d => (round.state.carrier d).closeWakes w)).filterMap
            (fun d => (v.state.carrier d).closeReport) = (l.filter (fun d => (round.state.carrier d).closeWakes w)).filterMap
            (fun d => (round.state.carrier d).closeReport) :=
          filterMap_congr_mem fun d hd => by rw [hother d fun hdc => hc (hdc ▸ (List.mem_filter.mp hd).1)]
        rw [h.reports, hrest, hsame, hreports, List.filter_cons, hwakes, List.append_assoc]
        cases hreport : (round.state.carrier c).closeReport <;> simp [hreport]

end Wakes

/-! ## A SETTLING branch through the reports (R61) -/

/-- Reports of waking members alone. -/
def WakingOnly (reports : List MemberReport) : Prop := ∀ report ∈ reports, ∃ b level, report = .waking b level

section Settling
variable {s : State} {b : BranchId} {reports : List MemberReport}

/-- A POWERED branch stays so through reports of waking members. -/
theorem reports_powered (hreports : WakingOnly reports) (h : (s.branch b).state = .powered) :
    LeavesBranch b s (reports.foldl (fun u report => u.memberReport report) s) := by
  refine LeavesBranch.foldl (R := s.branch b) (fun u hu report hreport => ?_) rfl
  obtain ⟨b', level, rfl⟩ := hreports report hreport
  by_cases hb : b' = b
  · subst hb
    rw [State.memberReport, memberWaking_powered (by rw [hu, h])]
    exact LeavesBranch.reportPowered u b'
  · exact LeavesBranch.memberWaking hb u level

/-- A SETTLING branch is POWERED again by a report of one of its members, and by no other branch's. -/
theorem reports_settling (hreports : WakingOnly reports) (h : (s.branch b).state = .settling)
    (hwaits : ¬ s.arb.Queues b) :
    ((∃ level, .waking b level ∈ reports) →
        (reports.foldl (fun u report => u.memberReport report) s).branch b = (s.branch b).enter .powered)
      ∧ ((¬ ∃ level, .waking b level ∈ reports) →
        (reports.foldl (fun u report => u.memberReport report) s).branch b = s.branch b) := by
  induction reports generalizing s with
  | nil => exact ⟨fun ⟨level, hmem⟩ => absurd hmem List.not_mem_nil, fun _ => rfl⟩
  | cons report reports ih =>
    obtain ⟨b', level, rfl⟩ := hreports report (List.mem_cons_self ..)
    have hrest : WakingOnly reports := fun r hr => hreports r (List.mem_cons_of_mem _ hr)
    rw [List.foldl_cons]
    by_cases hb : b' = b
    · subst hb
      have heq : s.memberReport (.waking b' level) = (s.enterBranch b' .powered).reportPowered b' :=
        memberWaking_settling h
      have hbranch : ((s.enterBranch b' .powered).reportPowered b').branch b' = (s.branch b').enter .powered := by
        rw [reportPowered_branch, State.enterBranch, branch_setBranch, if_pos rfl]
      have hnot : ¬ ((s.enterBranch b' .powered).reportPowered b').arb.Queues b' := by
        obtain ⟨-, -, harb, -⟩ := foldl_unmuteMember ((s.enterBranch b' .powered).branch b').members
          (s.enterBranch b' .powered)
        rw [State.reportPowered, harb]
        exact hwaits
      have hkept := (reports_powered hrest (by rw [hbranch]; rfl) hnot).1
      rw [heq]
      exact ⟨fun _ => hkept.trans hbranch, fun hnone => absurd ⟨level, List.mem_cons_self ..⟩ hnone⟩
    · obtain ⟨hbranch, harb⟩ := LeavesBranch.memberWaking hb s level hwaits
      obtain ⟨hsome, hnone⟩ := ih hrest (s := s.memberWaking b' level) (by rw [hbranch, h]) (hwaits ∘ harb.queue)
      have hmem : (∃ l, MemberReport.waking b l ∈ MemberReport.waking b' level :: reports)
          ↔ ∃ l, .waking b l ∈ reports :=
        exists_congr fun l => by simp [Ne.symm hb]
      rw [hmem, ← hbranch]
      exact ⟨hsome, hnone⟩

end Settling

/-! ## The close event (R107) -/

section Close
variable {s : State} {w : WindowId}

/-- The state after the cancels of the close event. -/
def State.closed (s : State) (w : WindowId) : State :=
  carrierIds.foldl (fun u c => u.closeCancels w c) (s.closeWindow w)

/-- The round of the close event's wakes. -/
def State.closeRound (s : State) (w : WindowId) : WakeRound :=
  carrierIds.foldl (fun round c => round.deliverClose w c) (WakeRound.start (s.closed w))

theorem closeEvent_eq (s : State) (w : WindowId) :
    s.closeEvent w = ((s.closeRound w).finish.endLatchedHold).closeSwap w := rfl

theorem mem_carrierIds (c : CarrierId) : c ∈ carrierIds := List.mem_finRange c

@[simp] theorem start_state (s : State) : (WakeRound.start s).state = s := rfl

@[simp] theorem start_reports (s : State) : (WakeRound.start s).reports = [] := rfl

@[simp] theorem start_freed (s : State) : (WakeRound.start s).freed = [] := rfl

theorem closeWindow_closed (s : State) (w : WindowId) : ((s.closeWindow w).window w).state = .closed := by
  simp [State.closeWindow]

theorem closed_cancels (s : State) (w : WindowId) : CloseCancels w carrierIds (s.closeWindow w) (s.closed w) := by
  rw [State.closed]
  exact foldl_closeCancels carrierIds (closeWindow_closed s w)

theorem closeRound_wakes (s : State) (w : WindowId) :
    CloseWakes w carrierIds (WakeRound.start (s.closed w)) (s.closeRound w) := by
  rw [State.closeRound]
  refine foldl_deliverClose carrierIds_nodup ?_
  obtain ⟨-, -, -, -, -, -, htimer, -⟩ := (closed_cancels s w).frame
  rw [start_state, State.window, htimer]
  exact closeWindow_closed s w

theorem closed_carrier {c : CarrierId} (hc : (s.carrier c).boundTo w = true) :
    (s.closed w).carrier c = (s.carrier c).closeCancelled := by
  rw [(closed_cancels s w).bound c hc, if_pos (mem_carrierIds c)]
  rfl

/-- The record of a carrier bound to the window, before the reports. -/
theorem closeRound_carrier {c : CarrierId} (hc : (s.carrier c).boundTo w = true) :
    (s.closeRound w).state.carrier c = if (s.carrier c).state = .resting then
        (s.carrier c).woken (max 1 (s.carrier c).pendingWake)
      else (s.carrier c).closeCancelled := by
  have hcarrier := (closeRound_wakes s w).carrier c
  rw [hcarrier, start_state, closed_carrier hc]
  cases hstate : (s.carrier c).state <;>
    simp [Carrier.closeWakes, Carrier.closeCancelled, Carrier.cancelled, hstate, hc, mem_carrierIds]

/-- The reports of the round: one for each RESTING carrier bound to the window. -/
theorem closeRound_reports (s : State) (w : WindowId) (report : MemberReport) :
    report ∈ (s.closeRound w).reports ↔
      ∃ c, (s.carrier c).boundTo w = true ∧ (s.carrier c).state = .resting ∧ report ∈ (s.carrier c).closeReport := by
  have hreports : (s.closeRound w).reports = (carrierIds.filter (fun c => ((s.closed w).carrier c).closeWakes w)).filterMap
      (fun c => ((s.closed w).carrier c).closeReport) := by
    simpa using (closeRound_wakes s w).reports
  have hbound : ∀ c, ((s.closed w).carrier c).boundTo w = (s.carrier c).boundTo w := fun c =>
    boundTo_congr ((closed_cancels s w).provision c) w
  have hrests : ∀ c, ((s.closed w).carrier c).closeWakes w = true ↔
      (s.carrier c).boundTo w = true ∧ (s.carrier c).state = .resting := fun c => by
    rw [Carrier.closeWakes, Bool.and_eq_true, beq_iff_eq, hbound]
    constructor
    · rintro ⟨hresting, hc⟩
      rw [closed_carrier hc] at hresting
      refine ⟨hc, ?_⟩
      unfold Carrier.closeCancelled at hresting
      split at hresting
      · cases hresting
      · exact hresting
    · rintro ⟨hc, hresting⟩
      rw [closed_carrier hc, Carrier.closeCancelled, if_neg (by simp [hresting])]
      exact ⟨hresting, hc⟩
  have hsame : ∀ c, (s.carrier c).boundTo w = true → (s.carrier c).state = .resting →
      (s.closed w).carrier c = s.carrier c := fun c hc hresting => by
    rw [closed_carrier hc, Carrier.closeCancelled, if_neg (by simp [hresting])]
  rw [hreports]
  simp only [List.mem_filterMap, List.mem_filter, hrests]
  constructor
  · rintro ⟨c, ⟨-, hc, hresting⟩, hreport⟩
    exact ⟨c, hc, hresting, by rwa [hsame c hc hresting] at hreport⟩
  · rintro ⟨c, hc, hresting, hreport⟩
    exact ⟨c, ⟨mem_carrierIds c, hc, hresting⟩, by rwa [hsame c hc hresting]⟩

theorem closeReport_waking {r : Carrier} {report : MemberReport} (h : report ∈ r.closeReport) :
    ∃ b level, report = .waking b level := by
  obtain ⟨pv, -, rfl⟩ := Option.map_eq_some_iff.mp h
  exact ⟨_, _, rfl⟩

theorem closeRound_wakingOnly (s : State) (w : WindowId) : WakingOnly (s.closeRound w).reports := fun report hreport => by
  obtain ⟨c, -, -, hmem⟩ := (closeRound_reports s w report).mp hreport
  exact closeReport_waking hmem

/-- A branch is reported where a RESTING carrier on it is bound to the window. -/
theorem closeRound_reports_branch (s : State) (w : WindowId) (b : BranchId) :
    (∃ level, .waking b level ∈ (s.closeRound w).reports) ↔ ∃ c, (s.carrier c).boundTo w = true
      ∧ (s.carrier c).state = .resting ∧ (s.carrier c).onBranch b = true := by
  simp only [closeRound_reports]
  constructor
  · rintro ⟨level, c, hc, hresting, hreport⟩
    obtain ⟨pv, hpv, hsame⟩ := Option.map_eq_some_iff.mp hreport
    refine ⟨c, hc, hresting, ?_⟩
    injection hsame with hbranch
    simp [Carrier.onBranch, hpv, hbranch]
  · rintro ⟨c, hc, hresting, hon⟩
    cases hpv : (s.carrier c).provision with
    | none => simp [Carrier.onBranch, hpv] at hon
    | some pv =>
      have hb : pv.branch = b := by simpa [Carrier.onBranch, hpv] using hon
      exact ⟨max 1 (s.carrier c).pendingWake, c, hc, hresting, by simp [Carrier.closeReport, hpv, hb]⟩

theorem closeRound_finish (s : State) (w : WindowId) : (s.closeRound w).finish =
    (s.closeRound w).reports.foldl (fun u report => u.memberReport report) (s.closeRound w).state := by
  have hfreed : (s.closeRound w).freed = [] := by rw [(closeRound_wakes s w).freed, start_freed]
  rw [WakeRound.finish, hfreed]
  rfl

theorem closeSwap_aside (s : State) (w : WindowId) : (s.closeSwap w).table = s.table ∧ (s.closeSwap w).ctrl = s.ctrl
    ∧ (s.closeSwap w).lines = s.lines ∧ (s.closeSwap w).ports = s.ports := by
  unfold State.closeSwap
  dsimp only
  split <;> exact ⟨rfl, rfl, rfl, rfl⟩

theorem endLatchedHold_eq (s : State) : s.endLatchedHold =
    if s.lines.holdMode = .latch ∧ s.lines.restHold = true then s.endRestHold else s := rfl

theorem endLatchedHold_unmutes (s : State) : UnmuteFrame s s.endLatchedHold := by
  rw [endLatchedHold_eq]
  split
  · exact UnmuteFrame.endRestHold s
  · exact UnmuteFrame.refl s

theorem endLatchedHold_restHold (s : State) :
    s.endLatchedHold.lines.restHold = (s.lines.restHold && decide (s.lines.holdMode ≠ .latch)) := by
  rw [endLatchedHold_eq]
  split
  · next h => rw [endRestHold_lines]; simp [h.1]
  · next h =>
    cases hhold : s.lines.restHold
    · rfl
    · simp only [hhold, and_true] at h
      simp [h]

end Close

/-! ## The open and the close event, from end to end (R105, R107) -/

section Events
variable {s : State} {w : WindowId}

theorem causeOccurs_carrier (s : State) (k : SlotId) (c : CarrierId) : (s.causeOccurs k).carrier c = s.carrier c := by
  rw [causeOccurs_eq]
  repeat' split
  · rfl
  · rw [(ChannelFrame.deliverStart _ _ _).carrier]
    rfl
  · rfl
  · rfl

theorem openEvent_eq (s : State) (w : WindowId) : s.openEvent w =
    ((s.setWindow w { s.window w with state := .isOpen }).causeOccurs (windowSlot w)).post .fleet
      (.windowOpened w s.now (s.window w).active.quiet) := by
  simp only [State.openEvent, window_setWindow, if_true, setWindow_now]

theorem carrier_congr {s u : State} (h : u.table = s.table) (c : CarrierId) : u.carrier c = s.carrier c := by
  rw [State.carrier, h, State.carrier]

/-- The end of a round that freed no slot: its reports. -/
theorem finish_unmutes {round : WakeRound} (h : round.freed = []) :
    UnmuteFrame round.state round.finish ∧ BranchFrame round.state round.finish := by
  rw [WakeRound.finish, h]
  exact ⟨UnmuteFrame.reports _ _, BranchFrame.foldl _ memberReport_branchFrame _ (BranchFrame.refl _)⟩

theorem closeRound_freed (s : State) (w : WindowId) : (s.closeRound w).freed = [] := by
  rw [(closeRound_wakes s w).freed, start_freed]

/-- After the reports the event touches no carrier but by an unmute. -/
theorem closeEvent_carrier (s : State) (w : WindowId) (c : CarrierId) :
    UnmutedAtMost ((s.closeRound w).state.carrier c) ((s.closeEvent w).carrier c) := by
  have hunmutes := (finish_unmutes (closeRound_freed s w)).1.trans (endLatchedHold_unmutes _)
  obtain ⟨htable, -⟩ := closeSwap_aside (s.closeRound w).finish.endLatchedHold w
  rw [closeEvent_eq, carrier_congr htable]
  exact hunmutes.atMost c

theorem branch_congr {s u : State} (h : u.ctrl = s.ctrl) (b : BranchId) : u.branch b = s.branch b := by
  rw [State.branch, h, State.branch]

theorem port_congr {s u : State} (h : u.ports = s.ports) (p : Port) : u.port p = s.port p := by
  rw [State.port, h, State.port]

theorem closeEvent_fleet (s : State) (w : WindowId) : ∃ dones, DonesOnly dones ∧ (s.closeEvent w).port .fleet =
    dones.foldl PortState.post ((s.port .fleet).post (.windowClosed w s.now (s.window w).swapPending)) := by
  obtain ⟨-, -, -, hports⟩ := closeSwap_aside (s.closeRound w).finish.endLatchedHold w
  have hunmutes := (finish_unmutes (closeRound_freed s w)).1.trans (endLatchedHold_unmutes _)
  have hround : (s.closeRound w).state.ports = (s.closed w).ports := by
    rw [(closeRound_wakes s w).state, start_state]
  obtain ⟨dones, honly, hport⟩ := (closed_cancels s w).others .fleet (.inr rfl)
  refine ⟨dones, honly, ?_⟩
  rw [closeEvent_eq, port_congr hports, hunmutes.others _ (.inr rfl), port_congr hround, hport, State.closeWindow]
  simp

/-- What the reports find and leave of the Branch Controller and the hold. -/
theorem closeRound_frame (s : State) (w : WindowId) : (s.closeRound w).state.ctrl = s.ctrl
    ∧ (s.closeRound w).state.arb = s.arb ∧ (s.closeRound w).finish.now = s.now
    ∧ (s.closeRound w).finish.ctrl.rampDown = s.ctrl.rampDown
    ∧ (s.closeRound w).finish.lines.restHold = s.lines.restHold
    ∧ (s.closeRound w).finish.lines.holdMode = s.lines.holdMode := by
  obtain ⟨hctrl, harb, -, -, -, -, htimer, -⟩ := (closed_cancels s w).frame
  obtain ⟨hhold, hmode⟩ := (closed_cancels s w).lines
  have hstate := (closeRound_wakes s w).state
  rw [start_state] at hstate
  have hctrl' : (s.closeRound w).state.ctrl = (s.closed w).ctrl := by rw [hstate]
  have harb' : (s.closeRound w).state.arb = (s.closed w).arb := by rw [hstate]
  have hlines : (s.closeRound w).state.lines = (s.closed w).lines := by rw [hstate]
  have htimer' : (s.closeRound w).state.timer = (s.closed w).timer := by rw [hstate]
  obtain ⟨hreports, hkept⟩ := finish_unmutes (closeRound_freed s w)
  obtain ⟨-, hlinesKept, -, -, -, -, htimerKept, -⟩ := hkept
  refine ⟨hctrl'.trans hctrl, harb'.trans harb, ?_, ?_, ?_, ?_⟩
  · rw [State.now, htimerKept, htimer', htimer]
    rfl
  · rw [hreports.rampDown, hctrl', hctrl]
    rfl
  · rw [hlinesKept, hlines]
    exact hhold
  · rw [hlinesKept, hlines]
    exact hmode

theorem closeEvent_restHold (s : State) (w : WindowId) :
    (s.closeEvent w).lines.restHold = (s.lines.restHold && decide (s.lines.holdMode ≠ .latch)) := by
  obtain ⟨-, -, hlines, -⟩ := closeSwap_aside (s.closeRound w).finish.endLatchedHold w
  obtain ⟨-, -, -, -, hhold, hmode⟩ := closeRound_frame s w
  rw [closeEvent_eq, hlines, endLatchedHold_restHold, hhold, hmode]

/-- A branch after the reports, and then after the end of a latched hold. -/
theorem closeEvent_branch (s : State) (w : WindowId) (b : BranchId) : (s.closeEvent w).branch b =
    if s.lines.holdMode = .latch ∧ s.lines.restHold = true then
      ((s.closeRound w).finish.branch b).released (secondsAfter s.now s.ctrl.rampDown)
    else (s.closeRound w).finish.branch b := by
  obtain ⟨-, hctrl, -⟩ := closeSwap_aside (s.closeRound w).finish.endLatchedHold w
  obtain ⟨-, -, hnow, hrampDown, hhold, hmode⟩ := closeRound_frame s w
  rw [closeEvent_eq, branch_congr hctrl, endLatchedHold_eq, hhold, hmode]
  split
  · rw [endRestHold_branch, hnow, hrampDown]
  · rfl

end Events

/-- Settles O37, step by step of the close event. -/
theorem windowEventsActOnTheirWindow : Obligations.WindowEventsActOnTheirWindow := by
  refine ⟨fun w s => ⟨openEvent_eq s w, fun c => ?_⟩, fun w s => ⟨closeEvent_window s w, (closeEvent_windowEvent s w).others,
    closeEvent_restHold s w, closeEvent_fleet s w, fun c hc => ?_, fun b hsettling hwaits => ?_⟩⟩
  · rw [openEvent_eq, post_carrier, causeOccurs_carrier]
    rfl
  · have hkept := closeEvent_carrier s w c
    rw [closeRound_carrier hc, Carrier.closeCancelled] at hkept
    generalize (s.closeEvent w).carrier c = r at hkept ⊢
    obtain ⟨hkept, -⟩ := hkept
    refine ⟨fun hdraining => ?_, fun hresting => ?_, fun hnotDraining hnotResting => ?_⟩
    · rw [if_neg (by simp [hdraining]), if_pos hdraining] at hkept
      rw [hkept.eq_of_not_waking nofun, cancelled_eq]
      simp
    · rw [if_pos hresting] at hkept
      exact ⟨hkept.state, hkept.wakeLevel, hkept.pendingWake⟩
    · rwa [if_neg hnotResting, if_neg hnotDraining] at hkept
  · intro woken
    obtain ⟨hctrl, harb, -⟩ := closeRound_frame s w
    have hbranch : (s.closeRound w).state.branch b = s.branch b := by rw [State.branch, hctrl, State.branch]
    obtain ⟨hsome, hnone⟩ := reports_settling (closeRound_wakingOnly s w) (by rw [hbranch, hsettling])
      (b := b) (s := (s.closeRound w).state) (by rw [harb]; exact hwaits)
    rw [closeRound_reports_branch, ← closeRound_finish, hbranch] at hsome hnone
    rw [closeEvent_branch]
    refine ⟨fun hwoken => ?_, fun hnot hmode hhold hexpired => ?_, fun hnot hrest => ?_⟩
    · rw [hsome hwoken]
      simp [Branch.released, Branch.enter]
    · rw [hnone hnot, if_pos ⟨hmode, hhold⟩, Branch.released, if_pos ⟨hsettling, hexpired⟩]
      rfl
    · rw [hnone hnot]
      split
      · next hlatched =>
        rw [Branch.released, if_neg]
        rintro ⟨-, hexpired⟩
        simp [hlatched.1, hlatched.2, hexpired] at hrest
      · rfl

end Sys2Proof.Machine

/-!
SUPPORT. Loss of power at a branch and its members (R24, R68), and the edges of BGD (R51, R63, R66): O45.
-/
namespace Sys2Proof.Machine
open Sys2Proof

/-! ## Loss of power at the members (R24) -/

/-- A carrier that drains of freed slots may have reached, whatever their deadlines and channels. -/
def DrainedAtMost (r r' : Carrier) : Prop :=
  r' = r ∨ (r.state = .on ∧ ∃ deadline k,
    r' = { r with state := .draining, drainDeadline := deadline, drainChannel := k })

theorem KeptOrDrained.atMost {s : State} {now : Nat} {r r' : Carrier} (h : KeptOrDrained s now r r') :
    DrainedAtMost r r' := by
  rcases h with h | ⟨hon, -, -, k, h⟩
  · exact .inl h
  · exact .inr ⟨hon, _, _, h⟩

section Record
variable {r r' r'' : Carrier}

theorem DrainedAtMost.eq_of_ne_on (h : DrainedAtMost r r') (hr : r.state ≠ .on) : r' = r :=
  h.resolve_right fun hon => hr hon.1

theorem DrainedAtMost.trans (h : DrainedAtMost r r') (k : DrainedAtMost r' r'') : DrainedAtMost r r'' := by
  rcases h with rfl | ⟨hon, deadline, channel, rfl⟩
  · exact k
  · exact .inr ⟨hon, deadline, channel, k.eq_of_ne_on nofun⟩

theorem DrainedAtMost.provision (h : DrainedAtMost r r') : r'.provision = r.provision := by
  rcases h with rfl | ⟨-, deadline, channel, rfl⟩ <;> rfl

/-- The record of a member after loss of power (R24). -/
def Carrier.unpowered (r : Carrier) : Carrier :=
  match r.state with
  | .on => r.lostPower
  | .draining => r.lostPower
  | .waking => { r with unmuteSent := false, liveDeadline := none }
  | _ => r

theorem unpowered_unpowered (r : Carrier) : r.unpowered.unpowered = r.unpowered := by
  cases h : r.state <;> simp [Carrier.unpowered, h, Carrier.lostPower]

theorem unpowered_state_ne_on (r : Carrier) : r.unpowered.state ≠ .on := by
  cases h : r.state <;> simp [Carrier.unpowered, h, Carrier.lostPower]

theorem unpowered_provision (r : Carrier) : r.unpowered.provision = r.provision := by
  unfold Carrier.unpowered
  split <;> rfl

/-- Power takes the same from a carrier that a freed slot has drained meanwhile. -/
theorem DrainedAtMost.unpowered (h : DrainedAtMost r r') : r'.unpowered = r.unpowered := by
  rcases h with rfl | ⟨hon, deadline, channel, rfl⟩
  · rfl
  · simp [Carrier.unpowered, hon, Carrier.lostPower]

theorem ownedBy_congr (h : r'.provision = r.provision) (t : TenantId) : r'.ownedBy t = r.ownedBy t := by
  rw [Carrier.ownedBy, h, Carrier.ownedBy]

end Record

/-- The notices that loss of power at members of a tenant sends it: DRAIN_CANCEL for each drain that ends, among the
DRAINs of the slots freed (R24, R11). -/
structure LossNotices (t : TenantId) (own : List CarrierId) (s : State) (drains : List Notice)
    (cancelled : List CarrierId) : Prop where
  sublist : List.Sublist cancelled own
  ended : ∀ c ∈ own, (s.carrier c).state = .draining → c ∈ cancelled
  drained : ∀ c ∈ cancelled, (s.carrier c).state = .draining
    ∨ ((s.carrier c).state = .on ∧ ∃ deadline, Notice.drain c deadline ∈ drains)
  cancels : drains.filter (fun n => !n.isDrain) = cancelled.map (fun c => Notice.drainCancel c .powerLost)

/-- What loss of power at the members of a list leaves and posts. -/
structure MembersUnpowered (l : List CarrierId) (s u : State) : Prop where
  frame : DrainFrame s u
  others : ∀ p, p = .plant ∨ p = .fleet → ∃ dones, DonesOnly dones ∧ u.port p = dones.foldl PortState.post (s.port p)
  members : ∀ c ∈ l, u.carrier c = (s.carrier c).unpowered
  rest : ∀ c, c ∉ l → DrainedAtMost (s.carrier c) (u.carrier c)
  tenants : l.Nodup → ∀ t, ∃ drains cancelled,
    LossNotices t (l.filter (fun c => (s.carrier c).ownedBy t)) s drains cancelled
      ∧ u.port (.tenant t) = drains.foldl PortState.post (s.port (.tenant t))

namespace MembersUnpowered
variable {s u : State} {c : CarrierId} {l : List CarrierId}

theorem provision (h : MembersUnpowered l s u) (c : CarrierId) : (u.carrier c).provision = (s.carrier c).provision := by
  by_cases hc : c ∈ l
  · rw [h.members c hc, unpowered_provision]
  · exact (h.rest c hc).provision

theorem nil (s : State) : MembersUnpowered [] s s where
  frame := DrainFrame.refl s
  others p _ := ⟨[], by simp [DonesOnly], rfl⟩
  members c hc := absurd hc List.not_mem_nil
  rest c _ := .inl rfl
  tenants _ t := ⟨[], [], ⟨List.Sublist.refl _, by simp, by simp, rfl⟩, rfl⟩

/-- Where the record alone changes, no notice comes. -/
theorem memberLosesPower_record (h : (s.carrier c).state ≠ .draining) :
    s.memberLosesPower c = s.setCarrier c (s.carrier c).unpowered := by
  have hself : s.setCarrier c (s.carrier c) = s := by simp [State.setCarrier, State.carrier]
  cases hstate : (s.carrier c).state <;> simp_all [State.memberLosesPower, Carrier.unpowered]

/-- One member of a list, before the others. -/
structure First (c : CarrierId) (s u : State) : Prop where
  frame : DrainFrame s u
  others : ∀ p, p = .plant ∨ p = .fleet → ∃ dones, DonesOnly dones ∧ u.port p = dones.foldl PortState.post (s.port p)
  self : u.carrier c = (s.carrier c).unpowered
  rest : ∀ d, d ≠ c → DrainedAtMost (s.carrier d) (u.carrier d)
  tenants : ∀ t, ∃ cancels drains : List Notice,
    cancels = (if (s.carrier c).state = .draining ∧ (s.carrier c).ownedBy t = true then
      [Notice.drainCancel c .powerLost] else []) ∧ (∀ n ∈ drains, n.isDrain = true)
      ∧ u.port (.tenant t) = (cancels ++ drains).foldl PortState.post (s.port (.tenant t))
      ∧ ∀ d, d ≠ c → (s.carrier d).ownedBy t = true → (s.carrier d).state ≠ .draining →
        (u.carrier d).state = .draining → ∃ deadline, Notice.drain d deadline ∈ drains

theorem first (s : State) (c : CarrierId) : First c s (s.memberLosesPower c) := by
  by_cases hdraining : (s.carrier c).state = .draining
  · let lost := s.setCarrier c (s.carrier c).lostPower
    let told := lost.postOwner c (.drainCancel c .powerLost)
    let reported := told.reportOutcome (s.carrier c).drainChannel .declined
    have heq : s.memberLosesPower c = reported.offerOwnersSlots c := by simp only [State.memberLosesPower, hdraining]; rfl
    have hoffer := SlotOffer.offerOwnersSlots reported c
    have hdone : DoneFrame told reported := DoneFrame.reportOutcome _ _ _
    have hcarrier : ∀ d, reported.carrier d = if d = c then (s.carrier c).lostPower else s.carrier d := fun d => by
      rw [reportOutcome_carrier, postOwner_carrier, carrier_setCarrier]
    have hlost : (s.carrier c).unpowered = (s.carrier c).lostPower := by simp [Carrier.unpowered, hdraining]
    have hframe : DrainFrame s reported :=
      (((DrainFrame.refl s).setCarrier c _).trans (postOwner_drainFrame lost c _)).trans (reportOutcome_drainFrame told _ _)
    rw [heq]
    refine ⟨hframe.trans hoffer.frame, fun p hp => ?_, ?_, fun d hd => ?_, fun t => ?_⟩
    · obtain ⟨xs, hxs, hport⟩ := hdone.others p
      obtain ⟨ys, hys, hport'⟩ := hoffer.others p hp
      rw [postOwner_other _ _ _ hp, setCarrier_port] at hport
      exact ⟨xs ++ ys, hxs.append hys, by rw [hport', hport, List.foldl_append]⟩
    · have hkept := (hoffer.carriers c).atMost
      rw [hcarrier, if_pos rfl] at hkept
      rw [hlost]
      exact hkept.eq_of_ne_on nofun
    · have hkept := (hoffer.carriers d).atMost
      rwa [hcarrier, if_neg hd] at hkept
    · obtain ⟨drains, hdrains, hport, hnew⟩ := hoffer.tenants t
      refine ⟨_, drains, rfl, hdrains, ?_, fun d hd howner hnot hdrained => hnew d ?_ ?_ hdrained⟩
      · have howned : ((s.carrier c).lostPower).ownedBy t = (s.carrier c).ownedBy t := rfl
        rw [hport, hdone.tenants, postOwner_tenant, carrier_setCarrier, if_pos rfl, howned, setCarrier_port]
        simp only [hdraining, true_and]
        split <;> rfl
      · rwa [hcarrier, if_neg hd]
      · rwa [hcarrier, if_neg hd]
  · rw [memberLosesPower_record hdraining]
    refine ⟨(DrainFrame.refl s).setCarrier c _, fun p _ => ⟨[], by simp [DonesOnly], rfl⟩, by simp, fun d hd => ?_,
      fun t => ⟨_, [], rfl, by simp, ?_, fun d hd _ hnot hdrained => ?_⟩⟩
    · exact .inl (by rw [carrier_setCarrier, if_neg hd])
    · rw [if_neg fun hboth => hdraining hboth.1]
      rfl
    · rw [carrier_setCarrier, if_neg hd] at hdrained
      exact absurd hdrained hnot

end MembersUnpowered

namespace MembersUnpowered
variable {s t u : State} {c : CarrierId} {l : List CarrierId}

theorem First.provision (h : First c s t) (d : CarrierId) : (t.carrier d).provision = (s.carrier d).provision := by
  by_cases hd : d = c
  · rw [hd, h.self, unpowered_provision]
  · exact (h.rest d hd).provision

/-- A drain that has begun goes on until its own member loses power. -/
theorem First.draining (h : First c s t) {d : CarrierId} (hd : d ≠ c) (hdraining : (s.carrier d).state = .draining) :
    (t.carrier d).state = .draining := by
  rw [(h.rest d hd).eq_of_ne_on (by simp [hdraining]), hdraining]

/-- The notices of the first member, and then those of the others. -/
theorem First.notices (h : First c s t) (hc : c ∉ l) {x : TenantId} {cancels drains drains' : List Notice}
    {cancelled : List CarrierId}
    (hcancels : cancels = if (s.carrier c).state = .draining ∧ (s.carrier c).ownedBy x = true then
      [Notice.drainCancel c .powerLost] else []) (hdrains : ∀ n ∈ drains, n.isDrain = true)
    (hnew : ∀ d, d ≠ c → (s.carrier d).ownedBy x = true → (s.carrier d).state ≠ .draining →
        (t.carrier d).state = .draining → ∃ deadline, Notice.drain d deadline ∈ drains)
    (k : LossNotices x (l.filter (fun d => (s.carrier d).ownedBy x)) t drains' cancelled) :
    LossNotices x ((c :: l).filter (fun d => (s.carrier d).ownedBy x)) s (cancels ++ drains ++ drains')
      ((if (s.carrier c).state = .draining ∧ (s.carrier c).ownedBy x = true then [c] else []) ++ cancelled) := by
  have hne : ∀ d ∈ l, d ≠ c := fun d hd hdc => hc (hdc ▸ hd)
  have hfirst : drains.filter (fun n => !n.isDrain) = [] :=
    List.filter_eq_nil_iff.mpr fun n hn => by simp [hdrains n hn]
  have hown : ∀ d ∈ cancelled, d ∈ l ∧ (s.carrier d).ownedBy x = true := fun d hd =>
    List.mem_filter.mp (k.sublist.subset hd)
  refine ⟨?_, fun d hd hdraining => ?_, fun d hd => ?_, ?_⟩
  · rw [List.filter_cons]
    split
    · next hboth =>
      rw [if_pos hboth.2]
      exact k.sublist.cons_cons c
    · split
      · exact k.sublist.cons c
      · exact k.sublist
  · obtain ⟨hmem, howner⟩ := List.mem_filter.mp hd
    rcases List.mem_cons.mp hmem with rfl | hdl
    · rw [if_pos ⟨hdraining, howner⟩]
      exact List.mem_append_left _ (List.mem_singleton_self _)
    · exact List.mem_append_right _
        (k.ended d (List.mem_filter.mpr ⟨hdl, howner⟩) (h.draining (hne d hdl) hdraining))
  · rcases List.mem_append.mp hd with hdc | hdl
    · split at hdc
      · next hboth =>
        obtain rfl := List.mem_singleton.mp hdc
        exact .inl hboth.1
      · exact absurd hdc List.not_mem_nil
    · obtain ⟨hmem, howner⟩ := hown d hdl
      by_cases hdraining : (s.carrier d).state = .draining
      · exact .inl hdraining
      · rcases h.rest d (hne d hmem) with hsame | ⟨hon, -⟩
        · rcases k.drained d hdl with hdraining' | ⟨hon, deadline, hdrain⟩
          · rw [hsame] at hdraining'
            exact absurd hdraining' hdraining
          · rw [hsame] at hon
            exact .inr ⟨hon, deadline, List.mem_append_right _ hdrain⟩
        · rcases k.drained d hdl with hdraining' | ⟨-, deadline, hdrain⟩
          · obtain ⟨deadline, hdrain⟩ := hnew d (hne d hmem) howner hdraining hdraining'
            exact .inr ⟨hon, deadline, List.mem_append_left _ (List.mem_append_right _ hdrain)⟩
          · exact .inr ⟨hon, deadline, List.mem_append_right _ hdrain⟩
  · rw [List.filter_append, List.filter_append, hfirst, k.cancels, List.append_nil, List.map_append, hcancels]
    split <;> rfl

theorem cons (h : First c s t) (k : MembersUnpowered l t u) : MembersUnpowered (c :: l) s u where
  frame := h.frame.trans k.frame
  others p hp := by
    obtain ⟨xs, hxs, hport⟩ := h.others p hp
    obtain ⟨ys, hys, hport'⟩ := k.others p hp
    exact ⟨xs ++ ys, hxs.append hys, by rw [hport', hport, List.foldl_append]⟩
  members d hd := by
    by_cases hdc : d = c
    · subst hdc
      by_cases hdl : d ∈ l
      · rw [k.members d hdl, h.self, unpowered_unpowered]
      · rw [(k.rest d hdl).eq_of_ne_on (by rw [h.self]; exact unpowered_state_ne_on _), h.self]
    · rw [k.members d (List.mem_of_ne_of_mem hdc hd), (h.rest d hdc).unpowered]
  rest d hd := by
    rw [List.mem_cons, not_or] at hd
    exact (h.rest d hd.1).trans (k.rest d hd.2)
  tenants hl x := by
    obtain ⟨hc, hl⟩ := List.nodup_cons.mp hl
    obtain ⟨cancels, drains, hcancels, hdrains, hport, hnew⟩ := h.tenants x
    obtain ⟨drains', cancelled, hnotices, hport'⟩ := k.tenants hl x
    have hown : l.filter (fun d => (t.carrier d).ownedBy x) = l.filter (fun d => (s.carrier d).ownedBy x) :=
      List.filter_congr fun d _ => ownedBy_congr (h.provision d) x
    rw [hown] at hnotices
    exact ⟨_, _, h.notices hc hcancels hdrains hnew hnotices, by rw [hport', hport, ← List.foldl_append]⟩

theorem foldl (l : List CarrierId) (s : State) :
    MembersUnpowered l s (l.foldl (fun u c => u.memberLosesPower c) s) := by
  induction l generalizing s with
  | nil => exact nil s
  | cons c l ih => exact cons (first s c) (ih _)

end MembersUnpowered

/-! ## BRANCH_DOWN (R24) -/

theorem BlocksKept.trans {s t u : State} (h : BlocksKept s t) (k : BlocksKept t u) : BlocksKept s u := by
  simp_all [BlocksKept]

theorem foldl_branchDown (l : List CarrierId) (s : State) (b : BranchId) :
    BlocksKept s (l.foldl (fun u c => u.postOwner c (.branchDown c b)) s)
      ∧ (∀ p, p = .plant ∨ p = .fleet → (l.foldl (fun u c => u.postOwner c (.branchDown c b)) s).port p = s.port p)
      ∧ ∀ t, (l.foldl (fun u c => u.postOwner c (.branchDown c b)) s).port (.tenant t) =
          ((l.filter (fun c => (s.carrier c).ownedBy t)).map (fun c => Notice.branchDown c b)).foldl PortState.post
            (s.port (.tenant t)) := by
  induction l generalizing s with
  | nil => exact ⟨⟨rfl, rfl, rfl, rfl, rfl, rfl, rfl, rfl⟩, fun _ _ => rfl, fun _ => rfl⟩
  | cons c l ih =>
    have hblocks : BlocksKept s (s.postOwner c (.branchDown c b)) := by
      unfold State.postOwner
      split <;> exact ⟨rfl, rfl, rfl, rfl, rfl, rfl, rfl, rfl⟩
    obtain ⟨hkept, hother, htenant⟩ := ih (s.postOwner c (.branchDown c b))
    rw [List.foldl_cons]
    refine ⟨BlocksKept.trans hblocks hkept, fun p hp => (hother p hp).trans (postOwner_other _ _ _ hp), fun t => ?_⟩
    rw [htenant, postOwner_tenant, List.filter_cons]
    simp only [postOwner_carrier]
    split <;> rfl

/-! ## "Power lost" at the Carrier Table and at the branch (R24, R68) -/

section LosePower
variable {s : State} {b : BranchId}

/-- The state with the branch FAULTED and power taken from its members. -/
def State.unpowered (s : State) (b : BranchId) : State :=
  (s.branch b).members.foldl (fun u c => u.memberLosesPower c) (s.setBranch b ((s.branch b).enter .faulted))

/-- BRANCH_DOWN to the owners of the members. -/
def State.branchDown (s : State) (b : BranchId) (members : List CarrierId) : State :=
  members.foldl (fun u c => u.postOwner c (.branchDown c b)) s

/-- The record that loss of power pushes (R68, R165). -/
def State.powerLostRecord (s : State) (b : BranchId) : FaultRecord :=
  .ofBranch .powerLost b s.recordedTime (s.memberSnapshot b)

theorem unpowered_members (s : State) (b : BranchId) : MembersUnpowered (s.branch b).members
    (s.setBranch b ((s.branch b).enter .faulted)) (s.unpowered b) := MembersUnpowered.foldl _ _

/-- A FAULTED branch takes no report of its members. -/
theorem powerLostReports_ignored {R : Branch} (hR : R.state = .faulted) (snapshot : List (CarrierId × CarrierState))
    {u : State} (hu : u.branch b = R) :
    (powerLostReports b snapshot).foldl (fun v report => v.memberReport report) u = u := by
  unfold powerLostReports
  induction snapshot.filter (fun m => m.2 == .on || m.2 == .draining) with
  | nil => rfl
  | cons m l ih =>
    have hignored : u.memberReport (.waking b 7) = u := memberWaking_ignored (.inl (by rw [hu, hR]))
    rw [List.map_cons, List.foldl_cons, hignored, ih]

theorem carriersLosePower_branch (s : State) (b : BranchId) :
    ((s.unpowered b).branchDown b (s.branch b).members).branch b = (s.branch b).enter .faulted := by
  obtain ⟨hctrl, -⟩ := (unpowered_members s b).frame
  obtain ⟨⟨-, hctrl', -⟩, -⟩ := foldl_branchDown (s.branch b).members (s.unpowered b) b
  rw [State.branchDown, branch_congr hctrl', branch_congr hctrl, branch_setBranch, if_pos rfl]

theorem losePower_eq (s : State) (b : BranchId) : s.losePower b =
    ((s.unpowered b).branchDown b (s.branch b).members).pushFault (s.powerLostRecord b) := by
  have hbranch := carriersLosePower_branch s b
  obtain ⟨-, -, -, -, -, -, htimer, -⟩ := (unpowered_members s b).frame
  obtain ⟨⟨-, -, -, htimer', -⟩, -⟩ := foldl_branchDown (s.branch b).members (s.unpowered b) b
  have htime : ((s.unpowered b).branchDown b (s.branch b).members).recordedTime = s.recordedTime := by
    rw [State.branchDown, State.recordedTime, htimer', htimer]
    rfl
  have hlost : (s.enterBranch b .faulted).carriersLosePower b
      = (s.unpowered b).branchDown b (s.branch b).members := by
    rw [State.carriersLosePower, State.enterBranch, branch_setBranch, if_pos rfl]
    exact powerLostReports_ignored rfl _ hbranch
  rw [State.losePower, hlost, State.pushBranchFault, htime]
  rfl

end LosePower

section Lost
variable {s : State} {b : BranchId}

/-- The state when the members and their owners know, and the record is not yet pushed. -/
def State.powerLost (s : State) (b : BranchId) : State := (s.unpowered b).branchDown b (s.branch b).members

/-- What is as it was when the record is pushed. -/
theorem powerLost_frame (s : State) (b : BranchId) : (s.powerLost b).branch b = (s.branch b).enter .faulted
    ∧ (s.powerLost b).arb = s.arb ∧ (s.powerLost b).ctrl.bgd = s.ctrl.bgd ∧ (s.powerLost b).timer = s.timer
    ∧ (s.powerLost b).stack = s.stack := by
  obtain ⟨hctrl, harb, -, -, -, -, htimer, hstack, -⟩ := (unpowered_members s b).frame
  obtain ⟨⟨-, hctrl', harb', htimer', -, -, hstack', -⟩, -⟩ := foldl_branchDown (s.branch b).members (s.unpowered b) b
  refine ⟨carriersLosePower_branch s b, harb'.trans harb, ?_, htimer'.trans htimer, hstack'.trans hstack⟩
  rw [State.powerLost, State.branchDown, hctrl', hctrl]
  rfl

theorem powerLost_carrier (s : State) (b : BranchId) {c : CarrierId} (hc : c ∈ (s.branch b).members) :
    (s.powerLost b).carrier c = (s.carrier c).unpowered := by
  obtain ⟨⟨htable, -⟩, -⟩ := foldl_branchDown (s.branch b).members (s.unpowered b) b
  rw [State.powerLost, State.branchDown, carrier_congr htable, (unpowered_members s b).members c hc,
    setBranch_carrier]

theorem powerLost_other (s : State) (b : BranchId) {p : Port} (hp : p = .plant ∨ p = .fleet) :
    ∃ dones, DonesOnly dones ∧ (s.powerLost b).port p = dones.foldl PortState.post (s.port p) := by
  obtain ⟨-, hother, -⟩ := foldl_branchDown (s.branch b).members (s.unpowered b) b
  obtain ⟨dones, honly, hport⟩ := (unpowered_members s b).others p hp
  exact ⟨dones, honly, (hother p hp).trans hport⟩

theorem powerLost_tenant (s : State) (b : BranchId) (hl : (s.branch b).members.Nodup) (t : TenantId) :
    ∃ drains cancelled, LossNotices t ((s.branch b).members.filter (fun c => (s.carrier c).ownedBy t)) s drains cancelled
      ∧ (s.powerLost b).port (.tenant t) = (drains ++ ((s.branch b).members.filter
        (fun c => (s.carrier c).ownedBy t)).map (fun c => Notice.branchDown c b)).foldl PortState.post
          (s.port (.tenant t)) := by
  have hmembers := unpowered_members s b
  obtain ⟨-, -, htenant⟩ := foldl_branchDown (s.branch b).members (s.unpowered b) b
  obtain ⟨drains, cancelled, hnotices, hport⟩ := hmembers.tenants hl t
  have hown : (s.branch b).members.filter (fun c => ((s.unpowered b).carrier c).ownedBy t)
      = (s.branch b).members.filter (fun c => (s.carrier c).ownedBy t) :=
    List.filter_congr fun c _ => ownedBy_congr (hmembers.provision c) t
  refine ⟨drains, cancelled, ⟨hnotices.sublist, hnotices.ended, hnotices.drained, hnotices.cancels⟩, ?_⟩
  rw [State.powerLost, State.branchDown, htenant, hown, hport, List.foldl_append]
  rfl

theorem losePower_pushes (s : State) (b : BranchId) :
    s.losePower b = (s.powerLost b).pushFault (s.powerLostRecord b) := losePower_eq s b

theorem losePower_pushesOn (s : State) (b : BranchId) : PushesOn s (s.losePower b) (s.powerLostRecord b) := by
  obtain ⟨-, -, -, htimer, hstack⟩ := powerLost_frame s b
  rw [losePower_pushes]
  exact (pushFault_pushesOn _ _).of_same hstack htimer

theorem losePower_branch (hwaits : ¬ s.arb.Queues b) : (s.losePower b).branch b = (s.branch b).enter .faulted := by
  obtain ⟨hbranch, harb, -⟩ := powerLost_frame s b
  rw [losePower_pushes, (LeavesBranch.pushFault rfl hbranch _ (by rwa [harb])).1, hbranch]

/-- A push without a double fault leaves every record, and posts FAULT to the plant port alone. -/
theorem pushFault_kept {r : FaultRecord} (h : s.halted = true ∨ s.stack.records.length < 8) :
    (s.pushFault r).table = s.table ∧ (s.pushFault r).ctrl = s.ctrl ∧ (s.pushFault r).timer = s.timer
      ∧ (∀ t, (s.pushFault r).port (.tenant t) = s.port (.tenant t))
      ∧ (s.halted = false → (s.pushFault r).port .plant = (s.port .plant).post (.fault r.failure)) := by
  cases hs : s.halted with
  | true =>
    rw [pushFault_halted hs]
    exact ⟨rfl, rfl, rfl, fun _ => rfl, nofun⟩
  | false =>
    rw [pushFault_room hs (h.resolve_left (by simp [hs]))]
    exact ⟨rfl, rfl, rfl, fun t => by simp, fun _ => by simp⟩

theorem pushFault_aside (s : State) (r : FaultRecord) :
    (s.pushFault r).timer = s.timer ∧ (s.pushFault r).ctrl.bgd = s.ctrl.bgd := by
  by_cases h : s.halted = true ∨ s.stack.records.length < 8
  · obtain ⟨-, hctrl, htimer, -⟩ := pushFault_kept (r := r) h
    exact ⟨htimer, by rw [hctrl]⟩
  · rw [not_or, Bool.not_eq_true, Nat.not_lt] at h
    rw [pushFault_full h.1 h.2]
    exact ⟨enterHalt_timer h.1 _, (enterHalt_reacted s _).bgd⟩

end Lost

/-! ## The edges of BGD (R51) -/

section Edges
variable {s : State} {b : BranchId}

theorem exec_bgdFall (s : State) (b : BranchId) :
    exec (.bgdFall b) s = .next (if s.bgd b = true then (s.setBgd b false).bgdFalls b else s) := rfl

theorem exec_bgdRise (s : State) (b : BranchId) :
    exec (.bgdRise b) s = .next (if s.bgd b = true then s else (s.setBgd b true).bgdRises b) := rfl

theorem bgdFalls_ignored (h : (s.branch b).state ∉ [BranchState.lowering, .powered, .settling]) : s.bgdFalls b = s := by
  unfold State.bgdFalls
  cases hstate : (s.branch b).state <;> simp [hstate] at h ⊢

theorem bgdFalls_lowering (h : (s.branch b).state = .lowering) : s.bgdFalls b = s.goDark b := by
  simp only [State.bgdFalls, h]

theorem bgdFalls_losesPower (h : (s.branch b).state = .powered ∨ (s.branch b).state = .settling) :
    s.bgdFalls b = s.losePower b := by
  rcases h with h | h <;> simp only [State.bgdFalls, h]

theorem bgdRises_ignored (h : (s.branch b).state ≠ .raising) : s.bgdRises b = s := by
  unfold State.bgdRises
  cases hstate : (s.branch b).state <;> simp [hstate] at h ⊢

theorem bgdRises_raising (h : (s.branch b).state = .raising) :
    s.bgdRises b = s.powerGood State.considerGrants b := by simp only [State.bgdRises, h]

theorem anyMemberWaking_iff :
    s.anyMemberWaking b = true ↔ ∃ c ∈ (s.branch b).members, (s.carrier c).state = .waking := by
  simp [State.anyMemberWaking]

/-- A branch goes DARK, and on to QUEUED where it is wanted (R63). -/
theorem goDark_eq (s : State) (b : BranchId) :
    (((∃ c ∈ (s.branch b).members, (s.carrier c).state = .waking) ∨ (s.branch b).wakeSeen = true
        ∨ (s.branch b).lineMode = .pinned) →
      s.goDark b = (s.setBranch b ((s.branch b).enter .dark)).enterQueued b (max 1 (s.highestWake b)))
    ∧ (¬ ((∃ c ∈ (s.branch b).members, (s.carrier c).state = .waking) ∨ (s.branch b).wakeSeen = true
        ∨ (s.branch b).lineMode = .pinned) →
      s.goDark b = s.setBranch b ((s.branch b).enter .dark)) := by
  have hdark : (s.enterBranch b .dark).branch b = (s.branch b).enter .dark := by
    rw [State.enterBranch, branch_setBranch, if_pos rfl]
  have hwaking : (s.enterBranch b .dark).anyMemberWaking b = true
      ↔ ∃ c ∈ (s.branch b).members, (s.carrier c).state = .waking := by
    rw [anyMemberWaking_iff, hdark]
    rfl
  have hhighest : (s.enterBranch b .dark).highestWake b = s.highestWake b := by
    rw [State.highestWake, hdark]
    rfl
  unfold State.goDark
  dsimp only
  simp only [hwaking, hdark, hhighest]
  exact ⟨fun h => if_pos h, fun h => if_neg h⟩

end Edges

/-! ## What loss of power leaves and posts (R24, R68) -/

section Outcome
variable {s : State} {b : BranchId}

theorem powerLost_halted (s : State) (b : BranchId) : (s.powerLost b).halted = s.halted := by
  obtain ⟨-, -, -, -, hstack⟩ := powerLost_frame s b
  rw [State.halted, hstack, State.halted]

theorem powerLost_noDoubleFault (h : s.halted = true ∨ s.stack.records.length < 8) :
    (s.powerLost b).halted = true ∨ (s.powerLost b).stack.records.length < 8 := by
  obtain ⟨-, -, -, -, hstack⟩ := powerLost_frame s b
  rwa [powerLost_halted, hstack]

theorem losePower_aside (s : State) (b : BranchId) :
    (s.losePower b).timer = s.timer ∧ (s.losePower b).ctrl.bgd = s.ctrl.bgd := by
  obtain ⟨-, -, hbgd, htimer, -⟩ := powerLost_frame s b
  obtain ⟨htimer', hbgd'⟩ := pushFault_aside (s.powerLost b) (s.powerLostRecord b)
  rw [losePower_pushes]
  exact ⟨htimer'.trans htimer, hbgd'.trans hbgd⟩

theorem losePower_carrier (h : s.halted = true ∨ s.stack.records.length < 8) {c : CarrierId}
    (hc : c ∈ (s.branch b).members) : (s.losePower b).carrier c = (s.carrier c).unpowered := by
  obtain ⟨htable, -⟩ := pushFault_kept (r := s.powerLostRecord b) (powerLost_noDoubleFault (b := b) h)
  rw [losePower_pushes, carrier_congr htable, powerLost_carrier s b hc]

theorem unpowered_cases (r : Carrier) :
    (r.state = .on ∨ r.state = .draining → r.unpowered = { r with
      state := .waking, wakeLevel := some 7, unmuteSent := false, drainDeadline := none, liveDeadline := none,
      drainChannel := none })
    ∧ (r.state = .waking → r.unpowered = { r with unmuteSent := false, liveDeadline := none })
    ∧ (r.state = .resting → r.unpowered = r) := by
  refine ⟨fun h => ?_, fun h => ?_, fun h => ?_⟩
  · rcases h with h | h <;> simp only [Carrier.unpowered, h] <;> rfl
  · simp only [Carrier.unpowered, h]
  · simp only [Carrier.unpowered, h]

theorem losePower_tenant (s : State) {b : BranchId} (hl : (s.branch b).members.Nodup) (t : TenantId) :
    ∃ drains cancelled after,
      LossNotices t ((s.branch b).members.filter (fun c => (s.carrier c).ownedBy t)) s drains cancelled
      ∧ (s.halted = true ∨ s.stack.records.length < 8 → after = [])
      ∧ (s.losePower b).port (.tenant t) = (drains ++ ((s.branch b).members.filter
        (fun c => (s.carrier c).ownedBy t)).map (fun c => Notice.branchDown c b) ++ after).foldl PortState.post
          (s.port (.tenant t)) := by
  obtain ⟨drains, cancelled, hnotices, hport⟩ := powerLost_tenant s b hl t
  by_cases h : s.halted = true ∨ s.stack.records.length < 8
  · obtain ⟨-, -, -, htenant, -⟩ := pushFault_kept (r := s.powerLostRecord b) (powerLost_noDoubleFault (b := b) h)
    exact ⟨drains, cancelled, [], hnotices, fun _ => rfl, by rw [losePower_pushes, htenant, hport, List.append_nil]⟩
  · obtain ⟨after, -, hafter⟩ := (pushFault_posts (s.powerLost b) (s.powerLostRecord b)).1 (.tenant t)
    exact ⟨drains, cancelled, after, hnotices, fun hkept => absurd hkept h,
      by rw [losePower_pushes, hafter, hport, List.foldl_append (l' := after)]⟩

theorem losePower_plant (hs : s.halted = false) (hroom : s.stack.records.length < 8) :
    ∃ dones, DonesOnly dones ∧ (s.losePower b).port .plant
      = (dones ++ [Notice.fault (.powerLost b)]).foldl PortState.post (s.port .plant) := by
  obtain ⟨dones, honly, hport⟩ := powerLost_other s b (.inl rfl)
  obtain ⟨-, -, -, -, hplant⟩ :=
    pushFault_kept (r := s.powerLostRecord b) (powerLost_noDoubleFault (b := b) (.inr hroom))
  refine ⟨dones, honly, ?_⟩
  rw [losePower_pushes, hplant ((powerLost_halted s b).trans hs), hport, List.foldl_append]
  rfl

end Outcome

/-- Settles O45: each edge by the state of the branch; loss of power by what it does to the members, to their owners
and to the Fault Stack, in this order. -/
theorem powerGoodEdgesActOnTheBranch : Obligations.PowerGoodEdgesActOnTheBranch := by
  unfold Obligations.PowerGoodEdgesActOnTheBranch
  refine ⟨fun b s => ⟨fun hlow => ?_, fun hhigh => ?_⟩, fun b s hhigh => ?_, fun b s hlow => ?_⟩
  · rw [exec_bgdFall, if_neg (by simp [hlow])]
  · rw [exec_bgdRise, if_pos hhigh]
  · have hfall : exec (.bgdFall b) s = .next ((s.setBgd b false).bgdFalls b) := by rw [exec_bgdFall, if_pos hhigh]
    rw [hfall]
    refine ⟨fun h => ?_, fun h => ?_, fun h hwaits => ?_⟩
    · rw [bgdFalls_ignored (s := s.setBgd b false) h]
    · obtain ⟨hagain, hdark⟩ := goDark_eq (s.setBgd b false) b
      rw [bgdFalls_lowering (s := s.setBgd b false) h]
      exact ⟨fun hwanted => congrArg _ (hagain hwanted), fun hwanted => congrArg _ (hdark hwanted)⟩
    · have hbranch : ((s.setBgd b false).losePower b).branch b = (s.branch b).enter .faulted :=
        losePower_branch (s := s.setBgd b false) hwaits
      obtain ⟨htimer, hbgd⟩ := losePower_aside (s.setBgd b false) b
      obtain ⟨hhalted, hroom, hfull⟩ := losePower_pushesOn (s.setBgd b false) b
      rw [bgdFalls_losesPower (s := s.setBgd b false) h]
      refine ⟨_, rfl, ?_, htimer, ((OnlyPosts.refl s).setBgd b false).trans (losePower_posts _ b), hbranch, ?_,
        fun hkept c hc => ?_, fun hl tenant => ?_, fun hs hplace => losePower_plant hs hplace, hhalted, hroom,
        fun hs hplace => ?_⟩
      · rw [State.bgd, hbgd]
        simp [State.setBgd]
      · rw [State.ben, hbranch]
        rfl
      · rw [losePower_carrier (s := s.setBgd b false) hkept hc]
        exact unpowered_cases (s.carrier c)
      · obtain ⟨drains, cancelled, after, hnotices, hafter, hport⟩ :=
          losePower_tenant (s.setBgd b false) (hl.imp fun hlt => Fin.ne_of_lt hlt) tenant
        exact ⟨drains, cancelled, after, hnotices.sublist, hnotices.ended, hnotices.drained, hnotices.cancels, hafter,
          hport⟩
      · rw [hfull hs hplace]
        exact ⟨rfl, rfl⟩
  · have hrise : exec (.bgdRise b) s = .next ((s.setBgd b true).bgdRises b) := by
      rw [exec_bgdRise, if_neg (by simp [hlow])]
    rw [hrise]
    refine ⟨fun h => ?_, fun h => ?_⟩
    · rw [bgdRises_ignored (s := s.setBgd b true) h]
    · rw [bgdRises_raising (s := s.setBgd b true) h, powerGood_eq]
      rfl

end Sys2Proof.Machine
